-- ==== Sys2Proof/Word.lean ====
section
/-! DEFINITION. The words of the ring and of the time base (12 and 11 of the spec). -/

namespace Sys2Proof

/-- One byte of a frame or of a record. -/
abbrev Byte := BitVec 8

/-- A check word, a round count or a node round number: 16 bits. -/
abbrev Half := BitVec 16

/-- A value of the millisecond time base, a cycle number or a sequence number: 32 bits, wrapping (R185). -/
abbrev Time := BitVec 32

/-- Milliseconds from `since` to `now`, modulo 2^32 (R185). -/
def elapsed (now since : Time) : Nat := (now - since).toNat

end Sys2Proof
end

