-- ==== Sys2Proof/Syntax.lean ====
section
/-! DEFINITION. The commands of the block: one constructor of `Instr` per row of spec/opcode_table.json, with the row's operands.

A row of the ring side carries a frame. A sample row fixes the frame's kind byte. A management request carries the header of its frame
and the fields of its body, each as the number the wire can carry: a value out of range is an operand like any other, and the rule of
the request answers it. -/

namespace Sys2Proof

/-- A frame on the ring (12.1). -/
structure Frame where
  dest : Byte
  src : Byte
  kind : Byte
  hops : Byte
  seq : Byte
  length : Byte
  payload : List Byte
  check : Half
deriving DecidableEq, Repr, Inhabited

/-- A frame whose kind byte the row of the command fixes. -/
structure SampleFrame where
  dest : Byte
  src : Byte
  hops : Byte
  seq : Byte
  length : Byte
  payload : List Byte
  check : Half
deriving DecidableEq, Repr, Inhabited

/-- The frame of kind `k` with the bytes of `f`. -/
def SampleFrame.frame (f : SampleFrame) (k : Byte) : Frame :=
  { dest := f.dest, src := f.src, kind := k, hops := f.hops, seq := f.seq, length := f.length, payload := f.payload, check := f.check }

/-- The header bytes of a MGMT-REQUEST that a typed request row leaves open. -/
structure ReqHeader where
  dest : Byte
  src : Byte
  hops : Byte
  seq : Byte
deriving DecidableEq, Repr, Inhabited

/-! ### Table contents as the wire carries them -/

/-- The fields of a route entry that are kept as written (R172). `station` is 255 for none. -/
structure RouteFields where
  address : Nat
  role : Nat
  station : Nat
  silence : Nat
deriving DecidableEq, Repr, Inhabited

/-- The body of an ENTRY-WRITE of a route entry; a written `owned` is ignored (R172). -/
structure RouteWrite extends RouteFields where
  present : Nat
  owned : Nat
deriving DecidableEq, Repr, Inhabited

/-- Station settings but for the bound recipe (R2). -/
structure StationSettings where
  budget : Nat
  roundPeriod : Nat
  readyDwell : Nat
  holdTime : Nat
  closedThreshold : Nat
  minTonnage : Nat
  forceLimit : Nat
  retractThreshold : Nat
deriving DecidableEq, Repr, Inhabited

/-- The numbers of a zone entry (R27). -/
structure ZoneFigures where
  offset : Nat
  gain : Nat
  trim : Int
  depth : Nat
  kp : Nat
  ki : Nat
  integralLimit : Nat
  bandLow : Nat
  bandHigh : Nat
  overTemp : Nat
  runaway : Nat
deriving DecidableEq, Repr, Inhabited

/-- The body of an ENTRY-WRITE of a zone entry (R27, R28). -/
structure ZoneWrite extends ZoneFigures where
  present : Nat
  group : Nat
  cureRef : Nat
deriving DecidableEq, Repr, Inhabited

/-- A fixed setpoint with its feed-forward (R31). -/
structure SetPoint where
  temp : Nat
  ff : Nat
deriving DecidableEq, Repr, Inhabited

/-- A cure step (R31). -/
structure CureStep where
  temp : Nat
  len : Nat
  threshold : Nat
  ff : Nat
deriving DecidableEq, Repr, Inhabited

/-- One copy of a profile (R31). -/
structure Profile where
  idle : SetPoint
  park : SetPoint
  hold : SetPoint
  opening : SetPoint
  defaultLen : Nat
  steps : List CureStep
deriving DecidableEq, Repr, Inhabited

/-- The numbers of a recipe (R121). Masses are signed on the wire (R190). -/
structure RecipeFigures where
  nominalMass : Int
  lowerTol : Int
  upperTol : Int
  minPieces : Nat
  pieceLimit : Nat
  pieceWait : Nat
  baseTemp : Nat
  eBase : Nat
  eMin : Nat
  eMax : Nat
  massCoeff : Int
  wallMin : Nat
  wallMax : Nat
  excursionLimit : Nat
  loadTimeout : Nat
  openThreshold : Nat
  openTimeout : Nat
  ejectStroke : Nat
  releaseThreshold : Nat
  initialForce : Nat
  forceStep : Nat
  retryLimit : Nat
  attemptTimeout : Nat
  settleDwell : Nat
deriving DecidableEq, Repr, Inhabited

/-- The body of an ENTRY-WRITE of a recipe; a written revision is ignored (R122). -/
structure RecipeWrite extends RecipeFigures where
  present : Nat
  revision : Nat
  profiles : Vector Nat 4
  rateTable : Nat
deriving DecidableEq, Repr, Inhabited

/-- The weigher settings (R97). -/
structure WeigherSettings where
  zero : Int
  span : Nat
  capacity : Int
  presenceOn : Int
  presenceOff : Int
  band : Int
  settleTimeout : Nat
  pieceThreshold : Int
  minPiece : Int
  runOn : Nat
  zeroTrack : Int
  sampleInterval : Nat
  clearTimeout : Nat
deriving DecidableEq, Repr, Inhabited

/-- The body of an ENTRY-WRITE of the history settings (R157). -/
structure HistoryWrite where
  policy : Nat
  backlog : Nat
  lowWater : Nat
  autoSend : Nat
deriving DecidableEq, Repr, Inhabited

/-! ### Management requests -/

/-- A management request as its body spells it (R179, 12.1). `unknown` is a request of a kind that is none of the seventeen;
`malformed` is a request of a known kind whose length does not fit or whose selector names nothing (R179). -/
inductive Request where
  | ping
  | modeSet (mode : Nat)
  | restart
  | entryWriteRoute (entry : Nat) (w : RouteWrite)
  | entryReadRoute (entry : Nat)
  | entryWriteStation (station : Nat) (w : StationSettings) (boundRecipe : Nat)
  | entryReadStation (station : Nat)
  | entryWriteZone (station zone : Nat) (w : ZoneWrite)
  | entryReadZone (station zone : Nat)
  | entryWriteProfile (profile : Nat) (w : Profile)
  | entryReadProfile (profile copy : Nat)
  | entryWriteRecipe (recipe : Nat) (w : RecipeWrite)
  | entryReadRecipe (recipe : Nat)
  | entryWriteRate (table entry factor : Nat)
  | entryReadRate (table entry : Nat)
  | entryWriteWeigher (w : WeigherSettings)
  | entryReadWeigher
  | entryWriteHistory (w : HistoryWrite)
  | entryReadHistory
  | profilesApply
  | start (station : Nat)
  | stop (station : Nat)
  | abort (station : Nat)
  | park (station : Nat)
  | unpark (station : Nat)
  | online (station : Nat)
  | offline (station : Nat)
  | bind (station recipe : Nat)
  | clear (station : Nat)
  | stationCommandUnknown (command station : Nat)
  | zoneClear (station zone : Nat)
  | tare
  | reset
  | weigherCommandUnknown (command : Nat)
  | statusDevice
  | statusStation (station : Nat)
  | statusWeigher
  | statusStore
  | historyRead
  | historySpace (direction count : Nat)
  | historyRewind
  | historyRelease
  | lotMark (lot : Nat)
  | auto (on : Nat)
  | noticeMask (settings : Vector Nat 11)
  | unknown (kind : Byte) (body : List Byte)
  | malformed (kind : Byte)
deriving DecidableEq, Repr, Inhabited

/-! ### The commands -/

/-- The commands of the block: one constructor per row of spec/opcode_table.json, in the table's order. -/
inductive Instr where
  | powerOnReset (straps : BitVec 6)
  | ringInFrame (f : Frame)
  | heatSample (f : SampleFrame)
  | pressSample (f : SampleFrame)
  | ejectSample (f : SampleFrame)
  | weighSample (f : SampleFrame)
  | silenceExpiry (entry : Fin 32)
  | holdExpiry (station : Fin 6)
  | loadTimeout (station : Fin 6)
  | wallMinimumExpiry (station : Fin 6)
  | wallMaximumExpiry (station : Fin 6)
  | openTimeout (station : Fin 6)
  | attemptTimerExpiry (station : Fin 6)
  | pieceWaitExpiry
  | settleTimerExpiry
  | clearTimerExpiry
  | transmissionEnd
  | restartTakeEffect
  | noticeEmit
  | segmentPlace
  | autoSendStart
  | answerPartPlace
  | ping (h : ReqHeader)
  | modeSet (h : ReqHeader) (mode : Nat)
  | restart (h : ReqHeader)
  | entryWriteRoute (h : ReqHeader) (entry : Nat) (w : RouteWrite)
  | entryReadRoute (h : ReqHeader) (entry : Nat)
  | entryWriteStation (h : ReqHeader) (station : Nat) (w : StationSettings) (boundRecipe : Nat)
  | entryReadStation (h : ReqHeader) (station : Nat)
  | entryWriteZone (h : ReqHeader) (station zone : Nat) (w : ZoneWrite)
  | entryReadZone (h : ReqHeader) (station zone : Nat)
  | entryWriteProfile (h : ReqHeader) (profile : Nat) (w : Profile)
  | entryReadProfile (h : ReqHeader) (profile copy : Nat)
  | entryWriteRecipe (h : ReqHeader) (recipe : Nat) (w : RecipeWrite)
  | entryReadRecipe (h : ReqHeader) (recipe : Nat)
  | entryWriteRate (h : ReqHeader) (table entry factor : Nat)
  | entryReadRate (h : ReqHeader) (table entry : Nat)
  | entryWriteWeigher (h : ReqHeader) (w : WeigherSettings)
  | entryReadWeigher (h : ReqHeader)
  | entryWriteHistory (h : ReqHeader) (w : HistoryWrite)
  | entryReadHistory (h : ReqHeader)
  | profilesApply (h : ReqHeader)
  | start (h : ReqHeader) (station : Nat)
  | stop (h : ReqHeader) (station : Nat)
  | abort (h : ReqHeader) (station : Nat)
  | park (h : ReqHeader) (station : Nat)
  | unpark (h : ReqHeader) (station : Nat)
  | online (h : ReqHeader) (station : Nat)
  | offline (h : ReqHeader) (station : Nat)
  | bind (h : ReqHeader) (station recipe : Nat)
  | clear (h : ReqHeader) (station : Nat)
  | stationCommandUnknown (h : ReqHeader) (command station : Nat)
  | zoneClear (h : ReqHeader) (station zone : Nat)
  | tare (h : ReqHeader)
  | reset (h : ReqHeader)
  | weigherCommandUnknown (h : ReqHeader) (command : Nat)
  | statusDevice (h : ReqHeader)
  | statusStation (h : ReqHeader) (station : Nat)
  | statusWeigher (h : ReqHeader)
  | statusStore (h : ReqHeader)
  | historyRead (h : ReqHeader)
  | historySpace (h : ReqHeader) (direction count : Nat)
  | historyRewind (h : ReqHeader)
  | historyRelease (h : ReqHeader)
  | lotMark (h : ReqHeader) (lot : Nat)
  | auto (h : ReqHeader) (on : Nat)
  | noticeMask (h : ReqHeader) (settings : Vector Nat 11)
  | unknownRequest (h : ReqHeader) (kind : Byte) (body : List Byte)
deriving DecidableEq, Repr

end Sys2Proof
end

