-- ==== Sys2Proof/Decode.lean ====
section
/-! DEFINITION. The words of the opcode table. spec/opcode_table.json gives no row any bits, so no word spells a command: commands reach
the part as events and as frames, and `Machine.parseRequest` and the sample readers of Machine/Operands.lean read those. -/

namespace Sys2Proof

/-- The command a table word spells: none, since the table gives no row any bits. -/
def decodeTableWord (_nbits _w : Nat) : Option Instr := none

end Sys2Proof
end

