-- ==== Sys2Proof/Config.lean ====
section
/-! DEFINITION. What one part on one board fixes: the straps that State.reset reads, the identification of R189, the sizes of the
stores. No rule of the spec leaves a result undefined, so there is no free value here. -/

namespace Sys2Proof.Config

/-- DESIGN CHOICE (log entry 1): the six address straps that `State.reset` reads. The manual leaves them to the board; 12 is the node
address of its worked sequence 10.9. The command POWER_ON_RESET takes any strap value. -/
def straps : BitVec 6 := 12

/-- Vendor code, part code and silicon revision (R189). -/
def vendorCode : Nat := 23110
def partCode : Nat := 416
def siliconRevision : Nat := 3

/-- Bytes of the record ring (R149) and of one reservation (R128). -/
def ringBytes : Nat := 16384
def reservationBytes : Nat := 168

/-- Frames the forward buffer (R171) and the report queue (R177) hold at most. -/
def forwardDepth : Nat := 4
def reportDepth : Nat := 4

/-- Hops of a frame the part originates (R169). -/
def originHops : Byte := 32

/-- Data bytes of one history segment (R160) and body bytes of one answer part (R192). -/
def segmentBytes : Nat := 112
def partBytes : Nat := 116

/-- The longest payload of a frame (R170). -/
def maxPayload : Nat := 120

end Sys2Proof.Config
end

