-- ==== Sys2Proof/Machine/State.lean ====
section
/-! DEFINITION. The state of the LC-416 as plain data, block by block, and its value right after power-on reset. Every field's docstring
or table names the rule that gives it; the values after reset are those of the same rules. -/

namespace Sys2Proof.Machine

/-! ### Names -/

/-- Device modes (R184 to R187). -/
inductive Mode where
  | isolated | config | run
deriving DecidableEq, Repr, Inhabited

/-- The twelve station states (R3). -/
inductive StationState where
  | offline | warming | ready | calling | charging | loading | curing | opening | ejecting | hold | latched | parked
deriving DecidableEq, Repr, Inhabited

/-- Fault causes of HOLD (R15) and LATCHED (R18). -/
inductive Cause where
  | none | heatSilent | pressSilent | pressStop | pressureLoss | loadTimeout | ejectorSilent | platenLost | openTimeout | stuckPart
  | ejectorJam | holdRepeat
deriving DecidableEq, Repr, Inhabited

/-- Press permissions (R3, R25); `openPress` is OPEN. -/
inductive Permission where
  | none | close | openPress
deriving DecidableEq, Repr, Inhabited

/-- Ejector commands (R133). -/
inductive EjectCmd where
  | retract
  | extend (limit : Nat)
deriving DecidableEq, Repr, Inhabited

/-- Gate states (R104). -/
inductive Gate where
  | neutral
  | pass (station : Fin 6)
  | divert
deriving DecidableEq, Repr, Inhabited

/-- Channel status of a heat sample (R51); `openTc` is OPEN. -/
inductive ChannelStatus where
  | ok | openTc | range | absent
deriving DecidableEq, Repr, Inhabited

/-- Status of a weigh sample (R101). -/
inductive WeighStatus where
  | ok | overload | error
deriving DecidableEq, Repr, Inhabited

/-- Zone faults (R66). -/
inductive ZoneFault where
  | none | tcOpen | tcRange | overtemp | heaterStuck | heaterOpen
deriving DecidableEq, Repr, Inhabited

/-- Window states (R68); `within` is IN. -/
inductive WindowState where
  | within | high | low
deriving DecidableEq, Repr, Inhabited

/-- What a full round found a present zone to be (R50). -/
inductive ZoneKind where
  | faulted | driven | unread
deriving DecidableEq, Repr, Inhabited

/-- Previous-demand flag (R50). -/
inductive PrevDemand where
  | none | high | low
deriving DecidableEq, Repr, Inhabited

/-- Group source kinds (R30, R34); `opening` is OPEN. -/
inductive SourceKind where
  | none | idle | park | hold | opening | step
deriving DecidableEq, Repr, Inhabited

/-- Ejection sub-states (R134). -/
inductive SubState where
  | none | waitOpen | extending | retracting | dwelling
deriving DecidableEq, Repr, Inhabited

/-- Attempt outcomes (R134). -/
inductive AttemptOutcome where
  | none | overforce | released | noRelease | timeout
deriving DecidableEq, Repr, Inhabited

/-- The seven states of the weigher unit (06). -/
inductive WeigherState where
  | idle | armed | settling | stable | clearing | taring | fault
deriving DecidableEq, Repr, Inhabited

/-- Weigher fault causes (R99). -/
inductive WeigherCause where
  | none | overload | nodeError | silent | notCleared
deriving DecidableEq, Repr, Inhabited

/-- Presence of load on the tray (R102). -/
inductive Presence where
  | absent | present
deriving DecidableEq, Repr, Inhabited

/-- Reasons of a REJECT record (R113, R153). -/
inductive RejectReason where
  | over | under | noCharge | unsettled | disturbed | overload | nodeError | silent | aborted
deriving DecidableEq, Repr, Inhabited

/-- Outcomes of a part (R95). -/
inductive PartOutcome where
  | good | suspect | undercured | stuck | notDemoulded | aborted
deriving DecidableEq, Repr, Inhabited

/-- The four endings of a cycle that was accepted (R14, R95). -/
inductive Ending where
  | released | openTimeout | stuckPart | ejectorJam
deriving DecidableEq, Repr, Inhabited

/-- The reservation of a cycle context (R6, R128). -/
inductive Reservation where
  | none | held | used
deriving DecidableEq, Repr, Inhabited

/-- Policies of the history store (R157). -/
inductive Policy where
  | overwrite | hold
deriving DecidableEq, Repr, Inhabited

/-- Roles of a route entry (R172). -/
inductive Role where
  | heat | heater | press | ejector | weigher | master
deriving DecidableEq, Repr, Inhabited

/-- The three claimants of the report queue (R177). -/
inductive ReportClaimant where
  | handler | sender | emitter
deriving DecidableEq, Repr, Inhabited

/-- The three claimants of ring-out (R175). -/
inductive RingClaimant where
  | forward | slate | report
deriving DecidableEq, Repr, Inhabited

/-- Notice kinds, in the emitter's order (R181). -/
inductive NoticeKind where
  | stationState | zoneFault | chargeReject | partDone | recipeMissing | weigherFault | nodeSilent | foreignCommand | storeLow
  | backlog | cursorOverrun
deriving DecidableEq, Repr, Inhabited

/-- Result codes of a management answer (R179); `endOfRecords` is END. -/
inductive Result where
  | done | state | badIndex | badContent | incomplete | notMaster | unknown | full | endOfRecords | unsettled
deriving DecidableEq, Repr, Inhabited

/-- A timer: stopped, running since a value of the time base with the length it was started with, expired (the wall-minimum timer,
R82) or expired in settling (the piece-wait timer, R110). -/
inductive Timer where
  | stopped
  | running (since : Time) (len : Nat)
  | expired
  | expiredInSettling
deriving DecidableEq, Repr, Inhabited

/-! ### Tables -/

/-- A route entry (R172). The fields of an absent entry are kept as written, so they are kept as the wire carried them. -/
structure RouteEntry extends RouteFields where
  present : Bool
deriving DecidableEq, Repr, Inhabited

/-- A zone entry (R27). -/
structure ZoneEntry extends ZoneFigures where
  present : Bool
  group : Fin 4
  cureRef : Bool
deriving DecidableEq, Repr, Inhabited

/-- A recipe (R121); a group profile NONE is `none`. -/
structure Recipe extends RecipeFigures where
  present : Bool
  revision : Half
  profiles : Vector (Option (Fin 16)) 4
  rateTable : Fin 4
deriving DecidableEq, Repr, Inhabited

/-- The history settings (R157). -/
structure HistorySettings where
  policy : Policy
  backlog : Nat
  lowWater : Nat
  autoSend : Bool
deriving DecidableEq, Repr, Inhabited

/-! ### The heat engine and the zone supervisor -/

/-- A zone: its entry (R27), its runtime (R50) and its supervisor state (R66). -/
structure Zone where
  entry : ZoneEntry
  samples : List Nat
  integral : Int
  prevDemand : PrevDemand
  lastStatus : ChannelStatus
  lastT : Option Nat
  tavg : Option Nat
  sz : Nat
  err : Int
  demand : Nat
  dutySent : Nat
  kind : Option ZoneKind
  window : WindowState
  fault : ZoneFault
  openCount : Nat
  rangeCount : Nat
  stuckCount : Nat
  heaterOpenCount : Nat
  heaterOpenRef : Nat
deriving DecidableEq, Repr, Inhabited

/-- The state of a group (R30). -/
structure Group where
  source : SourceKind
  profile : Option (Fin 16)
  step : Nat
  target : Nat
  ff : Nat
  sg : Nat
  s0 : Nat
  k : Nat
  len : Nat
  seeded : Bool
deriving DecidableEq, Repr, Inhabited

/-- The round state of a station (R44). -/
structure RoundState where
  count : Half
  lastNode : Option Half
  lastTime : Time
  lastDt : Nat
  budgetLimited : Bool
  firstRound : Bool
  lastSigma : Nat
  lastSum : Nat
deriving DecidableEq, Repr, Inhabited

/-! ### The cycle context -/

/-- An entry of the zone-fault list (R76). -/
structure FaultEntry where
  zone : Fin 16
  fault : ZoneFault
  progress : Nat
deriving DecidableEq, Repr, Inhabited

/-- An entry of the attempt list (R134). -/
structure Attempt where
  peak : Nat
  outcome : AttemptOutcome
deriving DecidableEq, Repr, Inhabited

/-- The ejection fields of a cycle context (R134). -/
structure Ejection where
  sub : SubState
  number : Nat
  limit : Nat
  peak : Nat
  outcome : AttemptOutcome
  openTimer : Timer
  attemptTimer : Timer
  attempts : List Attempt
  demouldEnd : Option Time
deriving DecidableEq, Repr, Inhabited

/-- The cure fields of a cycle context (R82), with the cure start (R12). -/
structure Cure where
  target : Option Nat
  start : Option Time
  acc : Nat
  progress : Nat
  steps : Vector Nat 4
  wallMin : Timer
  wallMax : Timer
  targetMet : Bool
  stop : Option Time
  blind : Bool
  undercured : Bool
  lastTref : Nat
  lastRate : Nat
  lastBlind : Bool
deriving DecidableEq, Repr, Inhabited

/-- The cycle context (R5, R6). -/
structure Context where
  cycle : Time
  recipeNo : Fin 16
  snapshot : Recipe
  grantTime : Time
  netMass : Option Int
  pieces : List Int
  slowSamples : Bool
  acceptTime : Option Time
  mouldOccupied : Bool
  loadTimer : Timer
  lowTonnage : Nat
  cure : Cure
  budgetLimited : Nat
  excursions : Nat
  faults : List FaultEntry
  suspect : Bool
  eject : Ejection
  aborted : Bool
  lastCause : Cause
  reservation : Reservation
deriving DecidableEq, Repr, Inhabited

/-! ### A station -/

/-- The demould unit's items outside any cycle (R133). -/
structure Demould where
  wanted : EjectCmd
  echoed : Option EjectCmd
  position : Option Nat
  force : Option Nat
deriving DecidableEq, Repr, Inhabited

/-- One station: its settings (R2), its controller (R1), its heat round (R44), groups (R30), zones, lost flags (R66: upper, lower)
and demould items (R133). `pressStop` is the stop flag of the most recent PRESS-SAMPLE, which R15 reads. -/
structure Station where
  settings : StationSettings
  boundRecipe : Fin 16
  state : StationState
  cause : Cause
  runEnable : Bool
  pressAuto : Bool
  pressStop : Bool
  echoedPermission : Permission
  readyCount : Nat
  holdTimer : Timer
  holdCount : Nat
  cycleNumber : Time
  ctx : Option Context
  round : RoundState
  groups : Vector Group 4
  zones : Vector Zone 16
  lost : Vector Bool 2
  demould : Demould
deriving DecidableEq, Repr, Inhabited

/-! ### The weigher, the arbiter, the store -/

/-- The weigher unit's runtime (R99) and settings (R97). -/
structure Weigher where
  settings : WeigherSettings
  state : WeigherState
  cause : WeigherCause
  tare : Int
  lastCounter : Option Half
  lastTime : Option Time
  lastGross : Option Int
  lastNet : Option Int
  lastStatus : WeighStatus
  lastGate : Gate
  presence : Presence
  window : List Int
  vPrev : Int
  pieces : List Int
  granted : Option (Fin 6)
  wantedGate : Gate
  pieceWait : Timer
  settle : Timer
  clear : Timer
  absentRun : Nat
deriving DecidableEq, Repr, Inhabited

/-- The call arbiter (R123). -/
structure Arbiter where
  queue : List (Fin 6)
  granted : Option (Fin 6)
deriving DecidableEq, Repr, Inhabited

/-- What started a send (R168). -/
inductive SendOrigin where
  | read | auto
deriving DecidableEq, Repr, Inhabited

/-- A send in progress: the record's number, its origin, where it goes, the next segment index, whether the DONE answer of a READ
has been placed (R159) and whether the record was dropped (R161). -/
structure Sending where
  seq : Time
  origin : SendOrigin
  dest : Byte
  index : Nat
  answered : Bool
  cut : Bool
deriving DecidableEq, Repr, Inhabited

/-- The history store (R149). A record is its bytes (R193). -/
structure Store where
  ring : List (List Byte)
  oldest : Time
  next : Time
  cursor : Time
  autoPos : Time
  held : Nat
  reservations : Nat
  sender : Option Sending
  overrun : Bool
  backlogArmed : Bool
  storeLowArmed : Bool
  settings : HistorySettings
deriving DecidableEq, Repr, Inhabited

/-! ### The line port -/

/-- A frame the part originates, waiting to be sent: the part's address, the hops and the check word are set when its
transmission begins, and so is the sequence number unless it is that of an answer (R169). -/
structure OutFrame where
  dest : Byte
  kind : Byte
  seq : Option Byte
  payload : List Byte
deriving DecidableEq, Repr, Inhabited

/-- The silence state of a route entry (R174). -/
inductive Silence where
  | stopped
  | running (since : Time)
  | silent
deriving DecidableEq, Repr, Inhabited

/-- The request buffer (R178): empty, an answer with parts not yet placed (`restart` when it is the answer of a RESTART that was
taken), a TARE whose answer waits for the taring (the request's src and seq), or a RESTART whose answer is on its way out. -/
inductive Buffer where
  | empty
  | answering (parts : List OutFrame) (restart : Bool)
  | taring (src seq : Byte)
  | restarting
deriving DecidableEq, Repr, Inhabited

/-- A pending notice flag (R181). -/
structure NoticeFlag where
  count : Nat
  time : Time
  values : List Byte
deriving DecidableEq, Repr, Inhabited

/-- The line port (R169). `sending` is the frame in transmission; none when the port is free (R175). `notices` holds the eleven
kinds times seven keys of R181, `none` for a clear flag. -/
structure Port where
  lineErrors : Nat
  forward : List Frame
  slate : Vector (Option OutFrame) 19
  lastSlot : Fin 19
  report : List OutFrame
  lastReport : ReportClaimant
  lastRing : RingClaimant
  seqCounter : Byte
  sending : Option Frame
  routes : Vector RouteEntry 32
  silence : Vector Silence 32
  buffer : Buffer
  notices : Vector (Option NoticeFlag) 77
  mask : Vector Bool 11
deriving DecidableEq, Repr, Inhabited

/-! ### The whole part -/

/-- The state of the part, and the queue of commands that wait. -/
structure State where
  pending : List Instr
  mode : Mode
  nodeAddress : Option Byte
  now : Time
  port : Port
  stations : Vector Station 6
  profilesShadow : Vector Profile 16
  profilesLive : Vector Profile 16
  recipes : Vector Recipe 16
  rates : Vector (Vector Nat 32) 4
  weigher : Weigher
  arbiter : Arbiter
  store : Store
deriving DecidableEq, Repr, Inhabited

/-- Why a command could stop the part. The manual stops it nowhere: it has no constructor, and no command of the model faults. -/
inductive Fault where
deriving DecidableEq, Repr

/-- Why a command could be without meaning. -/
inductive Refusal where
  /-- Raised by `exec` for a command that has no meaning yet; safe. No arm raises it in this model. -/
  | notModelled (mnemonic : String)
deriving DecidableEq, Repr

/-! ### Power-on values -/

/-- R27, last columns. -/
def ZoneEntry.reset : ZoneEntry :=
  { offset := 0, gain := 0, trim := 0, depth := 1, kp := 0, ki := 0, integralLimit := 0, bandLow := 0, bandHigh := 0, overTemp := 4000,
    runaway := 0, present := false, group := 0, cureRef := false }

/-- R50 and R66, starting values. -/
def Zone.reset : Zone :=
  { entry := ZoneEntry.reset, samples := [], integral := 0, prevDemand := .none, lastStatus := .ok, lastT := none, tavg := none, sz := 0,
    err := 0, demand := 0, dutySent := 0, kind := none, window := .within, fault := .none, openCount := 0, rangeCount := 0,
    stuckCount := 0, heaterOpenCount := 0, heaterOpenRef := 0 }

/-- R30. -/
def Group.reset : Group :=
  { source := .none, profile := none, step := 0, target := 0, ff := 0, sg := 0, s0 := 0, k := 0, len := 0, seeded := false }

/-- R44. -/
def RoundState.reset : RoundState :=
  { count := 0, lastNode := none, lastTime := 0, lastDt := 0, budgetLimited := false, firstRound := false, lastSigma := 0, lastSum := 0 }

/-- R133. -/
def Demould.reset : Demould := { wanted := .retract, echoed := none, position := none, force := none }

/-- R2. -/
def resetSettings : StationSettings :=
  { budget := 0, roundPeriod := 1000, readyDwell := 10, holdTime := 10000, closedThreshold := 0, minTonnage := 0, forceLimit := 0,
    retractThreshold := 0 }

/-- R1. DESIGN CHOICE (log entry 12): `pressStop` clear. -/
def Station.reset : Station :=
  { settings := resetSettings, boundRecipe := 0, state := .offline, cause := .none, runEnable := false, pressAuto := false,
    pressStop := false, echoedPermission := .none, readyCount := 0, holdTimer := .stopped, holdCount := 0, cycleNumber := 0, ctx := none,
    round := RoundState.reset, groups := Vector.replicate 4 Group.reset, zones := Vector.replicate 16 Zone.reset,
    lost := Vector.replicate 2 false, demould := Demould.reset }

/-- R31. -/
def resetProfile : Profile :=
  { idle := ⟨0, 0⟩, park := ⟨0, 0⟩, hold := ⟨0, 0⟩, opening := ⟨0, 0⟩, defaultLen := 0, steps := [⟨0, 0, 0, 0⟩] }

/-- R121: absent, revision 0, every other field the least of its range, group 0 on profile 0 and the rest NONE. The least wall
maximum is 1, and the least mass coefficient -32768. -/
def Recipe.reset : Recipe :=
  { nominalMass := 100, lowerTol := 0, upperTol := 0, minPieces := 1, pieceLimit := 1, pieceWait := 1000, baseTemp := 0, eBase := 1000,
    eMin := 1000, eMax := 1000, massCoeff := -32768, wallMin := 0, wallMax := 1, excursionLimit := 0, loadTimeout := 1000,
    openThreshold := 0, openTimeout := 1000, ejectStroke := 0, releaseThreshold := 0, initialForce := 0, forceStep := 0, retryLimit := 0,
    attemptTimeout := 100, settleDwell := 0, present := false, revision := 0, profiles := ⟨#[some 0, none, none, none], rfl⟩,
    rateTable := 0 }

/-- R97. -/
def resetWeigherSettings : WeigherSettings :=
  { zero := 0, span := 1, capacity := 300000, presenceOn := 300, presenceOff := 100, band := 10, settleTimeout := 5000,
    pieceThreshold := 50, minPiece := 500, runOn := 10, zeroTrack := 20, sampleInterval := 20, clearTimeout := 10000 }

/-- R97, R99. -/
def Weigher.reset : Weigher :=
  { settings := resetWeigherSettings, state := .idle, cause := .none, tare := 0, lastCounter := none, lastTime := none, lastGross := none,
    lastNet := none, lastStatus := .ok, lastGate := .neutral, presence := .absent, window := [], vPrev := 0, pieces := [],
    granted := none, wantedGate := .neutral, pieceWait := .stopped, settle := .stopped, clear := .stopped, absentRun := 0 }

/-- R149, R157. -/
def Store.reset : Store :=
  { ring := [], oldest := 0, next := 0, cursor := 0, autoPos := 0, held := 0, reservations := 0, sender := none, overrun := false,
    backlogArmed := true, storeLowArmed := true, settings := { policy := .overwrite, backlog := 1, lowWater := 0, autoSend := false } }

/-- R172. DESIGN CHOICE (log entry 26): the fields of an absent entry at power-on, the least of each range. -/
def RouteEntry.reset : RouteEntry := { address := 1, role := 0, station := 0, silence := 50, present := false }

/-- R169, R181. -/
def Port.reset : Port :=
  { lineErrors := 0, forward := [], slate := Vector.replicate 19 none, lastSlot := 18, report := [], lastReport := .emitter,
    lastRing := .report, seqCounter := 0, sending := none, routes := Vector.replicate 32 RouteEntry.reset,
    silence := Vector.replicate 32 .stopped, buffer := .empty, notices := Vector.replicate 77 none, mask := Vector.replicate 11 true }

/-- The part at the release of RESET_N with these straps (R184). -/
def State.powerOn (straps : BitVec 6) : State :=
  { pending := [], mode := if straps = 0 then .isolated else .config, nodeAddress := if straps = 0 then none else some (straps.setWidth 8),
    now := 0, port := Port.reset, stations := Vector.replicate 6 Station.reset, profilesShadow := Vector.replicate 16 resetProfile,
    profilesLive := Vector.replicate 16 resetProfile, recipes := Vector.replicate 16 Recipe.reset,
    rates := Vector.replicate 4 (Vector.replicate 32 0), weigher := Weigher.reset, arbiter := { queue := [], granted := none },
    store := Store.reset }

/-- The machine right after reset. DESIGN CHOICE (log entry 1): the straps are `Config.straps`. -/
def State.reset : State := State.powerOn Config.straps

end Sys2Proof.Machine
end

