-- ==== Sys2Proof/Machine/Codes.lean ====
section
/-! DEFINITION. The codes of 12.1, the field widths of R190 (multi-byte numbers high byte first) and the check word of R169. -/

namespace Sys2Proof.Machine

/-! ### Fields -/

def put8 (n : Nat) : List Byte := [BitVec.ofNat 8 n]

def put16 (n : Nat) : List Byte := [BitVec.ofNat 8 (n / 256), BitVec.ofNat 8 n]

def put32 (n : Nat) : List Byte :=
  [BitVec.ofNat 8 (n / 16777216), BitVec.ofNat 8 (n / 65536), BitVec.ofNat 8 (n / 256), BitVec.ofNat 8 n]

/-- Two's complement in two bytes. -/
def putS16 (i : Int) : List Byte := put16 (i % 65536).toNat

/-- Two's complement in four bytes. -/
def putS32 (i : Int) : List Byte := put32 (i % 4294967296).toNat

def putTime (t : Time) : List Byte := put32 t.toNat

/-- A flag: 1 for set. -/
def putFlag (b : Bool) : List Byte := put8 (if b then 1 else 0)

/-- A field with a flag for none or absent: 1 and zeros when none, 0 and the value otherwise (R190). -/
def putOpt {α : Type} (width : Nat) (put : α → List Byte) : Option α → List Byte
  | none => put8 1 ++ List.replicate width 0
  | some x => put8 0 ++ put x

/-- A list: a count byte and the entries in order (R190). -/
def putList {α : Type} (put : α → List Byte) (l : List α) : List Byte := put8 l.length ++ l.flatMap put

def read8 (l : List Byte) (o : Nat) : Nat := (l.getD o 0).toNat

def read16 (l : List Byte) (o : Nat) : Nat := read8 l o * 256 + read8 l (o + 1)

def read32 (l : List Byte) (o : Nat) : Nat := read16 l o * 65536 + read16 l (o + 2)

def readS16 (l : List Byte) (o : Nat) : Int :=
  if read16 l o < 32768 then (read16 l o : Int) else (read16 l o : Int) - 65536

def readS32 (l : List Byte) (o : Nat) : Int :=
  if read32 l o < 2147483648 then (read32 l o : Int) else (read32 l o : Int) - 4294967296

/-- The 24-bit signed raw count of a weigh sample. -/
def readS24 (l : List Byte) (o : Nat) : Int :=
  let n : Int := (read8 l o * 65536 + read16 l (o + 1) : Nat)
  if n < 8388608 then n else n - 16777216

/-! ### The check word: CRC-16 of x^16+x^12+x^5+1, preset to ones, most significant bit first (R169) -/

def crcBit (c : Half) : Half := if c.msb then (c <<< 1) ^^^ 0x1021#16 else c <<< 1

def crcByte (c : Half) (b : Byte) : Half :=
  crcBit (crcBit (crcBit (crcBit (crcBit (crcBit (crcBit (crcBit (c ^^^ (b.setWidth 16 <<< 8)))))))))

def crc16 (l : List Byte) : Half := l.foldl crcByte 0xFFFF#16

/-- The bytes the check word covers: header and payload (12.1). -/
def checkedBytes (f : Frame) : List Byte := [f.dest, f.src, f.kind, f.hops, f.seq, f.length] ++ f.payload

/-- The check word that fits a frame. -/
def checkWord (f : Frame) : Half := crc16 (checkedBytes f)

/-! ### Frame kinds -/

def kHeatSample : Byte := 1
def kDuty : Byte := 2
def kPressSample : Byte := 3
def kPermit : Byte := 4
def kEjectSample : Byte := 5
def kEjectCommand : Byte := 6
def kWeighSample : Byte := 7
def kGateCommand : Byte := 8
def kRequest : Byte := 9
def kAnswer : Byte := 10
def kNotice : Byte := 11
def kHistory : Byte := 12

/-! ### Codes -/

def Mode.code : Mode → Nat
  | .isolated => 0 | .config => 1 | .run => 2

def StationState.code : StationState → Nat
  | .offline => 0 | .warming => 1 | .ready => 2 | .calling => 3 | .charging => 4 | .loading => 5 | .curing => 6 | .opening => 7
  | .ejecting => 8 | .hold => 9 | .latched => 10 | .parked => 11

def Cause.code : Cause → Nat
  | .none => 0 | .heatSilent => 1 | .pressSilent => 2 | .pressStop => 3 | .pressureLoss => 4 | .loadTimeout => 5 | .ejectorSilent => 6
  | .platenLost => 7 | .openTimeout => 8 | .stuckPart => 9 | .ejectorJam => 10 | .holdRepeat => 11

def Permission.code : Permission → Nat
  | .none => 0 | .close => 1 | .openPress => 2

def Permission.ofCode? : Nat → Option Permission
  | 0 => some .none | 1 => some .close | 2 => some .openPress | _ => Option.none

def ChannelStatus.code : ChannelStatus → Nat
  | .ok => 0 | .openTc => 1 | .range => 2 | .absent => 3

def ChannelStatus.ofCode? : Nat → Option ChannelStatus
  | 0 => some .ok | 1 => some .openTc | 2 => some .range | 3 => some .absent | _ => none

def WeighStatus.code : WeighStatus → Nat
  | .ok => 0 | .overload => 1 | .error => 2

def WeighStatus.ofCode? : Nat → Option WeighStatus
  | 0 => some .ok | 1 => some .overload | 2 => some .error | _ => none

def EjectCmd.code : EjectCmd → Nat
  | .retract => 0 | .extend _ => 1

/-- The force limit an ejector command carries, 0 with RETRACT. -/
def EjectCmd.limit : EjectCmd → Nat
  | .retract => 0 | .extend n => n

def Gate.code : Gate → Nat
  | .neutral => 0 | .pass _ => 1 | .divert => 2

/-- The station a gate state carries, 0 other than with PASS. -/
def Gate.stationCode : Gate → Nat
  | .neutral => 0 | .pass st => st.val | .divert => 0

def ZoneFault.code : ZoneFault → Nat
  | .none => 0 | .tcOpen => 1 | .tcRange => 2 | .overtemp => 3 | .heaterStuck => 4 | .heaterOpen => 5

def WindowState.code : WindowState → Nat
  | .within => 0 | .high => 1 | .low => 2

def zoneKindCode : Option ZoneKind → Nat
  | none => 0 | some .faulted => 1 | some .driven => 2 | some .unread => 3

def PrevDemand.code : PrevDemand → Nat
  | .none => 0 | .high => 1 | .low => 2

def SourceKind.code : SourceKind → Nat
  | .none => 0 | .idle => 1 | .park => 2 | .hold => 3 | .opening => 4 | .step => 5

def SubState.code : SubState → Nat
  | .none => 0 | .waitOpen => 1 | .extending => 2 | .retracting => 3 | .dwelling => 4

def AttemptOutcome.code : AttemptOutcome → Nat
  | .none => 0 | .overforce => 1 | .released => 2 | .noRelease => 3 | .timeout => 4

def WeigherState.code : WeigherState → Nat
  | .idle => 0 | .armed => 1 | .settling => 2 | .stable => 3 | .clearing => 4 | .taring => 5 | .fault => 6

def WeigherCause.code : WeigherCause → Nat
  | .none => 0 | .overload => 1 | .nodeError => 2 | .silent => 3 | .notCleared => 4

def Presence.code : Presence → Nat
  | .absent => 0 | .present => 1

def RejectReason.code : RejectReason → Nat
  | .over => 1 | .under => 2 | .noCharge => 3 | .unsettled => 4 | .disturbed => 5 | .overload => 6 | .nodeError => 7 | .silent => 8
  | .aborted => 9

def PartOutcome.code : PartOutcome → Nat
  | .good => 0 | .suspect => 1 | .undercured => 2 | .stuck => 3 | .notDemoulded => 4 | .aborted => 5

def Policy.code : Policy → Nat
  | .overwrite => 0 | .hold => 1

def Role.code : Role → Nat
  | .heat => 0 | .heater => 1 | .press => 2 | .ejector => 3 | .weigher => 4 | .master => 5

def NoticeKind.index : NoticeKind → Fin 11
  | .stationState => 0 | .zoneFault => 1 | .chargeReject => 2 | .partDone => 3 | .recipeMissing => 4 | .weigherFault => 5
  | .nodeSilent => 6 | .foreignCommand => 7 | .storeLow => 8 | .backlog => 9 | .cursorOverrun => 10

def Result.code : Result → Nat
  | .done => 0 | .state => 1 | .badIndex => 2 | .badContent => 3 | .incomplete => 4 | .notMaster => 5 | .unknown => 6 | .full => 7
  | .endOfRecords => 8 | .unsettled => 9

def SendOrigin.code : SendOrigin → Nat
  | .read => 0 | .auto => 1

/-- DESIGN CHOICE (log entry 9): 12.1 gives the ring-out claimants no code; they are numbered in the order of R175. -/
def RingClaimant.code : RingClaimant → Nat
  | .forward => 0 | .slate => 1 | .report => 2

def Timer.code : Timer → Nat
  | .stopped => 0 | .running _ _ => 1 | .expired => 2 | .expiredInSettling => 3

end Sys2Proof.Machine
end

