-- ==== Sys2Proof/Machine/Operands.lean ====
section
/-! DEFINITION. The operand forms: how a MGMT-REQUEST's payload spells a request and how a sample's payload spells its fields
(12.1, R190, R191). The fields of a body stand in the order the owning rule lists them, after the selector or command code. -/

namespace Sys2Proof.Machine

/-! ### Table contents -/

/-- R172: present, address, role, station, owned, silence interval. -/
def putRoute (w : RouteWrite) : List Byte :=
  put8 w.present ++ put8 w.address ++ put8 w.role ++ put8 w.station ++ put8 w.owned ++ put32 w.silence

def readRoute (b : List Byte) (o : Nat) : RouteWrite :=
  { present := read8 b o, address := read8 b (o + 1), role := read8 b (o + 2), station := read8 b (o + 3), owned := read8 b (o + 4),
    silence := read32 b (o + 5) }

/-- R2, with the bound recipe last. -/
def putSettings (w : StationSettings) (boundRecipe : Nat) : List Byte :=
  put16 w.budget ++ put32 w.roundPeriod ++ put8 w.readyDwell ++ put32 w.holdTime ++ put16 w.closedThreshold ++ put16 w.minTonnage ++
  put16 w.forceLimit ++ put16 w.retractThreshold ++ put8 boundRecipe

def readSettings (b : List Byte) (o : Nat) : StationSettings :=
  { budget := read16 b o, roundPeriod := read32 b (o + 2), readyDwell := read8 b (o + 6), holdTime := read32 b (o + 7),
    closedThreshold := read16 b (o + 11), minTonnage := read16 b (o + 13), forceLimit := read16 b (o + 15),
    retractThreshold := read16 b (o + 17) }

/-- R27. -/
def putZone (w : ZoneWrite) : List Byte :=
  put8 w.present ++ put8 w.group ++ put8 w.cureRef ++ put16 w.offset ++ put16 w.gain ++ putS16 w.trim ++ put8 w.depth ++ put16 w.kp ++
  put16 w.ki ++ put16 w.integralLimit ++ put16 w.bandLow ++ put16 w.bandHigh ++ put16 w.overTemp ++ put16 w.runaway

def readZone (b : List Byte) (o : Nat) : ZoneWrite :=
  { present := read8 b o, group := read8 b (o + 1), cureRef := read8 b (o + 2), offset := read16 b (o + 3), gain := read16 b (o + 5),
    trim := readS16 b (o + 7), depth := read8 b (o + 9), kp := read16 b (o + 10), ki := read16 b (o + 12),
    integralLimit := read16 b (o + 14), bandLow := read16 b (o + 16), bandHigh := read16 b (o + 18), overTemp := read16 b (o + 20),
    runaway := read16 b (o + 22) }

def putSetPoint (p : SetPoint) : List Byte := put16 p.temp ++ put16 p.ff

def putStep (p : CureStep) : List Byte := put16 p.temp ++ put8 p.len ++ put16 p.threshold ++ put16 p.ff

/-- R31: the four fixed setpoints, the default ramp length, the step list. -/
def putProfile (w : Profile) : List Byte :=
  putSetPoint w.idle ++ putSetPoint w.park ++ putSetPoint w.hold ++ putSetPoint w.opening ++ put8 w.defaultLen ++ putList putStep w.steps

def readSetPoint (b : List Byte) (o : Nat) : SetPoint := { temp := read16 b o, ff := read16 b (o + 2) }

def readStep (b : List Byte) (o : Nat) : CureStep :=
  { temp := read16 b o, len := read8 b (o + 2), threshold := read16 b (o + 3), ff := read16 b (o + 5) }

def readProfile (b : List Byte) (o : Nat) : Profile :=
  { idle := readSetPoint b o, park := readSetPoint b (o + 4), hold := readSetPoint b (o + 8), opening := readSetPoint b (o + 12),
    defaultLen := read8 b (o + 16), steps := (List.range (read8 b (o + 17))).map (fun j => readStep b (o + 18 + 7 * j)) }

/-- R121, in the order of its table. -/
def putRecipe (w : RecipeWrite) : List Byte :=
  put8 w.present ++ put16 w.revision ++ putS32 w.nominalMass ++ putS32 w.lowerTol ++ putS32 w.upperTol ++ put8 w.minPieces ++
  put8 w.pieceLimit ++ put32 w.pieceWait ++ put8 w.profiles[0] ++ put8 w.profiles[1] ++ put8 w.profiles[2] ++ put8 w.profiles[3] ++
  put8 w.rateTable ++ put16 w.baseTemp ++ put32 w.eBase ++ put32 w.eMin ++ put32 w.eMax ++ putS16 w.massCoeff ++ put32 w.wallMin ++
  put32 w.wallMax ++ put16 w.excursionLimit ++ put32 w.loadTimeout ++ put16 w.openThreshold ++ put32 w.openTimeout ++
  put16 w.ejectStroke ++ put16 w.releaseThreshold ++ put16 w.initialForce ++ put16 w.forceStep ++ put8 w.retryLimit ++
  put32 w.attemptTimeout ++ put32 w.settleDwell

def readRecipe (b : List Byte) (o : Nat) : RecipeWrite :=
  { present := read8 b o, revision := read16 b (o + 1), nominalMass := readS32 b (o + 3), lowerTol := readS32 b (o + 7),
    upperTol := readS32 b (o + 11), minPieces := read8 b (o + 15), pieceLimit := read8 b (o + 16), pieceWait := read32 b (o + 17),
    profiles := ⟨#[read8 b (o + 21), read8 b (o + 22), read8 b (o + 23), read8 b (o + 24)], rfl⟩, rateTable := read8 b (o + 25),
    baseTemp := read16 b (o + 26), eBase := read32 b (o + 28), eMin := read32 b (o + 32), eMax := read32 b (o + 36),
    massCoeff := readS16 b (o + 40), wallMin := read32 b (o + 42), wallMax := read32 b (o + 46), excursionLimit := read16 b (o + 50),
    loadTimeout := read32 b (o + 52), openThreshold := read16 b (o + 56), openTimeout := read32 b (o + 58),
    ejectStroke := read16 b (o + 62), releaseThreshold := read16 b (o + 64), initialForce := read16 b (o + 66),
    forceStep := read16 b (o + 68), retryLimit := read8 b (o + 70), attemptTimeout := read32 b (o + 71), settleDwell := read32 b (o + 75) }

/-- R97. -/
def putWeigherSettings (w : WeigherSettings) : List Byte :=
  putS32 w.zero ++ put16 w.span ++ putS32 w.capacity ++ putS32 w.presenceOn ++ putS32 w.presenceOff ++ putS32 w.band ++
  put32 w.settleTimeout ++ putS32 w.pieceThreshold ++ putS32 w.minPiece ++ put8 w.runOn ++ putS32 w.zeroTrack ++
  put32 w.sampleInterval ++ put32 w.clearTimeout

def readWeigherSettings (b : List Byte) (o : Nat) : WeigherSettings :=
  { zero := readS32 b o, span := read16 b (o + 4), capacity := readS32 b (o + 6), presenceOn := readS32 b (o + 10),
    presenceOff := readS32 b (o + 14), band := readS32 b (o + 18), settleTimeout := read32 b (o + 22),
    pieceThreshold := readS32 b (o + 26), minPiece := readS32 b (o + 30), runOn := read8 b (o + 34), zeroTrack := readS32 b (o + 35),
    sampleInterval := read32 b (o + 39), clearTimeout := read32 b (o + 43) }

/-- R157. -/
def putHistory (w : HistoryWrite) : List Byte := put8 w.policy ++ put8 w.backlog ++ put16 w.lowWater ++ put8 w.autoSend

def readHistory (b : List Byte) (o : Nat) : HistoryWrite :=
  { policy := read8 b o, backlog := read8 b (o + 1), lowWater := read16 b (o + 2), autoSend := read8 b (o + 4) }

/-! ### Requests -/

/-- The payload of the MGMT-REQUEST that spells a request. -/
def encodeRequest : Request → List Byte
  | .ping => put8 1
  | .modeSet m => put8 2 ++ put8 m
  | .restart => put8 3
  | .entryReadRoute n => put8 4 ++ put8 0 ++ put8 n
  | .entryReadStation n => put8 4 ++ put8 1 ++ put8 n
  | .entryReadZone n z => put8 4 ++ put8 2 ++ put8 n ++ put8 z
  | .entryReadProfile n c => put8 4 ++ put8 3 ++ put8 n ++ put8 c
  | .entryReadRecipe n => put8 4 ++ put8 4 ++ put8 n
  | .entryReadRate t e => put8 4 ++ put8 5 ++ put8 t ++ put8 e
  | .entryReadWeigher => put8 4 ++ put8 6
  | .entryReadHistory => put8 4 ++ put8 7
  | .entryWriteRoute n w => put8 5 ++ put8 0 ++ put8 n ++ putRoute w
  | .entryWriteStation n w b => put8 5 ++ put8 1 ++ put8 n ++ putSettings w b
  | .entryWriteZone n z w => put8 5 ++ put8 2 ++ put8 n ++ put8 z ++ putZone w
  | .entryWriteProfile n w => put8 5 ++ put8 3 ++ put8 n ++ putProfile w
  | .entryWriteRecipe n w => put8 5 ++ put8 4 ++ put8 n ++ putRecipe w
  | .entryWriteRate t e f => put8 5 ++ put8 5 ++ put8 t ++ put8 e ++ put16 f
  | .entryWriteWeigher w => put8 5 ++ put8 6 ++ putWeigherSettings w
  | .entryWriteHistory w => put8 5 ++ put8 7 ++ putHistory w
  | .profilesApply => put8 6
  | .start n => put8 7 ++ put8 1 ++ put8 n
  | .stop n => put8 7 ++ put8 2 ++ put8 n
  | .abort n => put8 7 ++ put8 3 ++ put8 n
  | .park n => put8 7 ++ put8 4 ++ put8 n
  | .unpark n => put8 7 ++ put8 5 ++ put8 n
  | .online n => put8 7 ++ put8 6 ++ put8 n
  | .offline n => put8 7 ++ put8 7 ++ put8 n
  | .bind n r => put8 7 ++ put8 8 ++ put8 n ++ put8 r
  | .clear n => put8 7 ++ put8 9 ++ put8 n
  | .stationCommandUnknown c n => put8 7 ++ put8 c ++ put8 n
  | .zoneClear n z => put8 8 ++ put8 n ++ put8 z
  | .tare => put8 9 ++ put8 1
  | .reset => put8 9 ++ put8 2
  | .weigherCommandUnknown c => put8 9 ++ put8 c
  | .statusDevice => put8 10 ++ put8 0
  | .statusStation n => put8 10 ++ put8 1 ++ put8 n
  | .statusWeigher => put8 10 ++ put8 2
  | .statusStore => put8 10 ++ put8 3
  | .historyRead => put8 11
  | .historySpace d n => put8 12 ++ put8 d ++ put16 n
  | .historyRewind => put8 13
  | .historyRelease => put8 14
  | .lotMark l => put8 15 ++ put32 l
  | .auto o => put8 16 ++ put8 o
  | .noticeMask m => put8 17 ++ m.toList.flatMap put8
  | .unknown k b => k :: b
  | .malformed k => [k]

/-- `r` when the body has the length the request asks for, else malformed (R179). -/
def sized (kind : Byte) (body : List Byte) (n : Nat) (r : Request) : Request :=
  if body.length = n then r else .malformed kind

/-- The body of an ENTRY-READ: table selector, then the indexes. -/
def parseEntryRead (kind : Byte) (b : List Byte) : Request :=
  match read8 b 0 with
  | 0 => sized kind b 2 (.entryReadRoute (read8 b 1))
  | 1 => sized kind b 2 (.entryReadStation (read8 b 1))
  | 2 => sized kind b 3 (.entryReadZone (read8 b 1) (read8 b 2))
  | 3 => sized kind b 3 (.entryReadProfile (read8 b 1) (read8 b 2))
  | 4 => sized kind b 2 (.entryReadRecipe (read8 b 1))
  | 5 => sized kind b 3 (.entryReadRate (read8 b 1) (read8 b 2))
  | 6 => sized kind b 1 .entryReadWeigher
  | 7 => sized kind b 1 .entryReadHistory
  | _ => .malformed kind

/-- The body of an ENTRY-WRITE: table selector, the indexes, the entry. -/
def parseEntryWrite (kind : Byte) (b : List Byte) : Request :=
  match read8 b 0 with
  | 0 => sized kind b 11 (.entryWriteRoute (read8 b 1) (readRoute b 2))
  | 1 => sized kind b 22 (.entryWriteStation (read8 b 1) (readSettings b 2) (read8 b 21))
  | 2 => sized kind b 27 (.entryWriteZone (read8 b 1) (read8 b 2) (readZone b 3))
  | 3 => sized kind b (20 + 7 * read8 b 19) (.entryWriteProfile (read8 b 1) (readProfile b 2))
  | 4 => sized kind b 81 (.entryWriteRecipe (read8 b 1) (readRecipe b 2))
  | 5 => sized kind b 5 (.entryWriteRate (read8 b 1) (read8 b 2) (read16 b 3))
  | 6 => sized kind b 48 (.entryWriteWeigher (readWeigherSettings b 1))
  | 7 => sized kind b 6 (.entryWriteHistory (readHistory b 1))
  | _ => .malformed kind

/-- The body of a STATION-COMMAND: command code, station, and the recipe of a BIND. A command the part does not know is no malformed
request (R20); it is taken with either of the two lengths (log entry 25). -/
def parseStationCommand (kind : Byte) (b : List Byte) : Request :=
  let n := read8 b 1
  match read8 b 0 with
  | 1 => sized kind b 2 (.start n)
  | 2 => sized kind b 2 (.stop n)
  | 3 => sized kind b 2 (.abort n)
  | 4 => sized kind b 2 (.park n)
  | 5 => sized kind b 2 (.unpark n)
  | 6 => sized kind b 2 (.online n)
  | 7 => sized kind b 2 (.offline n)
  | 8 => sized kind b 3 (.bind n (read8 b 2))
  | 9 => sized kind b 2 (.clear n)
  | c => if b.length = 2 ∨ b.length = 3 then .stationCommandUnknown c n else .malformed kind

/-- The body of a STATUS: selector, and the station of STATION. -/
def parseStatus (kind : Byte) (b : List Byte) : Request :=
  match read8 b 0 with
  | 0 => sized kind b 1 .statusDevice
  | 1 => sized kind b 2 (.statusStation (read8 b 1))
  | 2 => sized kind b 1 .statusWeigher
  | 3 => sized kind b 1 .statusStore
  | _ => .malformed kind

/-- The body of a WEIGHER-COMMAND: its code. -/
def parseWeigherCommand (kind : Byte) (b : List Byte) : Request :=
  match read8 b 0 with
  | 1 => sized kind b 1 .tare
  | 2 => sized kind b 1 .reset
  | c => sized kind b 1 (.weigherCommandUnknown c)

/-- The request a body of this kind spells (R179, 12.1). A body without its selector byte reads selector 0, and `sized` refuses it. -/
def parseBody (kind : Byte) (b : List Byte) : Request :=
  match kind.toNat with
  | 1 => sized kind b 0 .ping
  | 2 => sized kind b 1 (.modeSet (read8 b 0))
  | 3 => sized kind b 0 .restart
  | 4 => parseEntryRead kind b
  | 5 => parseEntryWrite kind b
  | 6 => sized kind b 0 .profilesApply
  | 7 => parseStationCommand kind b
  | 8 => sized kind b 2 (.zoneClear (read8 b 0) (read8 b 1))
  | 9 => parseWeigherCommand kind b
  | 10 => parseStatus kind b
  | 11 => sized kind b 0 .historyRead
  | 12 => sized kind b 3 (.historySpace (read8 b 0) (read16 b 1))
  | 13 => sized kind b 0 .historyRewind
  | 14 => sized kind b 0 .historyRelease
  | 15 => sized kind b 4 (.lotMark (read32 b 0))
  | 16 => sized kind b 1 (.auto (read8 b 0))
  | 17 => sized kind b 11 (.noticeMask (Vector.ofFn (fun i => read8 b i.val)))
  | _ => .unknown kind b

/-- The request a MGMT-REQUEST's payload spells. An empty payload has no kind byte and is malformed (12.1 gives 1 to 120 bytes). -/
def parseRequest : List Byte → Request
  | [] => .malformed 0
  | kind :: body => parseBody kind body

/-! ### Samples (R191): `none` for a wrong length or a coded field outside its table -/

/-- A HEAT-SAMPLE: the node round number, and each channel's status and raw count. -/
structure HeatSample where
  nodeRound : Half
  channels : Vector (ChannelStatus × Nat) 16
deriving DecidableEq, Repr, Inhabited

def parseHeat (p : List Byte) : Option HeatSample :=
  if p.length = 50 ∧ ((List.finRange 16).all fun i => (ChannelStatus.ofCode? (read8 p (2 + 3 * i.val))).isSome) then
    some { nodeRound := BitVec.ofNat 16 (read16 p 0),
           channels := Vector.ofFn fun i =>
             ((ChannelStatus.ofCode? (read8 p (2 + 3 * i.val))).getD .absent, read16 p (3 + 3 * i.val)) }
  else none

/-- A PRESS-SAMPLE: ram position, tonnage, the two flags read, and the echoed permission. -/
structure PressSample where
  ram : Nat
  tonnage : Nat
  stop : Bool
  auto : Bool
  echo : Permission
deriving DecidableEq, Repr, Inhabited

def parsePress (p : List Byte) : Option PressSample :=
  if p.length = 6 then
    (Permission.ofCode? (read8 p 5)).map fun e =>
      { ram := read16 p 0, tonnage := read16 p 2, stop := (p.getD 4 0).getLsbD 0, auto := (p.getD 4 0).getLsbD 1, echo := e }
  else none

/-- An EJECT-SAMPLE: position, force and the echoed command. -/
structure EjectSample where
  position : Nat
  force : Nat
  echo : EjectCmd
deriving DecidableEq, Repr, Inhabited

/-- The echoed ejector command; the limit of a RETRACT is not read (R191). -/
def ejectCmdOf? (code limit : Nat) : Option EjectCmd :=
  match code with
  | 0 => some .retract
  | 1 => some (.extend limit)
  | _ => none

def parseEject (p : List Byte) : Option EjectSample :=
  if p.length = 7 then
    (ejectCmdOf? (read8 p 4) (read16 p 5)).map fun e => { position := read16 p 0, force := read16 p 2, echo := e }
  else none

/-- A WEIGH-SAMPLE: counter, raw count, status and the echoed gate. -/
structure WeighSample where
  counter : Half
  raw : Int
  status : WeighStatus
  gate : Gate
deriving DecidableEq, Repr, Inhabited

/-- The echoed gate; the station byte is read with PASS alone, and then must be 0-5 (R191). -/
def gateOf? (code station : Nat) : Option Gate :=
  match code with
  | 0 => some .neutral
  | 1 => if h : station < 6 then some (.pass ⟨station, h⟩) else none
  | 2 => some .divert
  | _ => none

def parseWeigh (p : List Byte) : Option WeighSample :=
  if p.length = 8 then
    match WeighStatus.ofCode? (read8 p 5), gateOf? (read8 p 6) (read8 p 7) with
    | some st, some g => some { counter := BitVec.ofNat 16 (read16 p 0), raw := readS24 p 2, status := st, gate := g }
    | _, _ => none
  else none

end Sys2Proof.Machine
end

