-- ==== Sys2Proof/Machine/Ops.lean ====
section
/-! DEFINITION. The named operations over the state that every block uses: access to a station and its cycle context, timers, limits,
the route table's answers, and the placing of command frames in the slate. -/

namespace Sys2Proof.Machine

/-! ### Access -/

def State.station (s : State) (st : Fin 6) : Station := s.stations[st]

def State.setStation (s : State) (st : Fin 6) (x : Station) : State := { s with stations := s.stations.set st x }

def State.modStation (s : State) (st : Fin 6) (f : Station → Station) : State := s.setStation st (f (s.station st))

/-- The cycle context of a station, if it has one. -/
def State.ctx? (s : State) (st : Fin 6) : Option Context := (s.station st).ctx

/-- Writes the cycle context of a station that has one. -/
def State.modCtx (s : State) (st : Fin 6) (f : Context → Context) : State :=
  s.modStation st fun x => { x with ctx := x.ctx.map f }

def State.modPort (s : State) (f : Port → Port) : State := { s with port := f s.port }

def State.modWeigher (s : State) (f : Weigher → Weigher) : State := { s with weigher := f s.weigher }

def State.modStore (s : State) (f : Store → Store) : State := { s with store := f s.store }

/-- The station of a number the wire carries. -/
def stationOf? (n : Nat) : Option (Fin 6) := if h : n < 6 then some ⟨n, h⟩ else none

def zoneOf? (n : Nat) : Option (Fin 16) := if h : n < 16 then some ⟨n, h⟩ else none

def entryOf? (n : Nat) : Option (Fin 32) := if h : n < 32 then some ⟨n, h⟩ else none

def tableOf? (n : Nat) : Option (Fin 4) := if h : n < 4 then some ⟨n, h⟩ else none

/-! ### Limits -/

/-- "Limited to lo..hi" (00 Conventions). -/
def limit (lo hi x : Int) : Int := if x < lo then lo else if hi < x then hi else x

/-- A count that saturates. -/
def satAdd (top n d : Nat) : Nat := min top (n + d)

/-! ### Timers (00 Conventions, R185) -/

/-- Due: the elapsed time since the start has reached the length. -/
def Timer.due (t : Timer) (now : Time) : Bool :=
  match t with
  | .running since len => len ≤ elapsed now since
  | _ => false

/-- The moment a running timer reaches its length. -/
def Timer.expiry (t : Timer) (now : Time) : Time :=
  match t with
  | .running since len => since + BitVec.ofNat 32 len
  | _ => now

/-- Milliseconds left of a running timer, 0 otherwise. -/
def Timer.left (t : Timer) (now : Time) : Nat :=
  match t with
  | .running since len => len - elapsed now since
  | _ => 0

def Timer.isRunning (t : Timer) : Bool :=
  match t with
  | .running _ _ => true
  | _ => false

/-! ### What a station state wants (R3, R34) -/

/-- The wanted permission of R3. -/
def StationState.permission : StationState → Permission
  | .offline | .warming | .ready | .calling | .charging | .hold | .latched | .parked => .none
  | .loading | .curing => .close
  | .opening | .ejecting => .openPress

/-- The group setpoint source of R3 and R34. -/
def StationState.source : StationState → SourceKind
  | .offline => .none
  | .warming | .ready | .calling | .charging | .loading => .idle
  | .curing => .step
  | .opening | .ejecting => .opening
  | .hold | .latched => .hold
  | .parked => .park

/-- The station's context exists with its mould occupied (R6). -/
def Station.mouldOccupied (x : Station) : Bool := x.ctx.any (·.mouldOccupied)

/-! ### The route table -/

/-- The station byte of a route entry that names none (12.1). -/
def noStation : Nat := 255

/-- A present entry of this role and station. -/
def RouteEntry.is (e : RouteEntry) (r : Role) (station : Nat) : Bool := e.present && e.role == r.code && e.station == station

/-- The present entry of a role and station; `noStation` for the weigher and the master. -/
def State.findEntry (s : State) (r : Role) (station : Nat) : Option (Fin 32) :=
  (List.finRange 32).find? fun i => s.port.routes[i].is r station

/-- The node address of the present entry of a role and station. -/
def State.nodeOf (s : State) (r : Role) (station : Nat) : Option Byte :=
  (s.findEntry r station).map fun i => BitVec.ofNat 8 s.port.routes[i].address

/-- The entry of a role and station is present and SILENT (R174). -/
def State.isSilent (s : State) (r : Role) (station : Nat) : Bool :=
  (s.findEntry r station).any fun i => s.port.silence[i] == .silent

/-- The present entry of role `r` whose node is `src` (R170, step 5). -/
def State.findSource (s : State) (r : Role) (src : Byte) : Option (Fin 32) :=
  (List.finRange 32).find? fun i =>
    let e := s.port.routes[i]
    e.present && e.role == r.code && e.address == src.toNat

/-- The MASTER node, or every node when there is none (R162, R177). -/
def State.masterDest (s : State) : Byte := (s.nodeOf .master noStation).getD 255

/-! ### The command slate (R176) -/

def dutySlot (st : Fin 6) : Fin 19 := ⟨3 * st.val, by omega⟩
def permitSlot (st : Fin 6) : Fin 19 := ⟨3 * st.val + 1, by omega⟩
def ejectSlot (st : Fin 6) : Fin 19 := ⟨3 * st.val + 2, by omega⟩
def gateSlot : Fin 19 := 18

/-- Places a command frame in its slot, in place of an unsent one (R176). -/
def State.placeSlot (s : State) (slot : Fin 19) (f : OutFrame) : State :=
  s.modPort fun p => { p with slate := p.slate.set slot (some f) }

/-- Places a command frame addressed to the node of a route entry; nothing without a present entry (R25, R104, R146). -/
def State.placeCommand (s : State) (slot : Fin 19) (r : Role) (station : Nat) (kind : Byte) (payload : List Byte) : State :=
  match s.nodeOf r station with
  | some a => s.placeSlot slot { dest := a, kind := kind, seq := none, payload := payload }
  | none => s

/-- A DUTY echoing a node round number (R61, R62). -/
def State.placeDuty (s : State) (st : Fin 6) (nodeRound : Half) (duty : List Nat) : State :=
  s.placeCommand (dutySlot st) .heater st.val kDuty (put16 nodeRound.toNat ++ duty.flatMap put8)

/-- A PERMIT with the permission the station's state wants (R25). -/
def State.placePermit (s : State) (st : Fin 6) : State :=
  s.placeCommand (permitSlot st) .press st.val kPermit (put8 (s.station st).state.permission.code)

/-- An EJECT-COMMAND with the wanted command (R146). -/
def State.placeEject (s : State) (st : Fin 6) : State :=
  let w := (s.station st).demould.wanted
  s.placeCommand (ejectSlot st) .ejector st.val kEjectCommand (put8 w.code ++ put16 w.limit)

/-- A GATE-COMMAND with the wanted gate (R104). -/
def State.placeGate (s : State) : State :=
  let g := s.weigher.wantedGate
  s.placeCommand gateSlot .weigher noStation kGateCommand (put8 g.code ++ put8 g.stationCode)

/-- Makes `w` the wanted ejector command; a change places an EJECT-COMMAND (R146). -/
def State.wantEject (s : State) (st : Fin 6) (w : EjectCmd) : State :=
  if (s.station st).demould.wanted = w then s
  else (s.modStation st fun x => { x with demould := { x.demould with wanted := w } }).placeEject st

/-- Makes `g` the wanted gate; a change places a GATE-COMMAND (R104). -/
def State.wantGate (s : State) (g : Gate) : State :=
  if s.weigher.wantedGate = g then s
  else (s.modWeigher fun w => { w with wantedGate := g }).placeGate

/-- One more bad frame or bad sample, saturating (R169, R170, R191). -/
def State.countLineError (s : State) : State := s.modPort fun p => { p with lineErrors := satAdd 65535 p.lineErrors 1 }

end Sys2Proof.Machine
end

