-- ==== Sys2Proof/Machine/Flags.lean ====
section
/-! DEFINITION. The notice flags (R181 to R183): which flag a kind and key have, what a raise does, which flag the emitter takes. -/

namespace Sys2Proof.Machine

/-- The key of a notice: a station, or `none` for the device; stations come before the device (R182). -/
def keyIndex (key : Option (Fin 6)) : Fin 7 :=
  match key with
  | some st => ⟨st.val, by omega⟩
  | none => 6

/-- The flag of a kind and key: by kind and then by key. -/
def noticeSlot (kind : NoticeKind) (key : Option (Fin 6)) : Fin 77 :=
  ⟨kind.index.val * 7 + (keyIndex key).val, by omega⟩

/-- A raise: of an enabled kind it makes the flag pending, counts it saturating at 255, and replaces its time and value fields;
of a disabled kind it changes nothing (R181). -/
def State.raise (s : State) (kind : NoticeKind) (key : Option (Fin 6)) (values : List Byte) : State :=
  if s.port.mask[kind.index] then
    let old := (s.port.notices[noticeSlot kind key]).elim 0 (·.count)
    s.modPort fun p =>
      { p with notices := p.notices.set (noticeSlot kind key) (some { count := satAdd 255 old 1, time := s.now, values := values }) }
  else s

/-- STATION_STATE: the new state, the fault cause and the cycle number (R26). -/
def State.raiseStationState (s : State) (st : Fin 6) : State :=
  let x := s.station st
  s.raise .stationState (some st) (put8 x.state.code ++ put8 x.cause.code ++ putTime x.cycleNumber)

/-- The first pending flag in the emitter's order (R182). -/
def Port.firstNotice (p : Port) : Option (Fin 77) := (List.finRange 77).find? fun i => (p.notices[i]).isSome

/-- The NOTICE payload of a flag: kind, key (255 for the device), count, time, value fields (12.1). -/
def noticePayload (i : Fin 77) (f : NoticeFlag) : List Byte :=
  put8 (i.val / 7 + 1) ++ put8 (if i.val % 7 = 6 then 255 else i.val % 7) ++ put8 f.count ++ putTime f.time ++ f.values

/-- Clears a flag with its count (R182). -/
def Port.clearNotice (p : Port) (i : Fin 77) : Port := { p with notices := p.notices.set i none }

/-- A new mask: every pending flag of a kind it disables is cleared (R183). -/
def Port.setMask (p : Port) (m : Vector Bool 11) : Port :=
  { p with mask := m,
           notices := Vector.ofFn fun i : Fin 77 => if m[(⟨i.val / 7, by omega⟩ : Fin 11)] then p.notices[i] else none }

end Sys2Proof.Machine
end

