-- ==== Sys2Proof/Machine/Groups.lean ====
section
/-! DEFINITION. Groups: the choice of a group's target (R34 to R37), seeding and ramps (R38, R39). -/

namespace Sys2Proof.Machine

/-- The recipe a station's profiles are found in: the snapshot of its context, or its bound recipe when that is present (R34). -/
def State.recipeOf (s : State) (st : Fin 6) : Option Recipe :=
  match (s.station st).ctx with
  | some c => some c.snapshot
  | none =>
    let r := s.recipes[(s.station st).boundRecipe]
    if r.present then some r else none

/-- The profile number of a group: its own entry, or group 0's when that is NONE (R34). -/
def Recipe.profileOf (r : Recipe) (g : Fin 4) : Fin 16 := (r.profiles[g]).getD ((r.profiles[0]).getD 0)

/-- A resolved target: the profile, the cure step it was taken from, the target, the feed-forward and the ramp length (R35). -/
structure Resolved where
  profile : Fin 16
  step : Nat
  target : Nat
  ff : Nat
  len : Nat
deriving DecidableEq, Repr, Inhabited

/-- R35: the setpoint of the source kind in profile `n` with live copy `p`. A step index beyond the list uses the last step. For
source NONE there is no target. -/
def resolveIn (p : Profile) (n : Fin 16) (k : SourceKind) (idx : Nat) : Option Resolved :=
  let fixed (x : SetPoint) : Option Resolved := some { profile := n, step := 0, target := x.temp, ff := x.ff, len := p.defaultLen }
  match k with
  | .none => none
  | .idle => fixed p.idle
  | .park => fixed p.park
  | .hold => fixed p.hold
  | .opening => fixed p.opening
  | .step =>
    let j := min idx (p.steps.length - 1)
    let c := p.steps.getD j { temp := 0, len := 0, threshold := 0, ff := 0 }
    some { profile := n, step := j, target := c.temp, ff := c.ff, len := c.len }

/-- R37: what a resolved target does to a group. A group that waits for its seed only takes the target that waits (R39, log entry 13). -/
def Group.take (x : Group) (k : SourceKind) (t : Resolved) : Group :=
  let y := { x with source := k, profile := some t.profile, step := t.step, ff := t.ff }
  if !x.seeded then { y with target := t.target, len := t.len }
  else if t.target = x.target then y
  else { y with target := t.target, s0 := x.sg, k := 0, len := t.len, sg := if t.len = 0 then t.target else x.sg }

/-- Resolves one group afresh with source kind `k` from a recipe (R34, R37); without a recipe the resolution fails and only the source
kind changes. For source NONE the group is left as it stands. -/
def Group.resolve (x : Group) (live : Vector Profile 16) (r : Option Recipe) (k : SourceKind) (idx : Nat) (g : Fin 4) : Group :=
  match r with
  | none => if k = .none then x else { x with source := k }
  | some r =>
    match resolveIn live[r.profileOf g] (r.profileOf g) k idx with
    | some t => x.take k t
    | none => x

/-- The step index the context keeps for a group (R35). -/
def Station.stepIndex (x : Station) (g : Fin 4) : Nat := x.ctx.elim 0 fun c => c.cure.steps[g]

/-- Resolves all four groups of a station afresh, with the source kind of its state (R34, R36). -/
def State.resolveAfresh (s : State) (st : Fin 6) : State :=
  s.modStation st fun x =>
    { x with
      groups := Vector.ofFn fun g => (x.groups[g]).resolve s.profilesLive (s.recipeOf st) x.state.source (x.stepIndex g) g }

/-- Resolves one group of a station afresh (R36, a cure-step advance). -/
def State.resolveOne (s : State) (st : Fin 6) (g : Fin 4) : State :=
  s.modStation st fun x =>
    { x with
      groups := x.groups.set g ((x.groups[g]).resolve s.profilesLive (s.recipeOf st) x.state.source (x.stepIndex g) g) }

/-- Re-reads a group from the profile number it keeps (R36, PROFILES-APPLY). -/
def Group.reread (x : Group) (live : Vector Profile 16) (idx : Nat) : Group :=
  match x.profile with
  | none => x
  | some n =>
    match resolveIn live[n] n x.source idx with
    | some t => x.take x.source t
    | none => x

/-- Re-reads the groups of a station that is not OFFLINE (R33, R36). -/
def State.rereadGroups (s : State) (st : Fin 6) : State :=
  s.modStation st fun x =>
    if x.state = .offline then x
    else { x with groups := Vector.ofFn fun g => (x.groups[g]).reread s.profilesLive (x.stepIndex g) }

/-- R38: one ramp step, when the count is below the length. -/
def Group.rampStep (x : Group) : Group :=
  if x.k < x.len then
    { x with k := x.k + 1, sg := ((x.s0 : Int) + (((x.target : Int) - x.s0) * (x.k + 1 : Nat)) / (x.len : Int)).toNat }
  else x

/-- R39: the seed. With no length, or a seed at the target, the ramp is complete (log entry 14). -/
def Group.takeSeed (x : Group) (seed : Nat) : Group :=
  if x.len = 0 ∨ seed = x.target then { x with s0 := seed, sg := x.target, k := x.len, seeded := true }
  else { x with s0 := seed, sg := seed, k := 0, seeded := true }

/-- R39: what ONLINE clears before it resolves. -/
def Group.clearForOnline (x : Group) : Group := { x with s0 := 0, sg := 0, k := 0, len := 0, seeded := false }

end Sys2Proof.Machine
end

