-- ==== Sys2Proof/Machine/Store.lean ====
section
/-! DEFINITION. The history store: its reckoning of space (R151), the records (R152, R153, R193), the append (R154 to R156, but for the
arbiter's test, which Calls.lean adds) and the store notices (R167). -/

namespace Sys2Proof.Machine

/-! ### Space and positions -/

def Store.free (st : Store) : Nat := Config.ringBytes - st.held

def Store.reserved (st : Store) : Nat := Config.reservationBytes * st.reservations

/-- Room not reserved (R151). -/
def Store.room (st : Store) : Nat := st.free - st.reserved

/-- next - cursor (R150). -/
def Store.unread (st : Store) : Nat := (st.next - st.cursor).toNat

/-- The distance of a position from oldest (R150). -/
def Store.dist (st : Store) (p : Time) : Nat := (p - st.oldest).toNat

/-- The record with a sequence number, if it is held. -/
def Store.record? (st : Store) (p : Time) : Option (List Byte) := st.ring[st.dist p]?

/-- The sender is busy: SENDING, or records passed to auto-send and waiting (R158). -/
def Store.busy (st : Store) : Bool := st.sender.isSome || st.autoPos != st.cursor

/-! ### Notices of the store (R167) -/

/-- BACKLOG, on the edge. -/
def State.testBacklog (s : State) : State :=
  let st := s.store
  if st.settings.backlog ≤ st.unread then
    if st.backlogArmed then
      (s.raise .backlog none (put16 st.unread ++ putTime st.cursor ++ putTime st.next)).modStore fun x => { x with backlogArmed := false }
    else s
  else s.modStore fun x => { x with backlogArmed := true }

/-- STORE_LOW, on the edge. -/
def State.testLow (s : State) : State :=
  let st := s.store
  if st.room < st.settings.lowWater then
    if st.storeLowArmed then
      (s.raise .storeLow none (put16 st.room ++ put16 st.free ++ put8 st.reservations)).modStore fun x => { x with storeLowArmed := false }
    else s
  else s.modStore fun x => { x with storeLowArmed := true }

/-! ### Room (R155, R156) -/

/-- Drops the oldest record, of `size` bytes: a position that stood on it moves on, and a send of it is cut short (R156, R161). -/
def Store.dropOldest (st : Store) (size : Nat) (rest : List (List Byte)) : Store :=
  { st with
    ring := rest, oldest := st.oldest + 1, held := st.held - size,
    cursor := if st.cursor = st.oldest then st.oldest + 1 else st.cursor,
    autoPos := if st.autoPos = st.oldest then st.oldest + 1 else st.autoPos,
    sender := st.sender.map fun x => if x.seq = st.oldest then { x with cut := true } else x }

/-- Drops oldest records while the free space is below `size` (R156); the list is the ring as it stands. -/
def Store.dropFor (size : Nat) : List (List Byte) → Store → Store
  | [], st => st
  | r :: rest, st => if st.free < size then Store.dropFor size rest (st.dropOldest r.length rest) else st

/-- Makes room for `size` bytes by the policy in force. Under OVERWRITE a move of the cursor or of the auto-send position sets the
overrun flag and raises CURSOR_OVERRUN, once for the append (R156, log entry 17). Under HOLD the room is there (R155). -/
def State.makeRoom (s : State) (size : Nat) : State :=
  match s.store.settings.policy with
  | .hold => s
  | .overwrite =>
    let old := s.store
    let new := Store.dropFor size old.ring old
    let t := { s with store := new }
    if new.cursor = old.cursor ∧ new.autoPos = old.autoPos then t
    else
      (t.modStore fun x => { x with overrun := true }).raise .cursorOverrun none
        (putTime new.oldest ++ put16 (new.autoPos - old.autoPos).toNat)

/-- R154, steps 2 to 4: the record takes the number next holds; with `pass` and auto-send on, a caught-up cursor moves past it; then the
notices are tested. -/
def State.pushRecord (s : State) (bytes : List Byte) (pass : Bool) : State :=
  let st := s.store
  let moves := pass && st.settings.autoSend && st.cursor == st.next && (s.nodeOf .master noStation).isSome
  let t := s.modStore fun x =>
    { x with ring := x.ring ++ [bytes], next := x.next + 1, held := x.held + bytes.length,
             cursor := if moves then x.next + 1 else x.cursor }
  t.testBacklog.testLow

/-- Takes a reservation at grant (R155). -/
def State.reserve (s : State) : State := (s.modStore fun x => { x with reservations := x.reservations + 1 }).testLow

/-- Uses a cycle's reservation at its append (R155). -/
def State.useReservation (s : State) (r : Reservation) : State :=
  if r = .held then s.modStore fun x => { x with reservations := x.reservations - 1 } else s

/-! ### Record layouts (R193) -/

def kPart : Nat := 1
def kReject : Nat := 2
def kLotMark : Nat := 3
def kRestartMark : Nat := 4

def recordKind (r : List Byte) : Nat := read8 r 0

/-- The outcome of a part: the first row of R95 that applies. -/
def partOutcome (c : Context) (e : Ending) : PartOutcome :=
  if c.aborted then .aborted
  else if e = .openTimeout then .notDemoulded
  else if e = .stuckPart ∨ e = .ejectorJam then .stuck
  else if c.cure.undercured then .undercured
  else if c.suspect || c.cure.blind || c.slowSamples then .suspect
  else .good

/-- Cure end less cure start modulo 2^32, 0 when either is absent (R152). -/
def Cure.wallTime (c : Cure) : Nat :=
  match c.start, c.stop with
  | some a, some b => elapsed b a
  | _, _ => 0

/-- The flags byte of a PART record. -/
def partFlags (c : Context) : Nat :=
  (if c.cure.undercured then 1 else 0) + (if c.cure.blind then 2 else 0) + (if c.suspect then 4 else 0) +
  (if c.slowSamples then 8 else 0) + (if c.aborted then 16 else 0) + (if c.cure.start.isNone then 32 else 0) +
  (if c.cure.stop.isNone then 64 else 0)

def putAttempts (l : List Attempt) : List Byte :=
  l.zipIdx.flatMap fun (a, i) => put8 (i + 1) ++ put8 a.outcome.code ++ put16 a.peak

/-- The PART record of a cycle (R152, R193). -/
def partRecord (st : Fin 6) (c : Context) (e : Ending) : List Byte :=
  put8 kPart ++ put8 (56 + 4 * (c.pieces.length + c.faults.length + c.eject.attempts.length)) ++ put8 st.val ++ put8 c.recipeNo.val ++
  put16 c.snapshot.revision.toNat ++ putTime c.cycle ++ putTime c.grantTime ++ putTime (c.acceptTime.getD 0) ++
  putTime (c.cure.start.getD 0) ++ putTime (c.cure.stop.getD 0) ++ putTime (c.eject.demouldEnd.getD 0) ++ putS32 (c.netMass.getD 0) ++
  put32 (c.cure.target.getD 0) ++ put32 (c.cure.acc / 256) ++ put32 c.cure.wallTime ++ put16 c.excursions ++ put16 c.budgetLimited ++
  put8 (partFlags c) ++ put8 (partOutcome c e).code ++ put8 c.lastCause.code ++ put8 c.pieces.length ++ put8 c.faults.length ++
  put8 c.eject.attempts.length ++ c.pieces.flatMap putS32 ++
  (c.faults.flatMap fun f => put8 f.zone.val ++ put8 f.fault.code ++ put16 f.progress) ++ putAttempts c.eject.attempts

/-- The REJECT record of a cycle that ends in CHARGING (R153, R193). -/
def rejectRecord (st : Fin 6) (c : Context) (reason : RejectReason) (total : Int) (pieces : List Int) (time : Time) : List Byte :=
  put8 kReject ++ put8 (24 + 4 * pieces.length) ++ put8 st.val ++ put8 reason.code ++ putTime c.cycle ++ put8 c.recipeNo.val ++
  put8 pieces.length ++ put16 c.snapshot.revision.toNat ++ putTime c.grantTime ++ putTime time ++ putS32 total ++ pieces.flatMap putS32

/-- The LOT_MARK record; held bytes and room are those after its own append (R153, R193). -/
def lotMarkRecord (src : Byte) (st : Store) (lot : Nat) (now : Time) : List Byte :=
  let after := { st with held := st.held + 16 }
  put8 kLotMark ++ put8 16 ++ put8 src.toNat ++ put8 st.settings.policy.code ++ put32 lot ++ putTime now ++ put16 after.held ++
  put16 after.room

/-- The RESTART_MARK record (R153, R188, R193); `entries` are the stations with a context, in station order. -/
def restartMarkRecord (s : State) (released : Nat) (entries : List (Fin 6 × StationState × Time)) : List Byte :=
  put8 kRestartMark ++ put8 (12 + 6 * entries.length) ++ put8 entries.length ++ put8 s.mode.code ++ putTime s.now ++
  put16 s.port.lineErrors ++ put8 released ++ put8 (s.arbiter.granted.elim 255 (·.val)) ++
  entries.flatMap fun (st, x, n) => put8 st.val ++ put8 x.code ++ putTime n

end Sys2Proof.Machine
end

