-- ==== Sys2Proof/Machine/Calls.lean ====
section
/-! DEFINITION. The change of a station's state (R3, R25, R36), the call arbiter (R123 to R128) and the append that reports to it
(R154, step 5). -/

namespace Sys2Proof.Machine

/-- Changes a station's state: a change of the wanted permission places a PERMIT (R25), a change of the source kind resolves the groups
afresh (R36). Entry to OFFLINE leaves the groups as they stand (R30, log entry 20). -/
def State.setState (s : State) (st : Fin 6) (new : StationState) : State :=
  let old := (s.station st).state
  let s1 := s.modStation st fun x => { x with state := new }
  let s2 := if old.permission = new.permission then s1 else s1.placePermit st
  if old.source = new.source ∨ new = .offline then s2 else s2.resolveAfresh st

/-! ### The grant (R126, R127) -/

/-- The conditions of R126. -/
def State.canGrant (s : State) : Bool :=
  !s.arbiter.queue.isEmpty && s.weigher.state == .idle && s.mode == .run &&
    (s.store.settings.policy == .overwrite || Config.reservationBytes ≤ s.store.room)

/-- R134, starting values. -/
def Ejection.start : Ejection :=
  { sub := .none, number := 0, limit := 0, peak := 0, outcome := .none, openTimer := .stopped, attemptTimer := .stopped, attempts := [],
    demouldEnd := none }

/-- R82, starting values; the cure start is absent. -/
def Cure.begin : Cure :=
  { target := none, start := none, acc := 0, progress := 0, steps := Vector.replicate 4 0, wallMin := .stopped, wallMax := .stopped,
    targetMet := false, stop := none, blind := false, undercured := false, lastTref := 0, lastRate := 0, lastBlind := false }

/-- The context a grant creates (R5): every field but the grant's own at its empty value. -/
def newContext (cycle : Time) (n : Fin 16) (r : Recipe) (now : Time) (res : Reservation) : Context :=
  { cycle := cycle, recipeNo := n, snapshot := r, grantTime := now, netMass := none, pieces := [], slowSamples := false,
    acceptTime := none, mouldOccupied := false, loadTimer := .stopped, lowTonnage := 0, cure := Cure.begin, budgetLimited := 0,
    excursions := 0, faults := [], suspect := false, eject := Ejection.start, aborted := false, lastCause := .none, reservation := res }

/-- The controller's part of a grant (R5): the next cycle number, the snapshot, the hold count at 0. -/
def State.createContext (s : State) (st : Fin 6) (res : Reservation) : State :=
  s.modStation st fun x =>
    let n := x.cycleNumber + 1
    { x with cycleNumber := n, holdCount := 0,
             ctx := some (newContext n x.boundRecipe s.recipes[x.boundRecipe] s.now res) }

/-- The weigher's part of a grant (R105). -/
def State.armWeigher (s : State) (st : Fin 6) : State :=
  let wait := (s.ctx? st).elim 0 fun c => c.snapshot.pieceWait
  (s.modWeigher fun w =>
    { w with state := .armed, vPrev := 0, pieces := [], granted := some st, pieceWait := .running s.now wait, settle := .stopped,
             clear := .stopped }).wantGate .neutral

/-- Takes a station out of the call queue, wherever it stands (R125). -/
def State.removeCall (s : State) (st : Fin 6) : State :=
  { s with arbiter := { s.arbiter with queue := s.arbiter.queue.filter (· ≠ st) } }

/-- The grant to a station whose bound recipe is present, in the order of R127. -/
def State.grant (s : State) (st : Fin 6) : State :=
  let hold := s.store.settings.policy = .hold
  let s1 := if hold then s.reserve else s
  let s2 := s1.removeCall st
  let s3 := { s2 with arbiter := { s2.arbiter with granted := some st } }
  let s4 := (s3.createContext st (if hold then .held else .none)).setState st .charging
  (s4.resolveAfresh st).armWeigher st

/-- The head station's bound recipe is absent: the station leaves to READY and RECIPE_MISSING is raised. Its look at the calling
condition finds the recipe absent, so it stays READY (R127). -/
def State.recipeMissing (s : State) (st : Fin 6) : State :=
  ((s.removeCall st).setState st .ready |>.raiseStationState st).raise .recipeMissing (some st)
    (put8 (s.station st).boundRecipe.val)

/-- Considers the heads of the queue in turn: the first whose bound recipe is present is granted, as long as the conditions hold (R127).
The list is the call queue as it stands. -/
def State.considerFrom : List (Fin 6) → State → State
  | [], s => s
  | st :: rest, s =>
    if s.canGrant then
      if s.recipes[(s.station st).boundRecipe].present then s.grant st
      else State.considerFrom rest (s.recipeMissing st)
    else s

/-- The arbiter's test at an event that can make its conditions hold (R126). -/
def State.consider (s : State) : State := State.considerFrom s.arbiter.queue s

/-- Takes a calling station out of the queue; a leave that changes the head makes the arbiter test (R125, R126). -/
def State.leaveQueue (s : State) (st : Fin 6) : State :=
  let t := s.removeCall st
  if t.arbiter.queue.head? = s.arbiter.queue.head? then t else t.consider

/-- Enters CALLING at the tail or at the head of the queue; a join makes the arbiter test (R124, R126). -/
def State.enterCalling (s : State) (st : Fin 6) (atHead : Bool) : State :=
  let s1 := s.setState st .calling
  let q := s1.arbiter.queue
  let s2 := { s1 with arbiter := { s1.arbiter with queue := if atHead then st :: q else q ++ [st] } }
  s2.consider

/-- The look of a READY station at its calling condition (R10). -/
def State.lookCalling (s : State) (st : Fin 6) : State :=
  let x := s.station st
  if x.state = .ready ∧ x.runEnable ∧ s.recipes[x.boundRecipe].present ∧ x.pressAuto then s.enterCalling st false else s

/-- Entry to READY: STATION_STATE, and the look at the calling condition (R10, R26). -/
def State.enterReady (s : State) (st : Fin 6) : State :=
  ((s.setState st .ready).raiseStationState st).lookCalling st

/-! ### Append and release -/

/-- Appends a record for which the room has been made; the arbiter tests when room not reserved rose (R154). -/
def State.pushAndReport (s : State) (before : Nat) (bytes : List Byte) : State :=
  let t := s.pushRecord bytes true
  if before < t.store.room then t.consider else t

/-- Appends a PART or REJECT record with the cycle's reservation (R154, R155). -/
def State.appendCycle (s : State) (r : Reservation) (bytes : List Byte) : State :=
  let before := s.store.room
  ((s.useReservation r).makeRoom bytes.length).pushAndReport before bytes

/-- Releases a station's context: the hold count becomes 0 and the groups are resolved from the bound recipe (R7, R36). -/
def State.releaseContext (s : State) (st : Fin 6) : State :=
  (s.modStation st fun x => { x with ctx := none, holdCount := 0 }).resolveAfresh st

end Sys2Proof.Machine
end

