-- ==== Sys2Proof/Machine/Holds.lean ====
section
/-! DEFINITION. The end of a charge (R113, R114), holds (R15, R16), latches (R18) and the fresh start of an opening (R135). -/

namespace Sys2Proof.Machine

/-! ### The end of a charge -/

/-- The weigher enters CLEARING with the gate the entry sets (R115). -/
def State.enterClearing (s : State) (g : Gate) : State :=
  (s.modWeigher fun w => { w with state := .clearing, absentRun := 0, clear := .running s.now w.settings.clearTimeout }).wantGate g

/-- The grant ends and the weigh's timers stop (R113, R129). -/
def State.endGrant (s : State) : State :=
  { s with arbiter := { s.arbiter with granted := none },
           weigher := { s.weigher with granted := none, pieceWait := .stopped, settle := .stopped } }

/-- Ends the cycle of a CHARGING station with a REJECT record: append, release, the end of the grant, CHARGE_REJECT (R7, R113). -/
def State.rejectCycle (s : State) (st : Fin 6) (reason : RejectReason) (total : Int) (time : Time) : State :=
  match s.ctx? st with
  | none => s.endGrant
  | some c =>
    let pieces := s.weigher.pieces
    let s1 := s.appendCycle c.reservation (rejectRecord st c reason total pieces time)
    ((s1.releaseContext st).endGrant).raise .chargeReject (some st)
      (put8 reason.code ++ putTime c.cycle ++ putS32 total ++ put8 pieces.length)

/-- A station ends the weigh of its own cycle: reason ABORTED, the total V_prev, the weigher to CLEARING with DIVERT (R114). -/
def State.abortWeigh (s : State) (st : Fin 6) : State :=
  (s.rejectCycle st .aborted s.weigher.vPrev s.now).enterClearing .divert

/-! ### What stops when a cycle is held, latched or aborted -/

/-- The cure is stopped at the time of the event (R94). -/
def Cure.stopAt (c : Cure) (t : Time) : Cure := { c with stop := some t, wallMin := .stopped, wallMax := .stopped }

/-- The demoulding is stopped: timers, sub-state and outcome; the attempt list stands (R147). -/
def Ejection.stopWork (e : Ejection) : Ejection :=
  { e with openTimer := .stopped, attemptTimer := .stopped, sub := .none, outcome := .none }

/-- Entry to HOLD or LATCHED stops the load timer, the cure, or the demoulding, by the state it leaves (R16, R18). -/
def State.stopWork (s : State) (st : Fin 6) : State :=
  match (s.station st).state with
  | .loading => s.modCtx st fun c => { c with loadTimer := .stopped }
  | .curing => s.modCtx st fun c => { c with cure := c.cure.stopAt s.now }
  | .opening | .ejecting => (s.modCtx st fun c => { c with eject := c.eject.stopWork }).wantEject st .retract
  | _ => s

/-- The mark and the cause an entry to HOLD or LATCHED writes into the context (R16, R18). -/
def Context.markHeld (c : Context) (cause : Cause) : Context := { c with aborted := true, lastCause := cause }

/-! ### Latches and holds -/

/-- Entry to LATCHED (R18). -/
def State.enterLatched (s : State) (st : Fin 6) (cause : Cause) : State :=
  let old := (s.station st).state
  let s1 := (if old = .charging then s.abortWeigh st else s).stopWork st
  let s2 := s1.modStation st fun x =>
    { x with holdTimer := .stopped, runEnable := false, cause := cause, ctx := x.ctx.map (·.markHeld cause) }
  let s3 := (s2.setState st .latched).raiseStationState st
  if old = .calling then s3.leaveQueue st else s3

/-- PLATEN_LOST reaches the controller: in any state but OFFLINE; a latched station takes it as its new fault cause (R18). -/
def State.takePlatenLost (s : State) (st : Fin 6) : State :=
  match (s.station st).state with
  | .offline => s
  | .latched => (s.modStation st fun x => { x with cause := .platenLost }).raiseStationState st
  | _ => s.enterLatched st .platenLost

/-- Entry to HOLD from a state other than HOLD (R16). DESIGN CHOICE (log entry 32): R16 speaks of a hold count that is already 2; a station
whose count already stands at 3, after a CLEAR of HOLD_REPEAT, latches with HOLD_REPEAT again, and the count stays 3. -/
def State.enterHold (s : State) (st : Fin 6) (cause : Cause) : State :=
  let x := s.station st
  if x.ctx.isSome ∧ 2 ≤ x.holdCount then
    (s.modStation st fun y => { y with holdCount := 3 }).enterLatched st .holdRepeat
  else
    let old := x.state
    let s1 := (if old = .charging then s.abortWeigh st else s).stopWork st
    let s2 := s1.modStation st fun y =>
      { y with holdCount := if y.ctx.isSome then y.holdCount + 1 else y.holdCount, ctx := y.ctx.map (·.markHeld cause), cause := cause,
               holdTimer := .running s.now y.settings.holdTime }
    let s3 := (s2.setState st .hold).raiseStationState st
    if old = .calling then s3.leaveQueue st else s3

/-- The states in which a HOLD cause is taken (R15). -/
def Cause.takenIn (c : Cause) (x : StationState) : Bool :=
  match c with
  | .heatSilent => x != .offline && x != .latched
  | .pressSilent | .pressStop => x != .offline && x != .parked && x != .latched
  | .pressureLoss => x == .curing
  | .loadTimeout => x == .loading
  | .ejectorSilent => x == .ejecting
  | _ => false

/-- A new cause in HOLD: it replaces the fault cause and restarts the timer; the same cause changes nothing (R16). -/
def State.replaceHold (s : State) (st : Fin 6) (cause : Cause) : State :=
  if (s.station st).cause = cause then s
  else
    (s.modStation st fun x =>
      { x with cause := cause, holdTimer := .running s.now x.settings.holdTime,
               ctx := x.ctx.map fun c => { c with lastCause := cause } }).raiseStationState st

/-- A HOLD cause reaches the controller (R15, R16). -/
def State.takeCause (s : State) (st : Fin 6) (cause : Cause) : State :=
  let x := (s.station st).state
  if cause.takenIn x then
    if x = .hold then s.replaceHold st cause else s.enterHold st cause
  else s

/-- The "cleared when" column of R15 and the "persists" column of R19: whether a fault cause persists. -/
def State.causePersists (s : State) (st : Fin 6) : Bool :=
  let x := s.station st
  match x.cause with
  | .heatSilent => s.isSilent .heat st.val
  | .pressSilent => s.isSilent .press st.val
  | .pressStop => x.pressStop
  | .ejectorSilent => s.isSilent .ejector st.val
  | .platenLost => x.lost[0] || x.lost[1]
  | _ => false

/-! ### Opening and warming -/

/-- The fresh start of an opening (R135), with the entry to OPENING. -/
def State.startOpening (s : State) (st : Fin 6) : State :=
  (s.modCtx st fun c =>
    { c with eject := { Ejection.start with sub := .waitOpen, openTimer := .running s.now c.snapshot.openTimeout } }).setState st .opening

/-- Entry to WARMING from HOLD, LATCHED or PARKED, with the ready count 0 and no fault cause (R9, R17, R19, R23). -/
def State.enterWarming (s : State) (st : Fin 6) : State :=
  (s.modStation st fun x => { x with readyCount := 0, cause := .none }).setState st .warming

/-- Recovery from HOLD or LATCHED: OPENING with the mould occupied, WARMING without (R17, R19). -/
def State.recover (s : State) (st : Fin 6) : State :=
  let t := s.modStation st fun x => { x with cause := .none }
  if (s.station st).mouldOccupied then t.startOpening st else t.enterWarming st

end Sys2Proof.Machine
end

