-- ==== Sys2Proof/Machine/Answers.lean ====
section
/-! DEFINITION. Management answers: how a body becomes MGMT-ANSWER parts (R192) and how an answer enters the request buffer (R178). -/

namespace Sys2Proof.Machine

/-- Cuts a body into pieces of 116 bytes, the last with the rest; `fuel` bounds their number. -/
def cutBody : Nat → List Byte → List (List Byte)
  | 0, b => [b]
  | n + 1, b => if b.length ≤ Config.partBytes then [b] else b.take Config.partBytes :: cutBody n (b.drop Config.partBytes)

/-- The parts of an answer: request kind, result code, part index, final part, body bytes (12.1, R192). The answer carries the seq of
its request and goes to the request's src (R169, R177). -/
def answerParts (src seq kind : Byte) (code : Result) (body : List Byte) : List OutFrame :=
  let pieces := cutBody body.length body
  pieces.zipIdx.map fun (b, i) =>
    { dest := src, kind := kAnswer, seq := some seq,
      payload := [kind] ++ put8 code.code ++ put8 i ++ putFlag (i + 1 = pieces.length) ++ b }

/-- Puts an answer into the request buffer, where its parts wait for the report queue (R178). -/
def State.answer (s : State) (src seq kind : Byte) (code : Result) (body : List Byte) (restart : Bool) : State :=
  s.modPort fun p => { p with buffer := .answering (answerParts src seq kind code body) restart }

/-- The kind byte of a WEIGHER-COMMAND. -/
def kWeigherCommand : Byte := 9

/-- Answers a TARE that was held until the taring ended (R117, R178). -/
def State.answerTare (s : State) (code : Result) (body : List Byte) : State :=
  match s.port.buffer with
  | .taring src seq => s.answer src seq kWeigherCommand code body false
  | _ => s

end Sys2Proof.Machine
end

