-- ==== Sys2Proof/Machine/Demould.lean ====
section
/-! DEFINITION. Demoulding (08): attempts, retracts, the endings of a cycle (R14), and the ejector sample. -/

namespace Sys2Proof.Machine

/-- The force limit of attempt `j`, counted from 1 (R138). -/
def attemptLimit (x : StationSettings) (r : Recipe) (j : Nat) : Nat := min x.forceLimit (r.initialForce + (j - 1) * r.forceStep)

/-- Starts attempt `j` (R139). -/
def State.startAttempt (s : State) (st : Fin 6) (j : Nat) : State :=
  match s.ctx? st with
  | none => s
  | some c =>
    let lim := attemptLimit (s.station st).settings c.snapshot j
    (s.modCtx st fun c =>
      { c with eject := { c.eject with number := j, limit := lim, peak := 0, outcome := .none, sub := .extending,
                                       attemptTimer := .running s.now c.snapshot.attemptTimeout } }).wantEject st (.extend lim)

/-- The press is open: the open timer stops, the station enters EJECTING, and attempt 1 starts; a SILENT ejector node is taken as
EJECTOR_SILENT at once (R14, R136, R139). -/
def State.pressOpen (s : State) (st : Fin 6) : State :=
  let t := (s.modCtx st fun c => { c with eject := { c.eject with openTimer := .stopped } }).setState st .ejecting
  if t.isSilent .ejector st.val then t.takeCause st .ejectorSilent else t.startAttempt st 1

/-- The latch cause of an ending (R14). -/
def Ending.cause : Ending → Cause
  | .released => .none
  | .openTimeout => .openTimeout
  | .stuckPart => .stuckPart
  | .ejectorJam => .ejectorJam

/-- The context as the demould unit hands it over: the demould end, sub-state NONE, and the latch cause as last cause (R14, R143). -/
def Context.handOver (c : Context) (e : Ending) (t : Time) : Context :=
  { c with eject := { c.eject with demouldEnd := some t, sub := .none }, lastCause := if e = .released then c.lastCause else e.cause }

/-- Ends a cycle that was accepted: the PART record, the release, PART_DONE, and where the station goes (R7, R14). -/
def State.endCycle (s : State) (st : Fin 6) (e : Ending) (t : Time) : State :=
  match s.ctx? st with
  | none => s
  | some c0 =>
    let c := c0.handOver e t
    let s1 := (s.modCtx st fun _ => c).appendCycle c.reservation (partRecord st c e)
    let s2 := (s1.releaseContext st).raise .partDone (some st) (putTime c.cycle ++ put8 (partOutcome c e).code)
    if e = .released then
      if (s2.station st).runEnable ∧ (s2.station st).pressAuto then s2.enterCalling st false else s2.enterReady st
    else s2.enterLatched st e.cause

/-- An attempt takes its outcome (R142). -/
def State.takeOutcome (s : State) (st : Fin 6) (o : AttemptOutcome) : State :=
  (s.modCtx st fun c =>
    { c with eject := { c.eject with attempts := c.eject.attempts ++ [{ peak := c.eject.peak, outcome := o }], outcome := o,
                                     sub := .retracting,
                                     attemptTimer := .running s.now c.snapshot.attemptTimeout } }).wantEject st .retract

/-- The outcome a judged sample gives (R140): the first row that applies. -/
def judge (r : Recipe) (limit position force : Nat) : AttemptOutcome :=
  if limit < force then .overforce
  else if r.ejectStroke ≤ position then (if force ≤ r.releaseThreshold then .released else .noRelease)
  else .none

/-- The retract is complete (R143). -/
def State.retractComplete (s : State) (st : Fin 6) (c : Context) : State :=
  let t := s.modCtx st fun c => { c with eject := { c.eject with attemptTimer := .stopped } }
  if c.eject.outcome = .released then t.endCycle st .released s.now
  else if c.eject.number < c.snapshot.retryLimit + 1 then
    if c.snapshot.settleDwell = 0 then t.startAttempt st (c.eject.number + 1)
    else
      t.modCtx st fun c =>
        { c with eject := { c.eject with sub := .dwelling, attemptTimer := .running s.now c.snapshot.settleDwell } }
  else t.endCycle st .stuckPart s.now

/-- What an EJECT-SAMPLE decides in the sub-state of the context (R140, R143). -/
def State.judgeEject (s : State) (st : Fin 6) (m : EjectSample) : State :=
  match s.ctx? st with
  | none => s
  | some c =>
    match c.eject.sub with
    | .extending =>
      if m.echo = .extend c.eject.limit then
        let t := s.modCtx st fun c => { c with eject := { c.eject with peak := max c.eject.peak m.force } }
        match judge c.snapshot c.eject.limit m.position m.force with
        | .none => t
        | o => t.takeOutcome st o
      else s
    | .retracting =>
      if m.echo = .retract ∧ m.position ≤ (s.station st).settings.retractThreshold then s.retractComplete st c else s
    | _ => s

/-- The work of the demould unit on an EJECT-SAMPLE (R133): the last items, the echo comparison (R146), the judgement. -/
def State.ejectWork (s : State) (st : Fin 6) (m : EjectSample) : State :=
  let t := s.modStation st fun x =>
    { x with demould := { x.demould with echoed := some m.echo, position := some m.position, force := some m.force } }
  let t := if m.echo = (t.station st).demould.wanted then t else t.placeEject st
  t.judgeEject st m

/-- The open timer expires in WAIT_OPEN (R137). -/
def State.openExpired (s : State) (st : Fin 6) (t : Time) : State :=
  s.endCycle st .openTimeout t

/-- The attempt timer expires, by the sub-state (R141, R144, R145). -/
def State.attemptExpired (s : State) (st : Fin 6) (c : Context) (t : Time) : State :=
  match c.eject.sub with
  | .extending => s.takeOutcome st .timeout
  | .retracting => s.endCycle st .ejectorJam t
  | .dwelling => s.startAttempt st (c.eject.number + 1)
  | _ => s

end Sys2Proof.Machine
end

