-- ==== Sys2Proof/Machine/Cure.lean ====
section
/-! DEFINITION. Cure accounting (05): the target (R85), the start (R86), the accruing round (R87 to R91) and the end of cure. -/

namespace Sys2Proof.Machine

/-- The cure target of an accepted net mass (R85). -/
def cureTarget (r : Recipe) (m : Int) : Nat :=
  (limit r.eMin r.eMax ((r.eBase : Int) + r.massCoeff * (m - r.nominalMass) / 16)).toNat

/-- The start of the cure at entry to CURING (R12, R86). -/
def Context.startCure (c : Context) (now : Time) : Context :=
  { c with
    loadTimer := .stopped, lowTonnage := 0,
    cure := { c.cure with start := some now, acc := 0, progress := 0, steps := Vector.replicate 4 0, targetMet := false,
                          wallMin := if c.snapshot.wallMin = 0 then .expired else .running now c.snapshot.wallMin,
                          wallMax := .running now c.snapshot.wallMax } }

/-- The averaged temperatures of the round's reference zones (R88). -/
def Station.referenceTemps (x : Station) : List Nat :=
  (List.finRange 16).filterMap fun i =>
    let z := x.zones[i]
    if z.entry.present ∧ z.entry.cureRef ∧ z.fault = .none ∧ z.kind = some .driven then z.tavg else none

/-- The rate of a reference temperature (R89). -/
def cureRate (rates : Vector (Vector Nat 32) 4) (r : Recipe) (tref : Nat) : Nat :=
  if tref < r.baseTemp then 0
  else (rates[r.rateTable])[(⟨min 31 ((tref - r.baseTemp) / 50), by omega⟩ : Fin 32)]

/-- The accumulator has reached the target: acc ≥ E × 256. -/
def Cure.reached (c : Cure) : Bool := c.target.any fun e => e * 256 ≤ c.acc

/-- Accrual of one round, or a blind round (R88, R89). -/
def Cure.accrue (c : Cure) (rates : Vector (Vector Nat 32) 4) (r : Recipe) (dt : Nat) : Option Nat → Cure
  | none => { c with blind := true, lastTref := 0, lastRate := 0, lastBlind := true }
  | some tref =>
    let rate := cureRate rates r tref
    { c with acc := satAdd 4294967295 c.acc (rate * dt), lastTref := tref, lastRate := rate, lastBlind := false }

/-- The highest step of a list whose advance threshold is at or below the progress (R90). -/
def highestStep (l : List CureStep) (progress : Nat) : Nat :=
  ((l.zipIdx.filter fun (c, _) => c.threshold ≤ progress).getLast?).elim 0 (·.2)

/-- A group's step index after the advance test: it never goes back (R90). -/
def advancedStep (live : Vector Profile 16) (x : Group) (idx progress : Nat) : Nat :=
  match x.profile with
  | none => idx
  | some n => max idx (highestStep (live[n]).steps progress)

/-- Cure ends: the cure end time, both wall timers stopped, and the station goes to OPENING (R13, R93). -/
def State.endCure (s : State) (st : Fin 6) (t : Time) : State :=
  (s.modCtx st fun c => { c with cure := c.cure.stopAt t }).startOpening st

/-- An accruing round: Tref, accrual, progress and step advance, the test for the end of cure (R87 to R91). -/
def State.cureRound (s : State) (st : Fin 6) : State :=
  match s.ctx? st with
  | none => s
  | some c =>
    let x := s.station st
    let a := c.cure.accrue s.rates c.snapshot x.round.lastDt x.referenceTemps.min?
    let progress := min 256 (a.acc / a.target.getD 0)
    let steps := Vector.ofFn fun g : Fin 4 => advancedStep s.profilesLive x.groups[g] a.steps[g] progress
    let b := { a with progress := progress, steps := steps, targetMet := a.targetMet || a.reached }
    let t : State := s.modCtx st fun c => { c with cure := b }
    let u := (List.finRange 4).foldl (fun (t : State) (g : Fin 4) => if a.steps[g] < steps[g] then t.resolveOne st g else t) t
    if b.reached ∧ c.snapshot.wallMin ≤ elapsed s.now (b.start.getD 0) then u.endCure st s.now else u

/-- The wall minimum expires: the cure ends when the target has been met (R91). -/
def State.wallMinExpired (s : State) (st : Fin 6) (c : Context) (t : Time) : State :=
  if c.cure.targetMet then s.endCure st t else s.modCtx st fun c => { c with cure := { c.cure with wallMin := .expired } }

/-- The wall maximum expires: the cure ends, UNDERCURED when the target is not met (R92). -/
def State.wallMaxExpired (s : State) (st : Fin 6) (t : Time) : State :=
  (s.modCtx st fun c => { c with cure := { c.cure with undercured := c.cure.undercured || !c.cure.reached } }).endCure st t

end Sys2Proof.Machine
end

