-- ==== Sys2Proof/Machine/Rounds.lean ====
section
/-! DEFINITION. The heat round (03) and the zone supervisor's part of it (04). -/

namespace Sys2Proof.Machine

/-! ### One zone in a round (R50 to R58) -/

/-- The conditioned temperature (R51). -/
def conditioned (e : ZoneFigures) (c : Nat) : Nat := min 4000 ((c - e.offset) * e.gain / 32768)

/-- Feeds a recent-sample window of depth `a` (R53). -/
def feedWindow (a : Nat) (w : List Nat) (t : Nat) : List Nat := if a ≤ w.length then w.drop (w.length + 1 - a) ++ [t] else w ++ [t]

/-- The average of a window, floored; none when it is empty (R53). -/
def average (w : List Nat) : Option Nat := if w.isEmpty then none else some (w.sum / w.length)

/-- Conditioning, feeding, averaging and the zone's kind in a full round (R50 to R53). DEDUCED (log entry 38): the Tavg of a faulted zone,
which the round does not form, stands as last formed. -/
def Zone.condition (z : Zone) (status : ChannelStatus) (raw : Nat) : Zone :=
  if !z.entry.present then z
  else
    let t := if status = .ok then some (conditioned z.entry.toZoneFigures raw) else none
    let y := { z with lastStatus := status, lastT := t }
    if z.fault ≠ .none then { y with kind := some .faulted }
    else
      let w := t.elim z.samples (feedWindow z.entry.depth z.samples)
      { y with samples := w, tavg := average w, kind := if w.isEmpty then some .unread else some .driven }

/-- The zone setpoint (R54). -/
def zoneSetpoint (sg : Nat) (trim : Int) : Nat := (limit 0 4000 ((sg : Int) + trim)).toNat

/-- The integral of a driven zone (R56). -/
def nextIntegral (z : Zone) (budgetLimited : Bool) (e : Int) : Int :=
  if (z.prevDemand = .high ∧ 0 < e) ∨ (z.prevDemand = .low ∧ e < 0) ∨ (budgetLimited ∧ 0 < e) then z.integral
  else limit (-(z.entry.integralLimit : Int)) z.entry.integralLimit (z.integral + e)

/-- The demand of a driven zone (R57). -/
def demandOf (ff kp ki : Nat) (e i : Int) : Nat := (limit 0 2047 ((ff : Int) + (kp : Int) * e / 16 + (ki : Int) * i / 256)).toNat

/-- The previous-demand flag a demand leaves (R60). -/
def prevDemandOf (d : Nat) : PrevDemand := if d = 2047 then .high else if d = 0 then .low else .none

/-- Zone setpoint, error, integral, demand and previous-demand flag (R54 to R57, R60). DEDUCED (log entry 38): what the round does not form
stands as last formed, which is Sz, e and d of a faulted zone, and e and d of an unread one. -/
def Zone.regulate (z : Zone) (g : Group) (budgetLimited : Bool) : Zone :=
  if !z.entry.present || z.fault != .none then z
  else
    let y := { z with sz := zoneSetpoint g.sg z.entry.trim }
    match z.kind, z.tavg with
    | some .driven, some t =>
      let e : Int := (y.sz : Int) - t
      let i := nextIntegral z budgetLimited e
      let d := demandOf g.ff z.entry.kp z.entry.ki e i
      { y with err := e, integral := i, demand := d, prevDemand := prevDemandOf d }
    | _, _ => y

/-- Three bits in reverse order (R58). -/
def bitrev (p : Nat) : Nat := p % 2 * 4 + p / 2 % 2 * 2 + p / 4 % 2

/-- The dithered value of a demand in phase `p` (R58). -/
def dither (d p : Nat) : Nat := if bitrev p < d % 8 ∧ d / 8 < 255 then d / 8 + 1 else d / 8

/-- A driven zone's n_out; the others count 0 (R58, R59). -/
def Zone.nOut (z : Zone) (p : Nat) : Nat :=
  if z.entry.present ∧ z.fault = .none ∧ z.kind = some .driven then dither z.demand p else 0

/-- The duty after the budget (R59). -/
def budgeted (n budget sigma : Nat) : Nat := if sigma ≤ budget then n else n * budget / sigma

/-! ### The groups in a round (R38, R39) -/

/-- The conditioned temperatures of the members a group is seeded from (R39). -/
def Station.seedTemps (x : Station) (g : Fin 4) : List Nat :=
  (List.finRange 16).filterMap fun i =>
    let z := x.zones[i]
    if z.entry.present ∧ z.entry.group = g ∧ z.fault = .none ∧ z.lastStatus = .ok then z.lastT else none

/-- A group's seeding in the first round after ONLINE, or its ramp step. -/
def Station.stepGroup (x : Station) (g : Fin 4) : Group :=
  let y := x.groups[g]
  if y.seeded then y.rampStep else y.takeSeed ((average (x.seedTemps g)).getD y.target)

/-- The group takes a ramp step in this round (R38): the round is a ramping round for it. -/
def Group.ramping (y : Group) : Bool := y.seeded && y.k < y.len

/-! ### Δt (R46) -/

/-- Δt of a full round: the round period after ONLINE, else the time since the last round limited to 1..2 × round period. -/
def deltaT (x : Station) (now : Time) : Nat :=
  if x.round.firstRound then x.settings.roundPeriod
  else (limit 1 (2 * x.settings.roundPeriod : Nat) (elapsed now x.round.lastTime : Nat)).toNat

/-- Round accounting of an offline round (R45, R47, R48). -/
def RoundState.offlineRound (r : RoundState) (n : Half) (now : Time) : RoundState :=
  { r with count := r.count + 1, lastNode := some n, lastTime := now }

/-! ### Stages 1 to 6 of a full round (R49) -/

/-- Stage 2: conditioning, feeding and averaging of every zone (R51 to R53). -/
def Station.conditionAll (x : Station) (m : HeatSample) : Station :=
  { x with zones := Vector.ofFn fun i : Fin 16 => (x.zones[i]).condition (m.channels[i]).1 (m.channels[i]).2 }

/-- Stage 3: seeding or ramp steps of the four groups (R38, R39). -/
def Station.stepGroups (x : Station) : Station := { x with groups := Vector.ofFn x.stepGroup }

/-- Stage 4: setpoint, error, integral and demand, with the budget-limited flag the previous full round left (R54 to R57). -/
def Station.regulateAll (x : Station) : Station :=
  { x with zones := Vector.ofFn fun i : Fin 16 => (x.zones[i]).regulate x.groups[(x.zones[i]).entry.group] x.round.budgetLimited }

/-- Stage 5: the sum of n_out over the driven zones in phase `p` (R58, R59). -/
def Station.sigma (x : Station) (p : Nat) : Nat := ((List.finRange 16).map fun i => (x.zones[i]).nOut p).sum

/-- Stage 6: the duties after the budget (R59). -/
def Station.applyBudget (x : Station) (p sigma : Nat) : Station :=
  { x with zones := Vector.ofFn fun i : Fin 16 => { x.zones[i] with dutySent := budgeted ((x.zones[i]).nOut p) x.settings.budget sigma } }

/-- The sixteen duties of a station, in channel order. -/
def Station.duties (x : Station) : List Nat := (List.finRange 16).map fun i => (x.zones[i]).dutySent

/-- Stage 1 and the flags and sums the round leaves (R45 to R47, R59 to R61). -/
def Station.account (x : Station) (n : Half) (now : Time) (sigma sum : Nat) : RoundState :=
  { count := x.round.count + 1, lastNode := some n, lastTime := now, lastDt := deltaT x now,
    budgetLimited := decide (x.settings.budget < sigma), firstRound := false, lastSigma := sigma, lastSum := sum }

/-- The phase of the round that increases the count (R47). -/
def Station.nextPhase (x : Station) : Nat := (x.round.count + 1).toNat % 8

/-- Stages 1 to 6 on the station alone. -/
def Station.fullRound (x : Station) (m : HeatSample) (now : Time) : Station :=
  let y := ((x.conditionAll m).stepGroups).regulateAll
  let sigma := y.sigma x.nextPhase
  let z := y.applyBudget x.nextPhase sigma
  { z with round := x.account m.nodeRound now sigma z.duties.sum }

/-! ### The zone supervisor (R67) -/

/-- A present zone that holds no fault. -/
def Zone.inService (z : Zone) : Bool := z.entry.present && z.fault == .none

/-- A driven zone's Tavg in the round (R52). -/
def Zone.reading (z : Zone) : Option Nat := if z.kind = some .driven then z.tavg else none

/-- R71: the open and range counts. -/
def Zone.countStatus (z : Zone) : Zone :=
  match z.lastStatus with
  | .ok => { z with openCount := 0, rangeCount := 0 }
  | .openTc | .absent => { z with openCount := z.openCount + 1, rangeCount := 0 }
  | .range => { z with openCount := 0, rangeCount := z.rangeCount + 1 }

/-- R73: the stuck count. -/
def Zone.countStuck (z : Zone) : Zone :=
  match z.reading with
  | some t => if z.dutySent = 0 ∧ z.sz + z.entry.runaway ≤ t then { z with stuckCount := z.stuckCount + 1 } else { z with stuckCount := 0 }
  | none => { z with stuckCount := 0 }

/-- R74: the heater-open count, and whether the run that reached 16 rose by less than 10. DEDUCED (log entry 39): a run that is broken sets
the count to 0 and leaves the reference as it stands. -/
def Zone.countHeaterOpen (z : Zone) : Zone × Bool :=
  match z.reading with
  | none => ({ z with heaterOpenCount := 0 }, false)
  | some t =>
    if z.demand ≠ 2047 then ({ z with heaterOpenCount := 0 }, false)
    else if z.heaterOpenCount = 0 then ({ z with heaterOpenCount := 1, heaterOpenRef := t }, false)
    else if z.heaterOpenCount + 1 < 16 then ({ z with heaterOpenCount := z.heaterOpenCount + 1 }, false)
    else if t < z.heaterOpenRef + 10 then ({ z with heaterOpenCount := z.heaterOpenCount + 1 }, true)
    else ({ z with heaterOpenCount := 1, heaterOpenRef := t }, false)

/-- The fault that falls due, the first in the order of R75. -/
def dueFault (z : Zone) (heaterOpen : Bool) : ZoneFault :=
  if 2 ≤ z.openCount then .tcOpen
  else if 2 ≤ z.rangeCount then .tcRange
  else if z.reading.any (fun t => z.entry.overTemp ≤ t) then .overtemp
  else if 8 ≤ z.stuckCount then .heaterStuck
  else if heaterOpen then .heaterOpen
  else .none

/-- Takes a fault: every counter becomes 0 (R75). DEDUCED (log entry 39): the heater-open reference is no counter and stands. -/
def Zone.takeFault (z : Zone) (f : ZoneFault) : Zone :=
  { z with fault := f, openCount := 0, rangeCount := 0, stuckCount := 0, heaterOpenCount := 0 }

/-- Step 1 of R67 for one zone. -/
def Zone.judgeFault (z : Zone) : Zone :=
  if !z.inService then z
  else
    let (y, h) := z.countStatus.countStuck.countHeaterOpen
    match dueFault y h with
    | .none => y
    | f => y.takeFault f

/-- Step 1 gave the zone a fault. -/
def Zone.tookFault (before after : Zone) : Bool := before.fault != after.fault

/-- The window state after a settled round (R68). -/
def nextWindow (w : WindowState) (t sz low high : Nat) : WindowState :=
  if sz + high + 10 ≤ t then .high
  else if t + low + 10 ≤ sz then .low
  else
    match w with
    | .within => .within
    | .high => if t + 10 ≤ sz + high then .within else .high
    | .low => if sz + 10 ≤ t + low then .within else .low

/-- Step 2 of R67 for one zone: held in a ramping round of its group and when it is unread (R68, R69). -/
def Zone.judgeWindow (z : Zone) (ramping : Bool) : Zone :=
  if !z.inService || ramping then z
  else
    match z.reading with
    | some t => { z with window := nextWindow z.window t z.sz z.entry.bandLow z.entry.bandHigh }
    | none => z

/-- A zone in service out of its window (R70, R9). -/
def Zone.outOfWindow (z : Zone) : Bool := z.inService && z.window != .within

/-- The zones of a platen: 0 the upper, 1 the lower. -/
def platenZones (p : Fin 2) : List (Fin 16) := (List.finRange 16).filter fun i => i.val / 8 = p.val

/-- A platen is lost: it has a present zone and every present zone on it holds a fault (R78). -/
def Station.platenLost (x : Station) (p : Fin 2) : Bool :=
  (platenZones p).any (fun i => (x.zones[i]).entry.present) && (platenZones p).all fun i => !(x.zones[i]).inService

/-- What the context takes of a fault during CURING (R76). -/
def Context.noteFault (c : Context) (i : Fin 16) (z : Zone) : Context :=
  { c with
    faults := if c.faults.length < 16 ∧ ∀ f ∈ c.faults, f.zone ≠ i then
        c.faults ++ [{ zone := i, fault := z.fault, progress := c.cure.progress }]
      else c.faults,
    suspect := c.suspect || z.entry.cureRef }

/-- One zone that took a fault in this round: the context entry during CURING and ZONE_FAULT (R76, R77). -/
def State.noteFault (s : State) (st : Fin 6) (start : StationState) (i : Fin 16) : State :=
  let x := s.station st
  let z := x.zones[i]
  let t := if start = .curing then s.modCtx st fun c => c.noteFault i z else s
  t.raise .zoneFault (some st)
    (put8 i.val ++ put8 z.fault.code ++ putOpt 2 put16 z.reading ++ put8 start.code ++ putTime x.cycleNumber ++ putFlag x.ctx.isSome)

/-- Step 3 of R67 (R70). -/
def Context.addExcursions (c : Context) (n : Nat) : Context :=
  let m := satAdd 65535 c.excursions n
  { c with excursions := m, suspect := c.suspect || decide (c.snapshot.excursionLimit < m) }

/-- The zones that take a fault in step 1 of R67. DESIGN CHOICE (log entry 33): the zones that fault in one round are taken in rising zone
number, which orders their entries in the zone-fault list (R76) and decides whose values the one ZONE_FAULT carries (R77). -/
def Station.faultsTaken (x : Station) : List (Fin 16) :=
  (List.finRange 16).filter fun i => Zone.tookFault x.zones[i] (x.zones[i]).judgeFault

/-- Step 1 of R67. -/
def State.superviseFaults (s : State) (st : Fin 6) (start : StationState) : State :=
  (s.station st).faultsTaken.foldl (fun t i => t.noteFault st start i)
    (s.modStation st fun x => { x with zones := Vector.ofFn fun i : Fin 16 => (x.zones[i]).judgeFault })

/-- Step 2 of R67. -/
def Station.judgeWindows (x : Station) (ramping : Vector Bool 4) : Station :=
  { x with zones := Vector.ofFn fun i : Fin 16 => (x.zones[i]).judgeWindow ramping[(x.zones[i]).entry.group] }

/-- The number of zones in service out of their windows (R70). -/
def Station.outCount (x : Station) : Nat := ((List.finRange 16).filter fun i => (x.zones[i]).outOfWindow).length

/-- Step 4 of R67 (R78): PLATEN_LOST is raised once when a platen judged lost has its flag clear. -/
def State.supervisePlatens (s : State) (st : Fin 6) : State :=
  let x := s.station st
  let t := s.modStation st fun x => { x with lost := Vector.ofFn x.platenLost }
  if (x.platenLost 0 && !x.lost[0]) || (x.platenLost 1 && !x.lost[1]) then t.takePlatenLost st else t

/-- The supervisor's part of a round (R67): faults, windows, excursions, platens. `ramping` says of each group whether it took a ramp
step in the round, `start` is the station's state at the start of it. -/
def State.supervise (s : State) (st : Fin 6) (start : StationState) (ramping : Vector Bool 4) : State :=
  let s2 := (s.superviseFaults st start).modStation st (·.judgeWindows ramping)
  let s3 := if start = .curing then s2.modCtx st (·.addExcursions (s2.station st).outCount) else s2
  s3.supervisePlatens st

/-! ### The ready test (R9) -/

/-- The ready count after a full round of a WARMING station (R9, R40). DEDUCED (log entry 34): a present zone that holds a fault is still a
present zone of its group, so a ramping group whose only present zones are faulted keeps the count at 0. -/
def Station.nextReady (x : Station) (ramping : Vector Bool 4) : Nat :=
  if (List.finRange 16).any (fun i => (x.zones[i]).entry.present && ramping[(x.zones[i]).entry.group]) then 0
  else if (List.finRange 16).any (fun i => (x.zones[i]).outOfWindow) then 0
  else satAdd 255 x.readyCount 1

def State.readyTest (s : State) (st : Fin 6) (ramping : Vector Bool 4) : State :=
  let n := (s.station st).nextReady ramping
  let t := s.modStation st fun x => { x with readyCount := n }
  if (t.station st).settings.readyDwell ≤ n then t.enterReady st else t

/-! ### The rounds -/

/-- An all-zero DUTY outside the full rounds (R62): when it is placed it is the last DUTY of the station. -/
def State.zeroDuty (s : State) (st : Fin 6) (n : Half) : State :=
  if (s.nodeOf .heater st.val).isSome then
    (s.modStation st fun x => { x with round := { x.round with lastSum := 0 } }).placeDuty st n (List.replicate 16 0)
  else s

/-- The duty sent of every zone is 0 (an all-zero DUTY of an OFFLINE station, log entry 15). -/
def Station.zeroDuties (x : Station) : Station := { x with zones := Vector.ofFn fun i : Fin 16 => { x.zones[i] with dutySent := 0 } }

/-- An offline round (R48). -/
def State.offlineRound (s : State) (st : Fin 6) (m : HeatSample) : State :=
  let t := s.modStation st fun x => { x with round := x.round.offlineRound m.nodeRound s.now }
  if (t.nodeOf .heater st.val).isSome then (t.modStation st Station.zeroDuties).zeroDuty st m.nodeRound else t

/-- A full round (R49): stages 1 to 6, the budget-limited count, the DUTY, and the hand-off in the order of R63. -/
def State.fullRound (s : State) (st : Fin 6) (m : HeatSample) : State :=
  let x0 := s.station st
  let start := x0.state
  let ramping := Vector.ofFn fun g : Fin 4 => (x0.groups[g]).ramping
  let s1 := s.modStation st fun x => x.fullRound m s.now
  let s2 :=
    if start = .curing ∧ (s1.station st).round.budgetLimited then
      s1.modCtx st fun c => { c with budgetLimited := satAdd 65535 c.budgetLimited 1 }
    else s1
  let s3 := s2.placeDuty st m.nodeRound (s2.station st).duties
  let s4 := s3.supervise st start ramping
  let s5 := if (s4.station st).state = .curing then s4.cureRound st else s4
  if (s5.station st).state = .warming then s5.readyTest st ramping else s5

/-- The heat engine takes a HEAT-SAMPLE (R45): a duplicate starts no round. -/
def State.heatWork (s : State) (st : Fin 6) (m : HeatSample) : State :=
  let x := s.station st
  if x.round.lastNode = some m.nodeRound then s
  else if x.state = .offline then s.offlineRound st m
  else s.fullRound st m

/-! ### Starting a zone's runtime afresh (R29, R50, R66) -/

/-- Runtime and supervisor state at their starting values; the entry and the fault stand. -/
def Zone.fresh (z : Zone) : Zone := { Zone.reset with entry := z.entry, fault := z.fault }

end Sys2Proof.Machine
end

