-- ==== Sys2Proof/Machine/Weigher.lean ====
section
/-! DEFINITION. The charge weigher (06): samples, the stability window, the weigh, its decisions, clearing, taring and faults. -/

namespace Sys2Proof.Machine

/-! ### Weight (R101 to R103) -/

/-- The gross of an OK sample (R101). -/
def grossOf (x : WeigherSettings) (raw : Int) : Int := (raw - x.zero) * x.span / 65536

/-- Presence after a fed net (R102). -/
def nextPresence (x : WeigherSettings) (p : Presence) (net : Int) : Presence :=
  if x.presenceOn ≤ net then .present else if net < x.presenceOff then .absent else p

/-- Feeds the stability window (R103). -/
def feedNet (w : List Int) (net : Int) : List Int := if 8 ≤ w.length then w.drop (w.length - 7) ++ [net] else w ++ [net]

/-- The value of a full window, floor(sum / 8) (R103). -/
def windowValue (w : List Int) : Option Int := if w.length = 8 then some (w.sum / 8) else none

/-- The window is stable at a value: 8 nets, the greatest less the least at most the band (R103). -/
def stableValue (band : Int) (w : List Int) : Option Int :=
  match windowValue w, w.max?, w.min? with
  | some v, some a, some b => if a - b ≤ band then some v else none
  | _, _, _ => none

/-- The tare with a value added, limited to its range (R99, R115, R117). -/
def addTare (tare v : Int) : Int := limit (-16777216) 16777215 (tare + v)

/-- ARMED, SETTLING and STABLE make up a weigh. -/
def WeigherState.inWeigh : WeigherState → Bool
  | .armed | .settling | .stable => true
  | .idle | .clearing | .taring | .fault => false

/-! ### Decisions (R109 to R113) -/

/-- The snapshot of the charging station. -/
def State.weighRecipe (s : State) : Recipe :=
  (s.weigher.granted.bind fun st => (s.ctx? st).map (·.snapshot)).getD Recipe.reset

/-- A reject decided by the weigher, but for the fault reasons: the record and the release, CLEARING with DIVERT, and the station back to
CALLING at the head (R113). -/
def State.rejectCharge (s : State) (reason : RejectReason) (total : Int) (time : Time) : State :=
  match s.weigher.granted with
  | none => s.enterClearing .divert
  | some st => ((s.rejectCycle st reason total time).enterClearing .divert).enterCalling st true

/-- NO_CHARGE without a piece, UNDER with one (R110). -/
def State.rejectWaited (s : State) (time : Time) : State :=
  s.rejectCharge (if s.weigher.pieces.isEmpty then .noCharge else .under) s.weigher.vPrev time

/-- The charge fields an accept writes (R11, R85, R112). -/
def Context.accept (c : Context) (m : Int) (pieces : List Int) (now : Time) : Context :=
  { c with netMass := some m, pieces := pieces, acceptTime := some now, mouldOccupied := true,
           loadTimer := .running now c.snapshot.loadTimeout, cure := { c.cure with target := some (cureTarget c.snapshot m) } }

/-- Accept, as one event (R112). -/
def State.acceptCharge (s : State) (v : Int) : State :=
  match s.weigher.granted with
  | none => s.enterClearing .divert
  | some st =>
    ((((s.modCtx st fun c => c.accept v s.weigher.pieces s.now).setState st .loading).endGrant)).enterClearing (.pass st)

/-- What R109 decides on a total and a number of pieces. -/
inductive Decision where
  | over | accept | under | wait
deriving DecidableEq, Repr, Inhabited

def decideCharge (r : Recipe) (v : Int) (n : Nat) : Decision :=
  if r.nominalMass + r.upperTol < v then .over
  else if r.nominalMass - r.lowerTol ≤ v ∧ r.minPieces ≤ n then .accept
  else if v < r.nominalMass - r.lowerTol ∧ n = r.pieceLimit then .under
  else .wait

/-- The decision after a piece (R109). -/
def State.decidePiece (s : State) (v : Int) : State :=
  match decideCharge s.weighRecipe v s.weigher.pieces.length with
  | .over => s.rejectCharge .over v s.now
  | .accept => s.acceptCharge v
  | .under => s.rejectCharge .under v s.now
  | .wait => s

/-- The settle ends on a stable value (R107). -/
def State.settleEnd (s : State) (v : Int) : State :=
  let w := s.weigher
  let d := v - w.vPrev
  if w.settings.minPiece ≤ d then
    (s.modWeigher fun w =>
      { w with pieces := w.pieces ++ [d], vPrev := v, pieceWait := .running s.now s.weighRecipe.pieceWait, settle := .stopped,
               state := .stable }).decidePiece v
  else if d ≤ -w.settings.pieceThreshold then (s.modWeigher fun w => { w with settle := .stopped }).rejectCharge .disturbed v s.now
  else
    let t := s.modWeigher fun w => { w with vPrev := v, settle := .stopped, state := .stable }
    if w.pieceWait = .expiredInSettling then t.rejectWaited s.now else t

/-- A settle starts (R106). -/
def State.startSettle (s : State) (net : Int) : State :=
  s.modWeigher fun w => { w with state := .settling, window := [net], settle := .running s.now w.settings.settleTimeout }

/-! ### Clearing and taring (R115, R117) -/

/-- The tare after a clear: zero tracking (R115, step 1). -/
def Weigher.trackedTare (w : Weigher) : Int :=
  match windowValue w.window with
  | some v => if 8 ≤ w.absentRun ∧ -w.settings.zeroTrack ≤ v ∧ v ≤ w.settings.zeroTrack then addTare w.tare v else w.tare
  | none => w.tare

/-- The tray has emptied: IDLE, and the arbiter tests (R115, R126). -/
def State.finishClear (s : State) : State :=
  (((s.modWeigher fun w => { w with tare := w.trackedTare, clear := .stopped }).wantGate .neutral).modWeigher
    fun w => { w with state := .idle }).consider

/-- A sample fed in CLEARING moves the absent run (R115). -/
def State.clearSample (s : State) : State :=
  let t := s.modWeigher fun w => { w with absentRun := if w.presence = .absent then satAdd 255 w.absentRun 1 else 0 }
  if t.weigher.settings.runOn ≤ t.weigher.absentRun then t.finishClear else t

/-- The taring ends in IDLE with this tare, the TARE is answered, and the arbiter tests (R117, R126). -/
def State.endTaring (s : State) (tare : Int) (code : Result) (body : List Byte) : State :=
  ((s.modWeigher fun w => { w with tare := tare, settle := .stopped, state := .idle }).answerTare code body).consider

/-! ### Faults (R118, R119) -/

/-- The reason of the reject a fault cause makes. -/
def WeigherCause.reason : WeigherCause → RejectReason
  | .overload => .overload
  | .nodeError => .nodeError
  | .none | .silent | .notCleared => .silent

/-- The runtime of every entry to FAULT (R118). -/
def Weigher.enterFault (w : Weigher) (c : WeigherCause) : Weigher :=
  { w with state := .fault, cause := c, pieceWait := .stopped, settle := .stopped, clear := .stopped, absentRun := 0 }

/-- WEIGHER_FAULT: the cause, the state left and, for a weigh, the station whose charge was rejected (R118). -/
def State.raiseWeigherFault (s : State) (c : WeigherCause) (left : WeigherState) (st : Option (Fin 6)) : State :=
  s.raise .weigherFault none (put8 c.code ++ put8 left.code ++ st.elim [] fun st => put8 st.val)

/-- A unit not in FAULT enters it (R118). -/
def State.enterFault (s : State) (c : WeigherCause) (time : Time) : State :=
  let left := s.weigher.state
  if left.inWeigh then
    match s.weigher.granted with
    | some st =>
      (((((s.rejectCycle st c.reason s.weigher.vPrev time).modWeigher (·.enterFault c)).wantGate .divert).raiseWeigherFault c left
        (some st))).enterCalling st true
    | none => ((s.modWeigher (·.enterFault c)).wantGate .divert).raiseWeigherFault c left none
  else
    let t := (s.modWeigher (·.enterFault c)).raiseWeigherFault c left none
    if left = .taring then t.answerTare .state [] else t

/-- A fault cause reaches the unit (R118, R119). -/
def State.takeWeigherCause (s : State) (c : WeigherCause) (time : Time) : State :=
  if s.weigher.state = .fault then
    if s.weigher.cause = c then s
    else (s.modWeigher fun w => { w with cause := c }).raiseWeigherFault c .fault none
  else s.enterFault c time

/-- Whether the fault cause persists (R119). DEDUCED (log entry 41): the gross of the last new sample is held against the capacity that stands
when the question is put. -/
def State.weigherPersists (s : State) : Bool :=
  let w := s.weigher
  match w.cause with
  | .none => false
  | .overload => w.lastStatus == .overload || (w.lastStatus == .ok && w.lastGross.any fun g => w.settings.capacity < g)
  | .nodeError => w.lastStatus == .error
  | .silent => s.isSilent .weigher noStation
  | .notCleared => w.presence == .present

/-! ### Samples (R100) -/

/-- The cause a sample shows (R101). -/
def sampleCause (x : WeigherSettings) (m : WeighSample) : Option WeigherCause :=
  match m.status with
  | .error => some .nodeError
  | .overload => some .overload
  | .ok => if x.capacity < grossOf x m.raw then some .overload else none

/-- What a new sample writes whatever it shows: counter, time, status, gate, and gross and net of an OK sample (R100, R101). -/
def Weigher.note (w : Weigher) (m : WeighSample) (now : Time) : Weigher :=
  let y := { w with lastCounter := some m.counter, lastTime := some now, lastStatus := m.status, lastGate := m.gate }
  if m.status = .ok then
    { y with lastGross := some (grossOf w.settings m.raw), lastNet := some (grossOf w.settings m.raw - w.tare) }
  else y

/-- The interval since the last sample is above twice the nominal one (R111). -/
def Weigher.lateSample (w : Weigher) (now : Time) : Bool :=
  w.state.inWeigh && w.lastTime.any fun t => 2 * w.settings.sampleInterval < elapsed now t

/-- SLOW_SAMPLES of the charging station (R111). -/
def State.markSlow (s : State) : State :=
  match s.weigher.granted with
  | some st => s.modCtx st fun c => { c with slowSamples := true }
  | none => s

/-- Feeding and presence (R102, R103). -/
def Weigher.feed (w : Weigher) (net : Int) : Weigher :=
  { w with window := feedNet w.window net, presence := nextPresence w.settings w.presence net }

/-- What the state of the unit makes of a fed sample (R100, step 6). -/
def State.actOnNet (s : State) (net : Int) : State :=
  let w := s.weigher
  match w.state with
  | .idle => if w.presence = .present then s.enterClearing .divert else s
  | .armed | .stable =>
    if w.settings.pieceThreshold < net - w.vPrev ∨ w.settings.pieceThreshold < w.vPrev - net then s.startSettle net else s
  | .settling =>
    match stableValue w.settings.band w.window with
    | some v => s.settleEnd v
    | none => s
  | .clearing => s.clearSample
  | .taring =>
    match stableValue w.settings.band w.window with
    | some v => s.endTaring (addTare w.tare v) .done (putS32 (addTare w.tare v))
    | none => s
  | .fault => s

/-- A new sample, steps 3 to 6 of R100. -/
def State.newWeighSample (s : State) (m : WeighSample) : State :=
  let s1 := if s.weigher.lateSample s.now then s.markSlow else s
  let s2 := s1.modWeigher (·.note m s.now)
  match sampleCause s.weigher.settings m with
  | some c => s2.takeWeigherCause c s.now
  | none =>
    let net := grossOf s.weigher.settings m.raw - s.weigher.tare
    (s2.modWeigher (·.feed net)).actOnNet net

/-- The weigher unit takes a WEIGH-SAMPLE (R100): the gate echo (R104), then nothing more of a duplicate. -/
def State.weighWork (s : State) (m : WeighSample) : State :=
  let t := if m.gate = s.weigher.wantedGate then s else s.placeGate
  if s.weigher.lastCounter = some m.counter then t else t.newWeighSample m

/-! ### Timers (R108, R110, R116) -/

/-- The piece wait expires (R110). -/
def State.pieceWaitExpired (s : State) (t : Time) : State :=
  match s.weigher.state with
  | .armed | .stable => s.rejectWaited t
  | .settling => s.modWeigher fun w => { w with pieceWait := .expiredInSettling }
  | _ => s

/-- The settle timer expires (R108, R117). -/
def State.settleExpired (s : State) (t : Time) : State :=
  match s.weigher.state with
  | .settling => s.rejectCharge .unsettled s.weigher.vPrev t
  | .taring => s.endTaring s.weigher.tare .unsettled []
  | _ => s

/-- The clear timer expires (R116). -/
def State.clearExpired (s : State) (t : Time) : State :=
  match s.weigher.state with
  | .clearing => s.enterFault .notCleared t
  | _ => s

end Sys2Proof.Machine
end

