-- ==== Sys2Proof/Machine/Station.lean ====
section
/-! DEFINITION. The station controller's part of a PRESS-SAMPLE (R1, R10, R12, R13, R136), its timers (R12, R17) and its commands
(R8, R19 to R24). A command that is refused answers why; one that is taken gives the next state. -/

namespace Sys2Proof.Machine

/-! ### PRESS-SAMPLE -/

/-- The flags and the echo of the most recent PRESS-SAMPLE (R1, R15). -/
def Station.notePress (x : Station) (m : PressSample) : Station :=
  { x with pressAuto := m.auto, pressStop := m.stop, echoedPermission := m.echo }

/-- The echo comparison (R25). -/
def State.comparePermit (s : State) (st : Fin 6) (echo : Permission) : State :=
  if echo = (s.station st).state.permission then s else s.placePermit st

/-- CALLING back to READY: the station leaves the call queue (R10, R21, R22). -/
def State.callToReady (s : State) (st : Fin 6) : State := ((s.setState st .ready).raiseStationState st).leaveQueue st

/-- The closing test of R12. -/
def PressSample.closes (m : PressSample) (x : StationSettings) : Bool := m.ram ≤ x.closedThreshold && x.minTonnage ≤ m.tonnage

/-- The closing sample: the cure starts, and the station goes to CURING (R12, R86). -/
def State.closePress (s : State) (st : Fin 6) : State := (s.modCtx st fun c => c.startCure s.now).setState st .curing

/-- The low-tonnage count after a sample (R13). -/
def nextLow (minTonnage tonnage count : Nat) : Nat := if tonnage < minTonnage then count + 1 else 0

/-- The pressure watch of CURING (R13). -/
def State.watchPressure (s : State) (st : Fin 6) (tonnage : Nat) : State :=
  match s.ctx? st with
  | none => s
  | some c =>
    let n := nextLow (s.station st).settings.minTonnage tonnage c.lowTonnage
    let t := s.modCtx st fun c => { c with lowTonnage := n }
    if 3 ≤ n then t.takeCause st .pressureLoss else t

/-- The opening test of WAIT_OPEN (R136). -/
def State.watchOpening (s : State) (st : Fin 6) (ram : Nat) : State :=
  match s.ctx? st with
  | none => s
  | some c => if c.eject.sub = .waitOpen ∧ c.snapshot.openThreshold ≤ ram then s.pressOpen st else s

/-- The one test a PRESS-SAMPLE makes in the state of the station (R10, R12, R13, R136). -/
def State.testPress (s : State) (st : Fin 6) (m : PressSample) : State :=
  match (s.station st).state with
  | .ready => s.lookCalling st
  | .calling => if m.auto then s else s.callToReady st
  | .loading => if m.closes (s.station st).settings then s.closePress st else s
  | .curing => s.watchPressure st m.tonnage
  | .opening => s.watchOpening st m.ram
  | .offline | .warming | .charging | .ejecting | .hold | .latched | .parked => s

/-- The station controller takes a PRESS-SAMPLE: flags and echo, then PRESS_STOP, then the test of the state that leaves (R1, R15,
log entry 11). -/
def State.pressWork (s : State) (st : Fin 6) (m : PressSample) : State :=
  let t := (s.modStation st (·.notePress m)).comparePermit st m.echo
  (if m.stop then t.takeCause st .pressStop else t).testPress st m

/-! ### Timers -/

/-- The hold timer expires (R17). -/
def State.holdExpired (s : State) (st : Fin 6) : State :=
  let t := s.modStation st fun x => { x with holdTimer := .stopped }
  if t.causePersists st then t.enterLatched st (t.station st).cause else t.recover st

/-! ### Commands -/

/-- START (R20, R21). -/
def State.startStation (s : State) (st : Fin 6) : Except Result State :=
  match (s.station st).state with
  | .offline | .latched => .error .state
  | _ => .ok ((s.modStation st fun x => { x with runEnable := true }).lookCalling st)

/-- STOP (R21). -/
def State.stopStation (s : State) (st : Fin 6) : State :=
  let t := s.modStation st fun x => { x with runEnable := false }
  if (s.station st).state = .calling then t.callToReady st else t

/-- ABORT in LOADING or CURING: the aborted mark, the stop of what runs, and the opening (R22). -/
def State.abortCycle (s : State) (st : Fin 6) : State :=
  ((s.modCtx st fun c => { c with aborted := true }).stopWork st).startOpening st

/-- ABORT (R22). -/
def State.abortStation (s : State) (st : Fin 6) : Except Result State :=
  let t := s.modStation st fun x => { x with runEnable := false }
  match (s.station st).state with
  | .opening | .ejecting => .error .state
  | .calling => .ok (t.callToReady st)
  | .charging => .ok ((t.abortWeigh st).enterReady st)
  | .loading | .curing => .ok (t.abortCycle st)
  | .offline | .warming | .ready | .parked | .hold | .latched => .ok t

/-- PARK (R23). -/
def State.parkStation (s : State) (st : Fin 6) : Except Result State :=
  match (s.station st).state with
  | .ready | .warming => .ok (s.setState st .parked)
  | .calling => .ok ((s.setState st .parked).leaveQueue st)
  | _ => .error .state

/-- UNPARK (R23). -/
def State.unparkStation (s : State) (st : Fin 6) : Except Result State :=
  match (s.station st).state with
  | .parked => .ok (s.enterWarming st)
  | _ => .error .state

/-- A platen has a zone that is present and not faulted. -/
def Station.platenServed (x : Station) (p : Fin 2) : Bool := (platenZones p).any fun i => (x.zones[i]).inService

/-- What ONLINE asks of a station (R8). -/
def State.complete (s : State) (st : Fin 6) : Bool :=
  (s.findEntry .heat st.val).isSome && (s.findEntry .heater st.val).isSome && (s.findEntry .press st.val).isSome &&
  (s.findEntry .ejector st.val).isSome && !s.isSilent .heat st.val && !s.isSilent .press st.val &&
  (s.station st).platenServed 0 && (s.station st).platenServed 1 && s.recipes[(s.station st).boundRecipe].present

/-- What ONLINE starts anew: zones with their faults kept, lost flags, groups, first-round mark, ready count, fault cause
(R8, R39, R44, R50, R66, R78). -/
def Station.startAnew (x : Station) : Station :=
  { x with
    cause := .none, readyCount := 0, lost := Vector.replicate 2 false,
    zones := Vector.ofFn fun i : Fin 16 => (x.zones[i]).fresh,
    groups := Vector.ofFn fun g : Fin 4 => (x.groups[g]).clearForOnline,
    round := { x.round with firstRound := true, budgetLimited := false } }

/-- ONLINE (R8). -/
def State.onlineStation (s : State) (st : Fin 6) : Except Result State :=
  if (s.station st).state ≠ .offline ∨ s.mode = .config then .error .state
  else if s.complete st then .ok ((s.modStation st Station.startAnew).setState st .warming)
  else .error .incomplete

/-- Entry to OFFLINE by the OFFLINE command (R23, R26, R62). -/
def State.enterOffline (s : State) (st : Fin 6) : State :=
  let x := s.station st
  let n := x.round.lastNode.getD 0
  let t := (s.modStation st fun x =>
    { x with holdTimer := .stopped, runEnable := false, cause := .none, readyCount := 0 }).setState st .offline
  let u := if (t.nodeOf .heater st.val).isSome then (t.modStation st Station.zeroDuties).zeroDuty st n else t
  let v := u.raiseStationState st
  if x.state = .calling then v.leaveQueue st else v

/-- The OFFLINE command (R20, R23). -/
def State.offlineStation (s : State) (st : Fin 6) : Except Result State :=
  match (s.station st).state with
  | .ready | .warming | .calling | .parked => .ok (s.enterOffline st)
  | .hold | .latched => if (s.station st).ctx.isSome then .error .state else .ok (s.enterOffline st)
  | _ => .error .state

/-- BIND of a recipe number in range (R24). -/
def State.bindStation (s : State) (st : Fin 6) (recipe : Fin 16) : Except Result State :=
  let x := s.station st
  let t := s.modStation st fun x => { x with boundRecipe := recipe }
  if x.ctx.isSome then .error .state
  else if x.state = .ready then .ok ((t.resolveAfresh st).lookCalling st)
  else if x.state = .warming then .ok (t.resolveAfresh st)
  else .ok t

/-- CLEAR (R19). -/
def State.clearStation (s : State) (st : Fin 6) : Except Result State :=
  if (s.station st).state ≠ .latched ∨ s.causePersists st then .error .state else .ok (s.recover st)

end Sys2Proof.Machine
end

