-- ==== Sys2Proof/Machine/Port.lean ====
section
/-! DEFINITION. The line port: forwarding (R171), silence (R174), ring-out (R175, R176), admission to the report queue (R177) and what
each admitted claimant places (R160 to R162, R182, R192). -/

namespace Sys2Proof.Machine

/-! ### Forwarding (R171) -/

/-- The part's own address on the ring; none in ISOLATED (R170, R186). -/
def State.ownAddress? (s : State) : Option Byte := if s.mode = .isolated then none else s.nodeAddress

/-- The frame with one hop less and a fresh check word. -/
def forwarded (f : Frame) : Frame :=
  let g := { f with hops := f.hops - 1 }
  { g with check := checkWord g }

/-- Appends a frame to the forward buffer, or drops it when the buffer is full. -/
def State.forward (s : State) (f : Frame) : State :=
  if s.port.forward.length < Config.forwardDepth then s.modPort fun p => { p with forward := p.forward ++ [forwarded f] } else s

/-! ### Silence (R174) -/

/-- The roles that have a silence timer. -/
def hasSilence (e : RouteEntry) : Bool :=
  e.present && (e.role == Role.heat.code || e.role == Role.press.code || e.role == Role.ejector.code || e.role == Role.weigher.code)

/-- Silence started afresh from `now`: running for an entry that has a timer, else stopped (R173, R174). -/
def silenceOf (e : RouteEntry) (now : Time) : Silence := if hasSilence e then .running now else .stopped

/-- A sample clears SILENT and restarts the timer (R174). -/
def State.hearNode (s : State) (i : Fin 32) : State :=
  s.modPort fun p => { p with silence := p.silence.set i (.running s.now) }

/-- The elapsed time has reached the entry's silence interval; then the time of the expiry. -/
def State.silenceDue? (s : State) (i : Fin 32) : Option Time :=
  match s.port.silence[i] with
  | .running since =>
    if (s.port.routes[i]).silence ≤ elapsed s.now since then some (since + BitVec.ofNat 32 (s.port.routes[i]).silence) else none
  | _ => none

/-- A route entry's key for notices: its station, or the device for the weigher (R174, R170). -/
def RouteEntry.key (e : RouteEntry) : Option (Fin 6) := if e.role = Role.weigher.code then none else stationOf? e.station

/-- The silence reported to the blocks of the role (R174, R80, R1, R147, R118). -/
def State.reportSilence (s : State) (e : RouteEntry) (t : Time) : State :=
  if e.role = Role.weigher.code then s.takeWeigherCause .silent t
  else
    match stationOf? e.station with
    | none => s
    | some st =>
      if e.role = Role.heat.code then
        (s.zeroDuty st ((s.station st).round.lastNode.getD 0)).takeCause st .heatSilent
      else if e.role = Role.press.code then (s.modStation st fun x => { x with pressAuto := false }).takeCause st .pressSilent
      else if e.role = Role.ejector.code then s.takeCause st .ejectorSilent
      else s

/-- An entry becomes SILENT at time `t`: NODE_SILENT with entry, role, address and expiry time, then the report (R174). -/
def State.becomeSilent (s : State) (i : Fin 32) (t : Time) : State :=
  let e := s.port.routes[i]
  ((s.modPort fun p => { p with silence := p.silence.set i .silent }).raise .nodeSilent e.key
    (put8 i.val ++ put8 e.role ++ put8 e.address ++ putTime t)).reportSilence e t

/-! ### Ring-out (R175, R176) -/

/-- The claimants of ring-out in order, taken round from the one after the last served. -/
def RingClaimant.rotation : RingClaimant → List RingClaimant
  | .report => [.forward, .slate, .report]
  | .forward => [.slate, .report, .forward]
  | .slate => [.report, .forward, .slate]

/-- The store of a claimant holds a frame. -/
def Port.holds (p : Port) : RingClaimant → Bool
  | .forward => !p.forward.isEmpty
  | .slate => p.slate.toList.any (·.isSome)
  | .report => !p.report.isEmpty

/-- The store served next (R175). -/
def Port.choose (p : Port) : Option RingClaimant :=
  if 3 ≤ p.forward.length then some .forward else p.lastRing.rotation.find? p.holds

/-- The first occupied slot after the last slot sent, wrapping from 18 to 0 (R176). -/
def Port.nextSlot (p : Port) : Option (Fin 19) :=
  ((List.finRange 19).map fun k => (⟨(p.lastSlot.val + 1 + k.val) % 19, Nat.mod_lt _ (by decide)⟩ : Fin 19)).find? fun i =>
    (p.slate[i]).isSome

/-- A frame the part originates: its address, 32 hops and the check word (R169). -/
def originate (own seq : Byte) (f : OutFrame) : Frame :=
  let g : Frame :=
    { dest := f.dest, src := own, kind := f.kind, hops := Config.originHops, seq := seq, length := BitVec.ofNat 8 f.payload.length,
      payload := f.payload, check := 0 }
  { g with check := checkWord g }

/-- Begins the transmission of an originated frame: an answer has its own sequence number, every other frame takes the counter's
(R169). -/
def Port.transmit (p : Port) (own : Byte) (f : OutFrame) : Port :=
  match f.seq with
  | some n => { p with sending := some (originate own n f) }
  | none => { p with sending := some (originate own p.seqCounter f), seqCounter := p.seqCounter + 1 }

/-- Serves a claimant: the frame leaves its store, and the claimant is the last served (R175). -/
def Port.serve (p : Port) (own : Byte) : RingClaimant → Port
  | .forward =>
    match p.forward with
    | [] => p
    | f :: rest => { p with forward := rest, sending := some f, lastRing := .forward }
  | .slate =>
    match p.nextSlot with
    | none => p
    | some i =>
      match p.slate[i] with
      | none => p
      | some f => { p with slate := p.slate.set i none, lastSlot := i, lastRing := .slate }.transmit own f
  | .report =>
    match p.report with
    | [] => p
    | f :: rest => { p with report := rest, lastRing := .report }.transmit own f

/-- A free port with a frame to send begins sending (R175). -/
def State.beginSend (s : State) : State :=
  if s.port.sending.isSome then s
  else
    match s.port.choose with
    | none => s
    | some c => s.modPort fun p => p.serve (s.nodeAddress.getD 0) c

/-! ### Admission to the report queue (R177) -/

/-- The claimants of the report queue in order, taken round from the one after the last admitted. -/
def ReportClaimant.rotation : ReportClaimant → List ReportClaimant
  | .emitter => [.handler, .sender, .emitter]
  | .handler => [.sender, .emitter, .handler]
  | .sender => [.emitter, .handler, .sender]

/-- A claimant waits: answer parts to place; a send whose READ answer has been placed; a pending notice flag. -/
def State.waits (s : State) : ReportClaimant → Bool
  | .handler =>
    match s.port.buffer with
    | .answering parts _ => !parts.isEmpty
    | _ => false
  | .sender => s.store.sender.any (·.answered)
  | .emitter => s.port.firstNotice.isSome

/-- The claimant admitted next, when the queue has room. -/
def State.admitted (s : State) : Option ReportClaimant :=
  if s.port.report.length < Config.reportDepth then s.port.lastReport.rotation.find? s.waits else none

/-- Places one frame of an admitted claimant. -/
def State.placeReport (s : State) (c : ReportClaimant) (f : OutFrame) : State :=
  s.modPort fun p => { p with report := p.report ++ [f], lastReport := c }

/-- The handler places the next answer part; the buffer becomes empty after the last one, but for a RESTART (R178, R192). The last
part of a READ's DONE answer lets its send begin (R159). -/
def State.placeAnswer (s : State) : State :=
  match s.port.buffer with
  | .answering (f :: rest) restart =>
    let t := s.placeReport .handler f
    if rest.isEmpty then
      (t.modPort fun p => { p with buffer := if restart then .restarting else .empty }).modStore fun x =>
        { x with sender := x.sender.map fun y => { y with answered := true } }
    else t.modPort fun p => { p with buffer := .answering rest restart }
  | _ => s

/-- The emitter makes one NOTICE from the first pending flag and clears the flag (R182). -/
def State.placeNotice (s : State) : State :=
  match s.port.firstNotice with
  | none => s
  | some i =>
    match s.port.notices[i] with
    | none => s
    | some f =>
      (s.placeReport .emitter { dest := s.masterDest, kind := kNotice, seq := none, payload := noticePayload i f }).modPort
        (·.clearNotice i)

/-- A HISTORY segment of a send (12.1, R160). -/
def segmentFrame (x : Sending) (flags : Nat) (data : List Byte) : OutFrame :=
  { dest := x.dest, kind := kHistory, seq := none, payload := putTime x.seq ++ put8 x.index ++ put8 flags ++ data }

/-- The data bytes of the next segment of a send (R160). -/
def Store.segmentData (st : Store) (x : Sending) : List Byte :=
  (((st.record? x.seq).getD []).drop (Config.segmentBytes * x.index)).take Config.segmentBytes

/-- The send of a record ends: the cursor of a READ and the auto-send position move on by one (R158, R159, R162). -/
def Store.finishSend (st : Store) (x : Sending) : Store :=
  match x.origin with
  | .read => { st with cursor := st.cursor + 1, autoPos := st.autoPos + 1, sender := none }
  | .auto => { st with autoPos := st.autoPos + 1, sender := none }

/-- The sender places its next segment, or the TRUNCATED one of a record that was dropped (R160, R161). -/
def State.placeSegment (s : State) : State :=
  match s.store.sender with
  | none => s
  | some x =>
    if x.cut then (s.placeReport .sender (segmentFrame x 1 [])).modStore fun y => { y with sender := none }
    else
      let data := s.store.segmentData x
      let t := s.placeReport .sender (segmentFrame x 0 data)
      if data.length < Config.segmentBytes then (t.modStore (·.finishSend x)).testBacklog
      else t.modStore fun y => { y with sender := some { x with index := x.index + 1 } }

/-- An idle sender with records passed to auto-send (R162). -/
def Store.autoReady (st : Store) : Bool := st.sender.isNone && st.autoPos != st.cursor

/-- The sender enters SENDING for the record at the auto-send position (R162). -/
def State.startAutoSend (s : State) : State :=
  s.modStore fun x =>
    { x with sender := some { seq := x.autoPos, origin := .auto, dest := s.masterDest, index := 0, answered := true, cut := false } }

end Sys2Proof.Machine
end

