-- ==== Sys2Proof/Machine/Tables.lean ====
section
/-! DEFINITION. ENTRY-READ and ENTRY-WRITE of every table (R2, R28, R29, R32, R84, R97, R122, R157, R172, R173). A refused write leaves
its table as it was. -/

namespace Sys2Proof.Machine

/-- What serving a request comes to: the state after it, the result code and the answer's body. -/
structure Reply where
  state : State
  code : Result
  body : List Byte

/-- A refusal: nothing changes, and the answer carries no body. -/
def refuse (s : State) (code : Result) : Reply := { state := s, code := code, body := [] }

/-- A request taken. -/
def taken (s : State) (body : List Byte) : Reply := { state := s, code := .done, body := body }

/-- `lo ≤ n ≤ hi`. -/
def within (lo hi n : Nat) : Bool := lo ≤ n && n ≤ hi

/-- `lo ≤ n ≤ hi` of a signed number. -/
def withinS (lo hi n : Int) : Bool := lo ≤ n && n ≤ hi

/-! ### Route entries (R172, R173) -/

/-- Owned, a function of the role (R172). -/
def isOwned (role : Nat) : Bool :=
  role == Role.heater.code || role == Role.press.code || role == Role.ejector.code || role == Role.weigher.code

/-- The roles that name a station. -/
def hasStation (role : Nat) : Bool :=
  role == Role.heat.code || role == Role.heater.code || role == Role.press.code || role == Role.ejector.code

/-- An entry as ENTRY-READ answers it. DESIGN CHOICE (log entry 40): an absent entry that was written with a role above 5 is answered as not
owned, as R172 gives owned for the six roles alone. -/
def RouteEntry.write (e : RouteEntry) : RouteWrite :=
  { toRouteFields := e.toRouteFields, present := if e.present then 1 else 0, owned := if isOwned e.role then 1 else 0 }

/-- An entry as a write makes it. -/
def routeEntryOf (w : RouteWrite) : RouteEntry := { toRouteFields := w.toRouteFields, present := w.present != 0 }

/-- The entry is present and names a station that is not OFFLINE (R172, the STATE refusal). -/
def State.bindsBusy (s : State) (e : RouteEntry) : Bool :=
  e.present && hasStation e.role && (stationOf? e.station).any fun st => (s.station st).state != .offline

/-- The ranges of R172 for an entry written present. -/
def routeInRange (w : RouteWrite) : Bool :=
  w.present == 1 && within 1 254 w.address && w.role ≤ 5 && (if hasStation w.role then w.station < 6 else w.station == noStation) &&
  (w.role == Role.heater.code || w.role == Role.master.code || within 50 10000 w.silence)

/-- The checks of R172 against another entry as it stands. -/
def RouteEntry.clashes (e : RouteEntry) (w : RouteWrite) : Bool :=
  e.present && (e.address == w.address || (e.role == w.role && (w.role == Role.master.code || w.role == Role.weigher.code ||
    e.station == w.station)))

/-- The BAD_CONTENT checks of R172: an entry written absent passes them. -/
def State.routeContent (s : State) (i : Fin 32) (w : RouteWrite) : Bool :=
  w.present == 0 ||
    (routeInRange w && s.nodeAddress.all (fun a => a.toNat != w.address) &&
      (List.finRange 32).all fun j => j == i || !(s.port.routes[j]).clashes w)

/-- The slate slot that holds the commands for the node of an owned entry (R173, R176). -/
def RouteEntry.slot? (e : RouteEntry) : Option (Fin 19) :=
  if e.role = Role.weigher.code then some gateSlot
  else
    (stationOf? e.station).bind fun st =>
      if e.role = Role.heater.code then some (dutySlot st)
      else if e.role = Role.press.code then some (permitSlot st)
      else if e.role = Role.ejector.code then some (ejectSlot st)
      else none

/-- The write makes an entry absent, or changes its address, role or station (R173). -/
def RouteEntry.moves (old new : RouteEntry) : Bool :=
  !new.present || old.address != new.address || old.role != new.role || old.station != new.station

/-- Empties the slate slot of an owned entry that a write moves (R173). -/
def Port.dropCommands (p : Port) (old new : RouteEntry) : Port :=
  if old.present && isOwned old.role && old.moves new then
    match old.slot? with
    | some i => { p with slate := p.slate.set i none }
    | none => p
  else p

/-- A route write that is taken (R172, R173). -/
def State.replaceRoute (s : State) (i : Fin 32) (e : RouteEntry) : State :=
  s.modPort fun p =>
    { p.dropCommands p.routes[i] e with routes := p.routes.set i e, silence := p.silence.set i (silenceOf e s.now) }

def State.writeRoute (s : State) (entry : Nat) (w : RouteWrite) : Reply :=
  match entryOf? entry with
  | none => refuse s .badIndex
  | some i =>
    if s.bindsBusy s.port.routes[i] || s.bindsBusy (routeEntryOf w) then refuse s .state
    else if s.routeContent i w then taken (s.replaceRoute i (routeEntryOf w)) []
    else refuse s .badContent

def State.readRouteEntry (s : State) (entry : Nat) : Reply :=
  match entryOf? entry with
  | none => refuse s .badIndex
  | some i => taken s (putRoute (s.port.routes[i]).write)

/-! ### Station settings (R2) -/

def settingsInRange (w : StationSettings) : Bool :=
  w.budget ≤ 4080 && within 100 2000 w.roundPeriod && within 1 255 w.readyDwell && within 1000 60000 w.holdTime &&
  w.closedThreshold ≤ 65535 && w.minTonnage ≤ 65535 && w.forceLimit ≤ 65535 && w.retractThreshold ≤ 65535

/-- The states in which a station's settings and zone entries are written (R2, R28). -/
def StationState.writable : StationState → Bool
  | .offline | .parked => true
  | _ => false

def State.writeStation (s : State) (station : Nat) (w : StationSettings) : Reply :=
  match stationOf? station with
  | none => refuse s .badIndex
  | some st =>
    if !(s.station st).state.writable then refuse s .state
    else if settingsInRange w then taken (s.modStation st fun x => { x with settings := w }) []
    else refuse s .badContent

def State.readStation (s : State) (station : Nat) : Reply :=
  match stationOf? station with
  | none => refuse s .badIndex
  | some st => taken s (putSettings (s.station st).settings (s.station st).boundRecipe.val)

/-! ### Zone entries (R28, R29) -/

/-- The numbers of a zone entry are in range. -/
def zoneInRange (w : ZoneFigures) : Bool :=
  w.offset ≤ 65535 && w.gain ≤ 65535 && withinS (-500) 500 w.trim && (w.depth == 1 || w.depth == 2 || w.depth == 4 || w.depth == 8) &&
  w.kp ≤ 255 && w.ki ≤ 255 && w.integralLimit ≤ 32767 && w.bandLow ≤ 500 && w.bandHigh ≤ 500 && w.overTemp ≤ 4000 && w.runaway ≤ 1000

/-- The entry a write makes, when every field is in range. -/
def zoneEntryOf? (w : ZoneWrite) : Option ZoneEntry :=
  if w.present ≤ 1 ∧ w.cureRef ≤ 1 ∧ zoneInRange w.toZoneFigures then
    (tableOf? w.group).map fun g =>
      { toZoneFigures := w.toZoneFigures, present := w.present == 1, group := g, cureRef := w.cureRef == 1 }
  else none

/-- A zone entry as ENTRY-READ answers it. -/
def ZoneEntry.write (e : ZoneEntry) : ZoneWrite :=
  { toZoneFigures := e.toZoneFigures, present := if e.present then 1 else 0, group := e.group.val, cureRef := if e.cureRef then 1 else 0 }

/-- The platen of a zone: 0 the upper, 1 the lower. -/
def platenOf (i : Fin 16) : Fin 2 := ⟨i.val / 8, by omega⟩

/-- A zone write on a zone: the entry, the runtime afresh, the fault kept when present (R29, R66). -/
def Zone.rewrite (z : Zone) (e : ZoneEntry) : Zone :=
  { Zone.reset with entry := e, fault := if e.present then z.fault else .none }

/-- A zone write that is taken; it clears the lost flag of a platen it leaves with a present zone holding no fault (R29, R78). -/
def Station.rewriteZone (x : Station) (i : Fin 16) (e : ZoneEntry) : Station :=
  let y := { x with zones := x.zones.set i ((x.zones[i]).rewrite e) }
  if y.platenServed (platenOf i) then { y with lost := y.lost.set (platenOf i) false } else y

def State.writeZone (s : State) (station zone : Nat) (w : ZoneWrite) : Reply :=
  match stationOf? station, zoneOf? zone with
  | some st, some i =>
    if !(s.station st).state.writable then refuse s .state
    else
      match zoneEntryOf? w with
      | some e => taken (s.modStation st (·.rewriteZone i e)) []
      | none => refuse s .badContent
  | _, _ => refuse s .badIndex

def State.readZoneEntry (s : State) (station zone : Nat) : Reply :=
  match stationOf? station, zoneOf? zone with
  | some st, some i => taken s (putZone ((s.station st).zones[i]).entry.write)
  | _, _ => refuse s .badIndex

/-! ### Profiles (R32) -/

def setPointInRange (p : SetPoint) : Bool := p.temp ≤ 4000 && p.ff ≤ 2047

def stepInRange (p : CureStep) : Bool := p.temp ≤ 4000 && p.len ≤ 255 && p.threshold ≤ 255 && p.ff ≤ 2047

/-- The thresholds of a step list rise strictly from step to step. -/
def rising : List CureStep → Bool
  | a :: b :: rest => a.threshold < b.threshold && rising (b :: rest)
  | _ => true

def profileInRange (p : Profile) : Bool :=
  setPointInRange p.idle && setPointInRange p.park && setPointInRange p.hold && setPointInRange p.opening && p.defaultLen ≤ 255 && within 1 6 p.steps.length &&
  p.steps.all stepInRange && p.steps.head?.all (·.threshold == 0) && rising p.steps

def State.writeProfile (s : State) (profile : Nat) (w : Profile) : Reply :=
  match zoneOf? profile with
  | none => refuse s .badIndex
  | some n => if profileInRange w then taken { s with profilesShadow := s.profilesShadow.set n w } [] else refuse s .badContent

def State.readProfileCopy (s : State) (profile copy : Nat) : Reply :=
  match zoneOf? profile, copy with
  | some n, 0 => taken s (putProfile s.profilesShadow[n])
  | some n, 1 => taken s (putProfile s.profilesLive[n])
  | _, _ => refuse s .badIndex

/-! ### Recipes (R83, R98, R121, R122) -/

/-- The numbers of a recipe are in range and pass their checks. -/
def recipeInRange (w : RecipeFigures) : Bool :=
  withinS 100 250000 w.nominalMass && withinS 0 10000 w.lowerTol && withinS 0 10000 w.upperTol && 0 ≤ w.nominalMass - w.lowerTol &&
  within 1 8 w.minPieces && within 1 8 w.pieceLimit && w.minPieces ≤ w.pieceLimit && within 1000 60000 w.pieceWait &&
  w.baseTemp ≤ 4000 && within 1000 3600000 w.eBase && within 1000 3600000 w.eMin && within 1000 3600000 w.eMax &&
  w.eMin ≤ w.eBase && w.eBase ≤ w.eMax && withinS (-32768) 32767 w.massCoeff && w.wallMin ≤ 3600000 && within 1 3600000 w.wallMax &&
  w.wallMin < w.wallMax && w.excursionLimit ≤ 65535 && within 1000 600000 w.loadTimeout && w.openThreshold ≤ 65535 &&
  within 1000 600000 w.openTimeout && w.ejectStroke ≤ 65535 && w.releaseThreshold ≤ 65535 && w.initialForce ≤ 65535 &&
  w.forceStep ≤ 65535 && w.retryLimit ≤ 3 && within 100 60000 w.attemptTimeout && w.settleDwell ≤ 60000

/-- A group profile field: 0 to 15, or 255 for NONE (12.1). -/
def profileField? (n : Nat) : Option (Option (Fin 16)) := if n = 255 then some none else (zoneOf? n).map some

/-- The recipe a write makes over one of revision `rev`, when every field is in range and every check passes. -/
def recipeOf? (w : RecipeWrite) (rev : Half) : Option Recipe :=
  if w.present ≤ 1 ∧ recipeInRange w.toRecipeFigures then
    match tableOf? w.rateTable, zoneOf? w.profiles[0], profileField? w.profiles[1], profileField? w.profiles[2],
      profileField? w.profiles[3] with
    | some t, some p0, some p1, some p2, some p3 =>
      some { toRecipeFigures := w.toRecipeFigures, present := w.present == 1, revision := rev + 1,
             profiles := ⟨#[some p0, p1, p2, p3], rfl⟩, rateTable := t }
    | _, _, _, _, _ => none
  else none

def profileCode (p : Option (Fin 16)) : Nat := p.elim 255 (·.val)

/-- A recipe as ENTRY-READ answers it. -/
def Recipe.write (r : Recipe) : RecipeWrite :=
  { toRecipeFigures := r.toRecipeFigures, present := if r.present then 1 else 0, revision := r.revision.toNat,
    profiles := ⟨#[profileCode r.profiles[0], profileCode r.profiles[1], profileCode r.profiles[2], profileCode r.profiles[3]], rfl⟩,
    rateTable := r.rateTable.val }

/-- A recipe write that is taken: the bound READY stations look at their calling condition, in station order (R10, R122, log
entry 30). -/
def State.replaceRecipe (s : State) (n : Fin 16) (r : Recipe) : State :=
  (List.finRange 6).foldl (fun (t : State) (st : Fin 6) => if (t.station st).boundRecipe = n then t.lookCalling st else t)
    { s with recipes := s.recipes.set n r }

def State.writeRecipe (s : State) (recipe : Nat) (w : RecipeWrite) : Reply :=
  match zoneOf? recipe with
  | none => refuse s .badIndex
  | some n =>
    match recipeOf? w (s.recipes[n]).revision with
    | some r => taken (s.replaceRecipe n r) (put16 r.revision.toNat)
    | none => refuse s .badContent

def State.readRecipeEntry (s : State) (recipe : Nat) : Reply :=
  match zoneOf? recipe with
  | none => refuse s .badIndex
  | some n => taken s (putRecipe (s.recipes[n]).write)

/-! ### Rate tables (R84) -/

def State.writeRate (s : State) (table entry factor : Nat) : Reply :=
  match tableOf? table, entryOf? entry with
  | some t, some i =>
    if factor ≤ 4095 then taken { s with rates := s.rates.set t ((s.rates[t]).set i factor) } [] else refuse s .badContent
  | _, _ => refuse s .badIndex

def State.readRate (s : State) (table entry : Nat) : Reply :=
  match tableOf? table, entryOf? entry with
  | some t, some i => taken s (put16 (s.rates[t])[i])
  | _, _ => refuse s .badIndex

/-! ### Weigher settings (R97) -/

def weigherInRange (w : WeigherSettings) : Bool :=
  withinS (-8388608) 8388607 w.zero && within 1 65535 w.span && withinS 1 300000 w.capacity && withinS (-10000) 300000 w.presenceOn &&
  withinS (-10000) 300000 w.presenceOff && w.presenceOff < w.presenceOn && withinS 1 100 w.band && within 100 60000 w.settleTimeout &&
  withinS 1 10000 w.pieceThreshold && withinS 1 300000 w.minPiece && within 1 255 w.runOn && withinS 0 10000 w.zeroTrack &&
  within 5 100 w.sampleInterval && within 1000 60000 w.clearTimeout

def State.writeWeigher (s : State) (w : WeigherSettings) : Reply :=
  if s.weigher.state = .idle ∨ s.weigher.state = .fault then
    if weigherInRange w then taken (s.modWeigher fun x => { x with settings := w, window := [] }) [] else refuse s .badContent
  else refuse s .state

def State.readWeigher (s : State) : Reply := taken s (putWeigherSettings s.weigher.settings)

/-! ### History settings (R157) -/

/-- The history settings as an entry (R157). -/
def HistorySettings.write (x : HistorySettings) : HistoryWrite :=
  { policy := x.policy.code, backlog := x.backlog, lowWater := x.lowWater, autoSend := if x.autoSend then 1 else 0 }

def policyOf? : Nat → Option Policy
  | 0 => some .overwrite
  | 1 => some .hold
  | _ => none

/-- The settings a write makes, when every field is in range. -/
def historyOf? (w : HistoryWrite) : Option HistorySettings :=
  if within 1 255 w.backlog ∧ w.lowWater ≤ 16384 ∧ w.autoSend ≤ 1 then
    (policyOf? w.policy).map fun p => { policy := p, backlog := w.backlog, lowWater := w.lowWater, autoSend := w.autoSend == 1 }
  else none

def State.writeHistory (s : State) (w : HistoryWrite) : Reply :=
  match historyOf? w with
  | none => refuse s .badContent
  | some x =>
    if s.mode ≠ .config ∧ x.policy ≠ s.store.settings.policy then refuse s .state
    else taken ((s.modStore fun y => { y with settings := x }).testBacklog.testLow) []

def State.readHistorySettings (s : State) : Reply := taken s (putHistory s.store.settings.write)

end Sys2Proof.Machine
end

