-- ==== Sys2Proof/Machine/Status.lean ====
section
/-! DEFINITION. The bodies of the STATUS answers (R26, R43, R65, R81, R96, R120, R132, R148, R168, R180). The fields stand in the order
of their rules, one rule after the other; the layout choices are log entries 8 and 9. -/

namespace Sys2Proof.Machine

/-- A timer's state, and the milliseconds left when it runs (log entry 9). -/
def putTimer (t : Timer) (now : Time) : List Byte := put8 t.code ++ if t.isRunning then put32 (t.left now) else []

/-- A station number, or 255 for none (log entry 9). -/
def putStation (x : Option (Fin 6)) : List Byte := put8 (x.elim 255 (·.val))

/-- An ejector command: its code byte and a two-byte limit, 0 with RETRACT. DEDUCED (log entry 36): R148 names the command alone, and 12.1
and R190 carry one in this form in EJECT-COMMAND and EJECT-SAMPLE. -/
def putEject (c : EjectCmd) : List Byte := put8 c.code ++ put16 c.limit

/-- A gate with its station: a code byte and a station byte, 0 other than with PASS. DEDUCED (log entry 36): R190 gives the two bytes for a
GATE-COMMAND and 12.1 for a WEIGH-SAMPLE, and the weigher STATUS answer carries a gate in the same form. -/
def putGate (g : Gate) : List Byte := put8 g.code ++ put8 g.stationCode

/-! ### A station -/

/-- R26: the controller's items. -/
def controllerStatus (x : Station) : List Byte :=
  put8 x.state.code ++ put8 x.cause.code ++ putFlag x.runEnable ++ putFlag x.pressAuto ++ put8 x.state.permission.code ++
  put8 x.echoedPermission.code ++ put8 x.readyCount ++ put8 x.holdCount ++ putFlag x.holdTimer.isRunning ++ putTime x.cycleNumber ++
  put8 x.boundRecipe.val

/-- R26: the items of a context. -/
def contextStatus (c : Context) : List Byte :=
  put8 c.recipeNo.val ++ put16 c.snapshot.revision.toNat ++ putFlag c.mouldOccupied ++ putFlag c.aborted ++ put16 c.cure.progress

/-- R43: a group. DEDUCED (log entry 37): no S0, which the list of R43 leaves out though its last sentence says that an unseeded group
reports it as 0. -/
def groupStatus (g : Group) : List Byte :=
  put8 g.source.code ++ put8 (g.profile.elim 255 (·.val)) ++ put8 g.step ++ put16 g.target ++ put16 g.sg ++ put8 g.k ++ put8 g.len ++
  put16 g.ff

/-- R65: the round state. -/
def roundStatus (r : RoundState) (budget : Nat) : List Byte :=
  put16 r.count.toNat ++ putOpt 2 (fun n => put16 n.toNat) r.lastNode ++ put16 r.lastDt ++ putFlag r.budgetLimited ++
  put16 r.lastSigma ++ put16 r.lastSum ++ put16 budget

/-- R65: a zone's runtime. -/
def zoneStatus (z : Zone) : List Byte :=
  putFlag z.entry.present ++ put8 (zoneKindCode z.kind) ++ put8 z.lastStatus.code ++ putOpt 2 put16 z.lastT ++ put8 z.samples.length ++
  putOpt 2 put16 z.tavg ++ put16 z.sz ++ putS16 z.err ++ putS16 z.integral ++ put16 z.demand ++ put8 z.prevDemand.code ++
  put16 z.dutySent

/-- R81: a zone's supervisor state. -/
def supervisorStatus (z : Zone) : List Byte :=
  put8 z.window.code ++ put8 z.fault.code ++ put8 z.openCount ++ put8 z.rangeCount ++ put8 z.stuckCount ++ put8 z.heaterOpenCount ++
  put16 z.heaterOpenRef

/-- R81: the items of a context. -/
def excursionStatus (c : Context) : List Byte :=
  put16 c.excursions ++ putFlag c.suspect ++ putList (fun f : FaultEntry => put8 f.zone.val ++ put8 f.fault.code ++ put16 f.progress) c.faults

/-- R96: the cure fields, in its order. -/
def cureStatus (c : Cure) (now : Time) : List Byte :=
  putOpt 4 put32 c.target ++ put32 c.acc ++ put16 c.progress ++ c.steps.toList.flatMap put8 ++ putOpt 4 putTime c.start ++
  putOpt 4 putTime c.stop ++ putTimer c.wallMin now ++ putTimer c.wallMax now ++ putFlag c.targetMet ++ putFlag c.blind ++
  putFlag c.undercured ++ put16 c.lastTref ++ put16 c.lastRate ++ putFlag c.lastBlind

/-- R148: the items outside a context. The wanted command is never none, and its flag is 0 (log entry 9). -/
def demouldStatus (d : Demould) : List Byte :=
  putOpt 3 putEject (some d.wanted) ++ putOpt 3 putEject d.echoed ++ putOpt 2 put16 d.position ++ putOpt 2 put16 d.force

/-- R148: the items of a context. -/
def ejectionStatus (e : Ejection) (now : Time) : List Byte :=
  put8 e.sub.code ++ put8 e.number ++ put16 e.limit ++ put16 e.peak ++ put8 e.outcome.code ++ putTimer e.openTimer now ++
  putTimer e.attemptTimer now

/-- R148: the attempt list and the demould end, empty and absent without a context. An entry is the peak force and the outcome, as R134
lists them (DEDUCED, log entry 36). -/
def attemptStatus (c : Option Context) : List Byte :=
  putList (fun a : Attempt => put16 a.peak ++ put8 a.outcome.code) (c.elim [] (·.eject.attempts)) ++
  putOpt 4 putTime (c.bind (·.eject.demouldEnd))

/-- A station's place in the call queue (R132). -/
def queuePlace (q : List (Fin 6)) (st : Fin 6) : Option Nat := q.findIdx? (· = st)

/-- The STATUS answer of a station. -/
def State.stationStatus (s : State) (st : Fin 6) : List Byte :=
  let x := s.station st
  let zones := x.zones.toList
  controllerStatus x ++ x.ctx.elim [] contextStatus ++ x.groups.toList.flatMap groupStatus ++ roundStatus x.round x.settings.budget ++
  zones.flatMap zoneStatus ++ zones.flatMap supervisorStatus ++ x.lost.toList.flatMap putFlag ++ x.ctx.elim [] excursionStatus ++
  x.ctx.elim [] (fun c => cureStatus c.cure s.now) ++ putOpt 1 put8 (queuePlace s.arbiter.queue st) ++ demouldStatus x.demould ++
  x.ctx.elim [] (fun c => ejectionStatus c.eject s.now) ++ attemptStatus x.ctx

/-! ### The weigher and the store -/

/-- R120. -/
def State.weigherStatus (s : State) : List Byte :=
  let w := s.weigher
  put8 w.state.code ++ put8 w.cause.code ++ putFlag s.weigherPersists ++ putGate w.wantedGate ++ putGate w.lastGate ++
  putOpt 2 (fun n => put16 n.toNat) w.lastCounter ++ putOpt 1 (fun x => put8 (WeighStatus.code x)) (some w.lastStatus) ++
  putOpt 4 putS32 w.lastGross ++ putOpt 4 putS32 w.lastNet ++ putS32 w.tare ++ put8 w.presence.code ++ put8 w.window.length ++
  putFlag (stableValue w.settings.band w.window).isSome ++ (windowValue w.window).elim [] putS32 ++ putS32 w.vPrev ++
  putStation w.granted ++ putList putS32 w.pieces ++ putTimer w.pieceWait s.now ++ putTimer w.settle s.now ++ putTimer w.clear s.now ++
  put8 w.absentRun

/-- R168: the sender. -/
def senderStatus : Option Sending → List Byte
  | none => put8 0
  | some x => put8 1 ++ putTime x.seq ++ put8 x.origin.code ++ put8 x.index

/-- R168. -/
def Store.status (st : Store) : List Byte :=
  putTime st.oldest ++ putTime st.cursor ++ putTime st.autoPos ++ putTime st.next ++ put16 st.held ++ put16 st.free ++
  put8 st.reservations ++ put16 st.room ++ putHistory st.settings.write ++ putFlag st.overrun ++ senderStatus st.sender ++
  putFlag st.backlogArmed ++ putFlag st.storeLowArmed

/-! ### The device -/

/-- R132: the first condition of R126 that fails; 4 when none does, which a served request does not find. -/
def State.failingCondition (s : State) : Nat :=
  if s.mode ≠ .run then 0 else if s.arbiter.queue.isEmpty then 1 else if s.weigher.state ≠ .idle then 2
  else if s.store.settings.policy = .hold ∧ s.store.room < Config.reservationBytes then 3 else 4

/-- R180: whether an entry is SILENT and, when its timer runs, the milliseconds since it was started. -/
def silenceStatus (x : Silence) (now : Time) : List Byte :=
  match x with
  | .silent => putFlag true
  | .running since => putFlag false ++ put32 (elapsed now since)
  | .stopped => putFlag false

/-- The route entries with a silence timer, in table order. -/
def State.timedEntries (s : State) : List (Fin 32) := (List.finRange 32).filter fun i => hasSilence s.port.routes[i]

/-- The occupied slots of the slate. -/
def Port.occupied (p : Port) : List (Fin 19) := (List.finRange 19).filter fun i => (p.slate[i]).isSome

/-- A pending flag: kind, key and count. -/
def flagStatus (p : Port) (i : Fin 77) : List Byte :=
  put8 (i.val / 7 + 1) ++ put8 (if i.val % 7 = 6 then 255 else i.val % 7) ++ put8 ((p.notices[i]).elim 0 (·.count))

/-- The pending flags, in the emitter's order. -/
def Port.pendingFlags (p : Port) : List (Fin 77) := (List.finRange 77).filter fun i => (p.notices[i]).isSome

/-- R180. -/
def State.deviceStatus (s : State) : List Byte :=
  let p := s.port
  put8 s.mode.code ++ put8 (s.nodeAddress.elim 0 (·.toNat)) ++ put16 p.lineErrors ++ put8 p.forward.length ++ put8 p.report.length ++
  putList (fun i : Fin 19 => put8 i.val) p.occupied ++ put8 p.lastSlot.val ++ put8 p.lastRing.code ++ put8 p.seqCounter.toNat ++
  putList (fun i : Fin 32 => silenceStatus p.silence[i] s.now) s.timedEntries ++
  putList (fun x : Fin 6 => put8 x.val) s.arbiter.queue ++ putOpt 1 (fun x : Fin 6 => put8 x.val) s.arbiter.granted ++
  put8 s.failingCondition ++ p.mask.toList.flatMap putFlag ++ putList (flagStatus p) p.pendingFlags

end Sys2Proof.Machine
end

