-- ==== Sys2Proof/Machine/Requests.lean ====
section
/-! DEFINITION. The management handler (R178, R179) and the requests that are no table entry: device (R187 to R189), heat engine (R33),
stations (R20 to R24), zones (R79), weigher (R117, R119), store (R158 to R165), notices (R183), STATUS (R180). -/

namespace Sys2Proof.Machine

/-! ### Device (R187, R189) -/

/-- The identification of PING (R189), the codes and the revision in two bytes each (R190, log entry 8). -/
def State.pingBody (s : State) : List Byte :=
  put16 Config.vendorCode ++ put16 Config.partCode ++ put16 Config.siliconRevision ++ put8 s.mode.code ++
  put8 (s.nodeAddress.elim 0 (·.toNat)) ++ putTime s.now

def State.servePing (s : State) : Reply := taken s s.pingBody

/-- Every station is OFFLINE. -/
def State.allOffline (s : State) : Bool := (List.finRange 6).all fun st => (s.station st).state == .offline

/-- MODE-SET RUN: entry to RUN is one of the arbiter's test events (R187). -/
def State.enterRun (s : State) : State := if s.mode = .run then s else { s with mode := .run }.consider

/-- MODE-SET (R187); the answer of DONE and of STATE carries the mode in force after the request (log entry 29). -/
def State.serveModeSet (s : State) (mode : Nat) : Reply :=
  match mode with
  | 1 =>
    if s.mode = .run ∧ !s.allOffline then { state := s, code := .state, body := put8 s.mode.code }
    else taken { s with mode := .config } (put8 Mode.config.code)
  | 2 => taken s.enterRun (put8 Mode.run.code)
  | _ => refuse s .badContent

/-! ### Heat engine (R33) -/

/-- PROFILES-APPLY: the copy, then the re-reading of every station that is not OFFLINE. -/
def State.applyProfiles (s : State) : State :=
  (List.finRange 6).foldl (fun (t : State) (st : Fin 6) => t.rereadGroups st) { s with profilesLive := s.profilesShadow }

def State.serveProfilesApply (s : State) : Reply := taken s.applyProfiles []

/-! ### Stations (R20) -/

/-- What a station command comes to: DONE with the next state, or the refusal. -/
def State.settle (s : State) : Except Result State → Reply
  | .ok t => taken t []
  | .error c => refuse s c

/-- A station command: a station number out of range is BAD_INDEX (R20). -/
def State.onStation (s : State) (station : Nat) (f : Fin 6 → Except Result State) : Reply :=
  match stationOf? station with
  | none => refuse s .badIndex
  | some st => s.settle (f st)

def State.serveStart (s : State) (station : Nat) : Reply := s.onStation station s.startStation

def State.serveStop (s : State) (station : Nat) : Reply := s.onStation station fun st => .ok (s.stopStation st)

def State.serveAbort (s : State) (station : Nat) : Reply := s.onStation station s.abortStation

def State.servePark (s : State) (station : Nat) : Reply := s.onStation station s.parkStation

def State.serveUnpark (s : State) (station : Nat) : Reply := s.onStation station s.unparkStation

def State.serveOnline (s : State) (station : Nat) : Reply := s.onStation station s.onlineStation

def State.serveOffline (s : State) (station : Nat) : Reply := s.onStation station s.offlineStation

def State.serveBind (s : State) (station recipe : Nat) : Reply :=
  s.onStation station fun st =>
    match zoneOf? recipe with
    | none => .error .badIndex
    | some n => s.bindStation st n

def State.serveClear (s : State) (station : Nat) : Reply := s.onStation station s.clearStation

/-- A command the part does not know: BAD_INDEX comes before UNKNOWN (R20, log entry 10). -/
def State.serveStationUnknown (s : State) (station : Nat) : Reply := s.onStation station fun _ => .error .unknown

/-! ### Zones (R79) -/

/-- A zone cleared (R79). -/
def Station.clearZone (x : Station) (i : Fin 16) : Station :=
  let z := x.zones[i]
  let y := { x with zones := x.zones.set i { Zone.reset with entry := z.entry } }
  if z.entry.present then { y with lost := y.lost.set (platenOf i) false } else y

def State.serveZoneClear (s : State) (station zone : Nat) : Reply :=
  match stationOf? station, zoneOf? zone with
  | some st, some i =>
    if (s.station st).state = .curing then refuse s .state else taken (s.modStation st (·.clearZone i)) []
  | _, _ => refuse s .badIndex

/-! ### Weigher (R117, R119) -/

/-- The weigher enters TARING, and the request buffer holds the TARE until the taring ends. -/
def State.startTaring (s : State) (src seq : Byte) : State :=
  (s.modWeigher fun w => { w with state := .taring, window := [], settle := .running s.now w.settings.settleTimeout }).modPort fun p =>
    { p with buffer := .taring src seq }

/-- RESET taken (R119). -/
def State.resetWeigher (s : State) : State := (s.modWeigher fun w => { w with cause := .none }).enterClearing .divert

def State.serveReset (s : State) : Reply :=
  if s.weigher.state ≠ .fault ∨ s.weigherPersists then refuse s .state else taken s.resetWeigher []

/-! ### STATUS (R180) -/

def State.serveStatusDevice (s : State) : Reply := taken s s.deviceStatus

def State.serveStatusStation (s : State) (station : Nat) : Reply :=
  match stationOf? station with
  | none => refuse s .badIndex
  | some st => taken s (s.stationStatus st)

def State.serveStatusWeigher (s : State) : Reply := taken s s.weigherStatus

def State.serveStatusStore (s : State) : Reply := taken s s.store.status

/-! ### Store (R158 to R165) -/

/-- A history answer: its own fields, the overrun flag, which it clears, and oldest, cursor and next after the request (R158, log
entry 23). -/
def State.historyReply (s : State) (code : Result) (fields : List Byte) : Reply :=
  { state := s.modStore fun x => { x with overrun := false }, code := code,
    body := fields ++ putFlag s.store.overrun ++ putTime s.store.oldest ++ putTime s.store.cursor ++ putTime s.store.next }

/-- The sender enters SENDING for the record at the cursor; its first segment waits for the answer (R159). -/
def State.startRead (s : State) (src : Byte) : State :=
  s.modStore fun x =>
    { x with sender := some { seq := x.cursor, origin := .read, dest := src, index := 0, answered := false, cut := false } }

def State.serveHistoryRead (s : State) (src : Byte) : Reply :=
  if s.store.busy then s.historyReply .state []
  else if s.store.cursor = s.store.next then s.historyReply .endOfRecords []
  else
    let r := (s.store.record? s.store.cursor).getD []
    (s.startRead src).historyReply .done (putTime s.store.cursor ++ put8 (recordKind r) ++ put8 r.length)

/-- What HISTORY-SPACE stops on (R163). -/
inductive StopReason where
  | count | mark | endOfStore | oldest
deriving DecidableEq, Repr, Inhabited

def StopReason.code : StopReason → Nat
  | .count => 0 | .mark => 1 | .endOfStore => 2 | .oldest => 3

/-- The record with this number is a lot mark. -/
def Store.isMark (st : Store) (p : Time) : Bool := (st.record? p).any fun r => recordKind r == kLotMark

/-- FORWARD spacing with `n` moves to go: the cursor, the moves to go when it stops, the reason. -/
def Store.spaceForward (st : Store) : Nat → Time → Time × Nat × StopReason
  | 0, p => (p, 0, .count)
  | n + 1, p =>
    if p = st.next then (p, n + 1, .endOfStore)
    else if st.isMark p then (p + 1, n, .mark)
    else st.spaceForward n (p + 1)

/-- REVERSE spacing with `n` moves to go. -/
def Store.spaceReverse (st : Store) : Nat → Time → Time × Nat × StopReason
  | 0, p => (p, 0, .count)
  | n + 1, p =>
    if p = st.oldest then (p, n + 1, .oldest)
    else if st.isMark (p - 1) then (p - 1, n, .mark)
    else st.spaceReverse n (p - 1)

/-- Moves the cursor of a store whose sender is not busy, and the auto-send position with it (R158); BACKLOG is tested (R167). -/
def State.moveCursor (s : State) (p : Time) : State := (s.modStore fun x => { x with cursor := p, autoPos := p }).testBacklog

/-- HISTORY-SPACE taken: records moved, residual, stop reason (R163). -/
def State.spaceTo (s : State) (count : Nat) (x : Time × Nat × StopReason) : Reply :=
  (s.moveCursor x.1).historyReply .done (put16 (count - x.2.1) ++ put16 x.2.1 ++ put8 x.2.2.code)

def State.serveHistorySpace (s : State) (direction count : Nat) : Reply :=
  if s.store.busy then s.historyReply .state []
  else if count = 0 then s.historyReply .badContent []
  else
    match direction with
    | 0 => s.spaceTo count (s.store.spaceForward count s.store.cursor)
    | 1 => s.spaceTo count (s.store.spaceReverse count s.store.cursor)
    | _ => s.historyReply .badContent []

def State.serveHistoryRewind (s : State) : Reply :=
  if s.store.busy then s.historyReply .state []
  else (s.moveCursor s.store.oldest).historyReply .done (put16 (s.store.dist s.store.cursor))

/-- The store without the records below the cursor (R164). -/
def Store.release (st : Store) : Store :=
  let n := st.dist st.cursor
  { st with ring := st.ring.drop n, oldest := st.cursor, held := st.held - ((st.ring.take n).map List.length).sum }

/-- HISTORY-RELEASE taken; when bytes were freed the arbiter tests (R126, R164). -/
def State.releaseRecords (s : State) : State :=
  let t := (s.modStore Store.release).testLow
  if t.store.held < s.store.held then t.consider else t

def State.serveHistoryRelease (s : State) : Reply :=
  if s.store.busy then s.historyReply .state []
  else
    s.releaseRecords.historyReply .done
      (put16 (s.store.dist s.store.cursor) ++ put16 (s.store.held - s.store.release.held))

/-- The append of a LOT_MARK (R153, R154, R165). -/
def State.appendLotMark (s : State) (src : Byte) (lot : Nat) : State :=
  let t := s.makeRoom 16
  t.pushAndReport s.store.room (lotMarkRecord src t.store lot s.now)

def State.serveLotMark (s : State) (src : Byte) (lot : Nat) : Reply :=
  if s.store.settings.policy = .hold ∧ s.store.room < 16 then s.historyReply .full []
  else (s.appendLotMark src lot).historyReply .done (putTime s.store.next)

def State.serveAuto (s : State) (on : Nat) : Reply :=
  if on ≤ 1 then
    (s.modStore fun x => { x with settings := { x.settings with autoSend := on == 1 } }).historyReply .done []
  else s.historyReply .badContent []

/-! ### Notices (R183) -/

def State.serveNoticeMask (s : State) (m : Vector Nat 11) : Reply :=
  if m.toList.all (· ≤ 1) then
    taken (s.modPort fun p => p.setMask (Vector.ofFn fun i : Fin 11 => m[i] == 1)) (m.toList.flatMap put8)
  else refuse s .badContent

/-! ### The handler (R178, R179) -/

/-- The request kind byte of a request. -/
def requestKind (r : Request) : Byte := (encodeRequest r).headD 0

/-- Serves a request: the owner's rule, then the answer into the request buffer. A TARE that is taken has no answer yet, and the answer
of a RESTART makes the restart (R178). -/
def State.serve (s : State) (h : ReqHeader) (r : Request) : State :=
  let reply (x : Reply) : State := x.state.answer h.src h.seq (requestKind r) x.code x.body false
  match r with
  | .ping => reply s.servePing
  | .modeSet m => reply (s.serveModeSet m)
  | .restart => s.answer h.src h.seq (requestKind r) .done [] true
  | .entryWriteRoute n w => reply (s.writeRoute n w)
  | .entryReadRoute n => reply (s.readRouteEntry n)
  | .entryWriteStation n w _ => reply (s.writeStation n w)
  | .entryReadStation n => reply (s.readStation n)
  | .entryWriteZone n z w => reply (s.writeZone n z w)
  | .entryReadZone n z => reply (s.readZoneEntry n z)
  | .entryWriteProfile n w => reply (s.writeProfile n w)
  | .entryReadProfile n c => reply (s.readProfileCopy n c)
  | .entryWriteRecipe n w => reply (s.writeRecipe n w)
  | .entryReadRecipe n => reply (s.readRecipeEntry n)
  | .entryWriteRate t e f => reply (s.writeRate t e f)
  | .entryReadRate t e => reply (s.readRate t e)
  | .entryWriteWeigher w => reply (s.writeWeigher w)
  | .entryReadWeigher => reply s.readWeigher
  | .entryWriteHistory w => reply (s.writeHistory w)
  | .entryReadHistory => reply s.readHistorySettings
  | .profilesApply => reply s.serveProfilesApply
  | .start n => reply (s.serveStart n)
  | .stop n => reply (s.serveStop n)
  | .abort n => reply (s.serveAbort n)
  | .park n => reply (s.servePark n)
  | .unpark n => reply (s.serveUnpark n)
  | .online n => reply (s.serveOnline n)
  | .offline n => reply (s.serveOffline n)
  | .bind n b => reply (s.serveBind n b)
  | .clear n => reply (s.serveClear n)
  | .stationCommandUnknown _ n => reply (s.serveStationUnknown n)
  | .zoneClear n z => reply (s.serveZoneClear n z)
  | .tare => if s.weigher.state = .idle then s.startTaring h.src h.seq else reply (refuse s .state)
  | .reset => reply s.serveReset
  | .weigherCommandUnknown _ => reply (refuse s .unknown)
  | .statusDevice => reply s.serveStatusDevice
  | .statusStation n => reply (s.serveStatusStation n)
  | .statusWeigher => reply s.serveStatusWeigher
  | .statusStore => reply s.serveStatusStore
  | .historyRead => reply (s.serveHistoryRead h.src)
  | .historySpace d n => reply (s.serveHistorySpace d n)
  | .historyRewind => reply s.serveHistoryRewind
  | .historyRelease => reply s.serveHistoryRelease
  | .lotMark l => reply (s.serveLotMark h.src l)
  | .auto o => reply (s.serveAuto o)
  | .noticeMask m => reply (s.serveNoticeMask m)
  | .unknown _ _ => reply (refuse s .unknown)
  | .malformed _ => reply (refuse s .badContent)

/-- The request buffer is empty. -/
def Buffer.isEmpty : Buffer → Bool
  | .empty => true
  | _ => false

/-- A present MASTER entry names another node than `src` (R178). -/
def State.foreignMaster (s : State) (src : Byte) : Bool := (s.nodeOf .master noStation).any (· != src)

/-- A MGMT-REQUEST addressed to the part (R178). -/
def State.takeRequest (s : State) (h : ReqHeader) (r : Request) : State :=
  if s.port.buffer.isEmpty then
    if s.foreignMaster h.src then s.answer h.src h.seq (requestKind r) .notMaster [] false else s.serve h r
  else s

end Sys2Proof.Machine
end

