-- ==== Sys2Proof/Machine/Ring.lean ====
section
/-! DEFINITION. Taking frames in: the judgement of R170, step by step, and the hand-over of samples (R174, R191). -/

namespace Sys2Proof.Machine

/-- Step 1: a wrong check word, a length above 120, or a length that is not that of the payload. -/
def isBadFrame (f : Frame) : Bool :=
  f.check != checkWord f || Config.maxPayload < f.length.toNat || f.length.toNat != f.payload.length

/-- The command kinds. -/
def isCommandKind (k : Byte) : Bool := k == kDuty || k == kPermit || k == kEjectCommand || k == kGateCommand

/-- A present owned route entry (R172). -/
def ownedEntry (e : RouteEntry) : Bool := e.present && isOwned e.role

/-- Step 4: the key of FOREIGN_COMMAND when a destination is that of an owned node, or 255 while an owned entry is present. -/
def State.foreignKey? (s : State) (dest : Byte) : Option (Option (Fin 6)) :=
  if dest = 255 then if (List.finRange 32).any (fun i => ownedEntry s.port.routes[i]) then some none else none
  else
    ((List.finRange 32).find? fun i => ownedEntry s.port.routes[i] && (s.port.routes[i]).address == dest.toNat).map fun i =>
      (s.port.routes[i]).key

/-- The role whose nodes send a sample kind. -/
def sampleRole? (k : Byte) : Option Role :=
  if k = kHeatSample then some .heat else if k = kPressSample then some .press else if k = kEjectSample then some .ejector
  else if k = kWeighSample then some .weigher else none

/-- Step 5: the entry a sample belongs to. -/
def State.sampleEntry? (s : State) (f : Frame) : Option (Role × Fin 32) :=
  (sampleRole? f.kind).bind fun r => (s.findSource r f.src).map fun i => (r, i)

/-- Hands a sample to the block of its entry's station, once its silence has been treated. -/
def State.handOver {α : Type} (s : State) (i : Fin 32) (m : Option α) (work : State → Fin 6 → α → State) : State :=
  match m with
  | none => s.countLineError
  | some m =>
    let t := s.hearNode i
    match stationOf? (s.port.routes[i]).station with
    | some st => work t st m
    | none => t

/-- Step 5: a sample of an entry, judged by length and coded fields, then its silence, then its block (R170, R174, R191). -/
def State.takeSample (s : State) (r : Role) (i : Fin 32) (payload : List Byte) : State :=
  match r with
  | .heat => s.handOver i (parseHeat payload) State.heatWork
  | .press => s.handOver i (parsePress payload) State.pressWork
  | .ejector => s.handOver i (parseEject payload) State.ejectWork
  | .weigher =>
    match parseWeigh payload with
    | none => s.countLineError
    | some m => (s.hearNode i).weighWork m
  | .heater | .master => s

/-- Removed when addressed to the part, forwarded otherwise (steps 5, 7, 8). -/
def State.passOn (s : State) (own : Byte) (f : Frame) : State := if f.dest = own then s else s.forward f

/-- The header of a frame, as the management handler reads it. -/
def reqHeaderOf (f : Frame) : ReqHeader := { dest := f.dest, src := f.src, hops := f.hops, seq := f.seq }

/-- Steps 4 to 8, on a frame that is neither bad, nor the part's own, nor spent. -/
def State.judgeFrame (s : State) (own : Byte) (f : Frame) : State :=
  match if isCommandKind f.kind then s.foreignKey? f.dest else none with
  | some key => s.raise .foreignCommand key [f.src, f.dest, f.kind]
  | none =>
    match s.sampleEntry? f with
    | some (r, i) => (s.takeSample r i f.payload).passOn own f
    | none =>
      if f.kind = kRequest ∧ f.dest = own then s.takeRequest (reqHeaderOf f) (parseRequest f.payload) else s.passOn own f

/-- The judgement of a frame on its arrival (R170, R186). -/
def State.ringIn (s : State) (f : Frame) : State :=
  if isBadFrame f then s.countLineError
  else
    match s.ownAddress? with
    | none => if f.hops = 0 then s else s.forward f
    | some own => if f.src = own ∨ f.hops = 0 then s else s.judgeFrame own f

/-- The frame that carries a request (12.1). -/
def requestFrame (h : ReqHeader) (r : Request) : Frame :=
  let g : Frame :=
    { dest := h.dest, src := h.src, kind := kRequest, hops := h.hops, seq := h.seq,
      length := BitVec.ofNat 8 (encodeRequest r).length, payload := encodeRequest r, check := 0 }
  { g with check := checkWord g }

/-- A MGMT-REQUEST on ring-in, by its header and its request: the judgement of R170 on `requestFrame h r` (log entry 7). -/
def State.ringRequest (s : State) (h : ReqHeader) (r : Request) : State :=
  match s.ownAddress? with
  | none => if h.hops = 0 then s else s.forward (requestFrame h r)
  | some own =>
    if h.src = own ∨ h.hops = 0 then s
    else if h.dest = own then s.takeRequest h r
    else s.forward (requestFrame h r)

end Sys2Proof.Machine
end

