-- ==== Sys2Proof/Machine/Restart.lean ====
section
/-! DEFINITION. RESTART as one event (R166, R188). -/

namespace Sys2Proof.Machine

/-! ### Step 1: the store (R166) -/

/-- The stations with a cycle context: station, state and cycle number, in station order. -/
def State.markEntries (s : State) : List (Fin 6 × StationState × Time) :=
  (List.finRange 6).filterMap fun st => ((s.station st).ctx).map fun c => (st, (s.station st).state, c.cycle)

/-- Steps 1 and 2 of R166: the send is abandoned, the cursor moves back to the auto-send position, every reservation is released. -/
def Store.abandon (st : Store) : Store := { st with cursor := st.autoPos, sender := none, reservations := 0 }

/-- The RESTART_MARK, when a context exists; the append passes nothing to auto-send. The reservations are released before the mark, as
R166, R155 and R188 say, where R128 says after it (DEDUCED, log entry 35); the store is the same in the end. -/
def State.appendRestartMark (s : State) : State :=
  let entries := s.markEntries
  if entries.isEmpty then s.modStore Store.abandon
  else
    let bytes := restartMarkRecord s s.store.reservations entries
    ((s.modStore Store.abandon).makeRoom bytes.length).pushRecord bytes false

/-- The armed flags from the counts as they stand (R166, step 4). -/
def Store.rearm (st : Store) : Store :=
  { st with backlogArmed := decide (st.unread < st.settings.backlog), storeLowArmed := decide (st.settings.lowWater ≤ st.room) }

/-! ### Steps 2 to 4: the runtime -/

/-- A zone after RESTART: its entry, and the starting values (R50, R66). -/
def Zone.restarted (z : Zone) : Zone := { Zone.reset with entry := z.entry }

/-- A station after RESTART: settings, bound recipe, cycle number and zone entries are kept (R1, R2). -/
def Station.restarted (x : Station) : Station :=
  { Station.reset with
    settings := x.settings, boundRecipe := x.boundRecipe, cycleNumber := x.cycleNumber,
    zones := Vector.ofFn fun i : Fin 16 => (x.zones[i]).restarted }

/-- The line port after RESTART: line errors, routes and mask are kept; every silence timer runs from time 0 (R169, R174, R181). -/
def Port.restarted (p : Port) : Port :=
  { Port.reset with
    lineErrors := p.lineErrors, routes := p.routes, mask := p.mask,
    silence := Vector.ofFn fun i : Fin 32 => silenceOf p.routes[i] 0 }

/-- The weigher after RESTART: settings and tare are kept (R97, R99). -/
def Weigher.restarted (w : Weigher) : Weigher := { Weigher.reset with settings := w.settings, tare := w.tare }

/-- Steps 2 to 4 of R188: runtime, stations, mode and time base. -/
def State.clearRuntime (s : State) : State :=
  { s with
    mode := .config, now := 0, port := s.port.restarted,
    stations := Vector.ofFn fun st : Fin 6 => (s.station st).restarted,
    weigher := s.weigher.restarted, arbiter := { queue := [], granted := none }, store := s.store.rearm }

/-! ### Step 5: what reaches the ring and the line master -/

/-- STATION_STATE, PERMIT NONE and EJECT-COMMAND RETRACT of a station, by what it was before (R25, R26, R146). -/
def State.announceRestart (before : Station) (s : State) (st : Fin 6) : State :=
  let a := if before.state = .offline then s else s.raiseStationState st
  let b := if before.state.permission = .none then a else a.placePermit st
  if before.demould.wanted = .retract then b else b.placeEject st

/-- The five steps of R188. -/
def State.restart (s : State) : State :=
  let t := s.appendRestartMark.clearRuntime
  let u := (List.finRange 6).foldl (fun (u : State) (st : Fin 6) => u.announceRestart (s.station st) st) t
  if s.weigher.wantedGate = .neutral then u else u.placeGate

/-! ### The moment of the RESTART (R178, R188) -/

/-- The frame in transmission is the DONE answer of the RESTART that the request buffer holds. -/
def State.restartDue (s : State) : Bool :=
  s.port.buffer == .restarting &&
    s.port.sending.any fun f =>
      s.nodeAddress == some f.src && f.kind == kAnswer && f.payload.getD 0 0 == 3 && f.payload.getD 1 0 == 0

/-- The transmission of a frame ends: the port is free, and the RESTART whose answer it was takes effect (R175, R188). -/
def State.endTransmission (s : State) : State :=
  if s.restartDue then s.restart else s.modPort fun p => { p with sending := none }

end Sys2Proof.Machine
end

