-- ==== Sys2Proof/Machine/Arrivals.lean ====
section
/-! DEFINITION. The meanings of the commands that reach the part from outside as a pin or a frame: POWER_ON_RESET (R184) and the frames
of ring-in (R170). -/

namespace Sys2Proof.Machine

/-- What every command ends with: a free port that has a frame begins to send it (R175, log entry 6). -/
def finish (s : State) : Host.Outcome State Fault Refusal := .next s.beginSend

/-- POWER_ON_RESET (R184): every piece of state takes its power-on value. The commands that wait are kept (log entry 21). -/
def execPowerOnReset (straps : BitVec 6) (s : State) : Host.Outcome State Fault Refusal :=
  finish { State.powerOn straps with pending := s.pending }

/-- RING_IN_FRAME (R170). -/
def execRingInFrame (f : Frame) (s : State) : Host.Outcome State Fault Refusal := finish (s.ringIn f)

/-- HEAT_SAMPLE (R45, R170). -/
def execHeatSample (f : SampleFrame) (s : State) : Host.Outcome State Fault Refusal := finish (s.ringIn (f.frame kHeatSample))

/-- PRESS_SAMPLE (R1, R170). -/
def execPressSample (f : SampleFrame) (s : State) : Host.Outcome State Fault Refusal := finish (s.ringIn (f.frame kPressSample))

/-- EJECT_SAMPLE (R133, R170). -/
def execEjectSample (f : SampleFrame) (s : State) : Host.Outcome State Fault Refusal := finish (s.ringIn (f.frame kEjectSample))

/-- WEIGH_SAMPLE (R100, R170). -/
def execWeighSample (f : SampleFrame) (s : State) : Host.Outcome State Fault Refusal := finish (s.ringIn (f.frame kWeighSample))

end Sys2Proof.Machine
end

