-- ==== Sys2Proof/Machine/Expiries.lean ====
section
/-! DEFINITION. The meanings of the timer expiries. An expiry happens when its timer has run its length, and changes nothing before
that (00 Conventions, R185, log entry 3); its time is the moment the timer reached its length. -/

namespace Sys2Proof.Machine

/-! ### Which timers are due -/

/-- The hold timer of a station in HOLD is due. -/
def State.holdDue (s : State) (st : Fin 6) : Bool := (s.station st).state == .hold && (s.station st).holdTimer.due s.now

/-- A timer of the station's context, in a state that runs it. -/
def State.cycleTimer (s : State) (st : Fin 6) (x : StationState) (timer : Context → Timer) : Timer :=
  if (s.station st).state = x then (s.ctx? st).elim .stopped timer else .stopped

def State.loadTimer (s : State) (st : Fin 6) : Timer := s.cycleTimer st .loading (·.loadTimer)

def State.wallMinTimer (s : State) (st : Fin 6) : Timer := s.cycleTimer st .curing (·.cure.wallMin)

def State.wallMaxTimer (s : State) (st : Fin 6) : Timer := s.cycleTimer st .curing (·.cure.wallMax)

def State.openTimer (s : State) (st : Fin 6) : Timer := s.cycleTimer st .opening (·.eject.openTimer)

def State.attemptTimer (s : State) (st : Fin 6) : Timer := s.cycleTimer st .ejecting (·.eject.attemptTimer)

/-- Runs `act` with the time of the expiry when the timer is due. -/
def State.onDue (s : State) (t : Timer) (act : State → Time → State) : State := if t.due s.now then act s (t.expiry s.now) else s

/-- Runs `act` on the station's context. -/
def State.withCtx (s : State) (st : Fin 6) (act : Context → State) : State := (s.ctx? st).elim s act

/-! ### The meanings -/

/-- SILENCE_EXPIRY (R174). -/
def execSilenceExpiry (entry : Fin 32) (s : State) : Host.Outcome State Fault Refusal :=
  finish ((s.silenceDue? entry).elim s (s.becomeSilent entry))

/-- HOLD_EXPIRY (R17). -/
def execHoldExpiry (station : Fin 6) (s : State) : Host.Outcome State Fault Refusal :=
  finish (if s.holdDue station then s.holdExpired station else s)

/-- LOAD_TIMEOUT (R12). -/
def execLoadTimeout (station : Fin 6) (s : State) : Host.Outcome State Fault Refusal :=
  finish (s.onDue (s.loadTimer station) fun t _ => t.takeCause station .loadTimeout)

/-- WALL_MINIMUM_EXPIRY (R91). -/
def execWallMinimumExpiry (station : Fin 6) (s : State) : Host.Outcome State Fault Refusal :=
  finish (s.onDue (s.wallMinTimer station) fun t at_ => t.withCtx station fun c => t.wallMinExpired station c at_)

/-- WALL_MAXIMUM_EXPIRY (R92). -/
def execWallMaximumExpiry (station : Fin 6) (s : State) : Host.Outcome State Fault Refusal :=
  finish (s.onDue (s.wallMaxTimer station) fun t at_ => t.wallMaxExpired station at_)

/-- OPEN_TIMEOUT (R137). -/
def execOpenTimeout (station : Fin 6) (s : State) : Host.Outcome State Fault Refusal :=
  finish (s.onDue (s.openTimer station) fun t at_ => t.openExpired station at_)

/-- ATTEMPT_TIMER_EXPIRY (R141, R144, R145). -/
def execAttemptTimerExpiry (station : Fin 6) (s : State) : Host.Outcome State Fault Refusal :=
  finish (s.onDue (s.attemptTimer station) fun t at_ => t.withCtx station fun c => t.attemptExpired station c at_)

/-- PIECE_WAIT_EXPIRY (R110). -/
def execPieceWaitExpiry (s : State) : Host.Outcome State Fault Refusal :=
  finish (s.onDue s.weigher.pieceWait fun t at_ => t.pieceWaitExpired at_)

/-- SETTLE_TIMER_EXPIRY (R108, R117). -/
def execSettleTimerExpiry (s : State) : Host.Outcome State Fault Refusal :=
  finish (s.onDue s.weigher.settle fun t at_ => t.settleExpired at_)

/-- CLEAR_TIMER_EXPIRY (R116). -/
def execClearTimerExpiry (s : State) : Host.Outcome State Fault Refusal :=
  finish (s.onDue s.weigher.clear fun t at_ => t.clearExpired at_)

end Sys2Proof.Machine
end

