-- ==== Sys2Proof/Machine/PortSteps.lean ====
section
/-! DEFINITION. The meanings of the line port's own steps: the end of a transmission (R175, R188), and the frames the three claimants of
the report queue place when they are admitted (R177). A claimant that is not admitted places nothing (log entry 4). -/

namespace Sys2Proof.Machine

/-- TRANSMISSION_END (R175). -/
def execTransmissionEnd (s : State) : Host.Outcome State Fault Refusal := finish s.endTransmission

/-- RESTART_TAKE_EFFECT (R188): at the end of the transmission of the RESTART's answer, and at no other time (log entry 5). -/
def execRestartTakeEffect (s : State) : Host.Outcome State Fault Refusal := finish (if s.restartDue then s.restart else s)

/-- NOTICE_EMIT (R182). -/
def execNoticeEmit (s : State) : Host.Outcome State Fault Refusal :=
  finish (if s.admitted = some .emitter then s.placeNotice else s)

/-- SEGMENT_PLACE (R160, R161). -/
def execSegmentPlace (s : State) : Host.Outcome State Fault Refusal :=
  finish (if s.admitted = some .sender then s.placeSegment else s)

/-- AUTO_SEND_START (R162). -/
def execAutoSendStart (s : State) : Host.Outcome State Fault Refusal :=
  finish (if s.store.autoReady then s.startAutoSend else s)

/-- ANSWER_PART_PLACE (R192). -/
def execAnswerPartPlace (s : State) : Host.Outcome State Fault Refusal :=
  finish (if s.admitted = some .handler then s.placeAnswer else s)

end Sys2Proof.Machine
end

