-- ==== Sys2Proof/Machine/Management.lean ====
section
/-! DEFINITION. The meanings of the management requests: each is a MGMT-REQUEST on ring-in, judged by its header (R170) and, when it is
addressed to the part, taken by the management handler (R178), which serves it by its owner's rule (R179). -/

namespace Sys2Proof.Machine

/-- PING (R189). -/
def execPing (h : ReqHeader) (s : State) : Host.Outcome State Fault Refusal :=
  finish (s.ringRequest h .ping)

/-- MODE_SET (R187). -/
def execModeSet (h : ReqHeader) (mode : Nat) (s : State) : Host.Outcome State Fault Refusal :=
  finish (s.ringRequest h (.modeSet mode))

/-- RESTART (R188). -/
def execRestart (h : ReqHeader) (s : State) : Host.Outcome State Fault Refusal :=
  finish (s.ringRequest h .restart)

/-- ENTRY_WRITE_ROUTE (R172). -/
def execEntryWriteRoute (h : ReqHeader) (entry : Nat) (w : RouteWrite) (s : State) : Host.Outcome State Fault Refusal :=
  finish (s.ringRequest h (.entryWriteRoute entry w))

/-- ENTRY_READ_ROUTE (R172). -/
def execEntryReadRoute (h : ReqHeader) (entry : Nat) (s : State) : Host.Outcome State Fault Refusal :=
  finish (s.ringRequest h (.entryReadRoute entry))

/-- ENTRY_WRITE_STATION (R2). -/
def execEntryWriteStation (h : ReqHeader) (station : Nat) (w : StationSettings) (boundRecipe : Nat) (s : State) : Host.Outcome State Fault Refusal :=
  finish (s.ringRequest h (.entryWriteStation station w boundRecipe))

/-- ENTRY_READ_STATION (R2). -/
def execEntryReadStation (h : ReqHeader) (station : Nat) (s : State) : Host.Outcome State Fault Refusal :=
  finish (s.ringRequest h (.entryReadStation station))

/-- ENTRY_WRITE_ZONE (R28). -/
def execEntryWriteZone (h : ReqHeader) (station zone : Nat) (w : ZoneWrite) (s : State) : Host.Outcome State Fault Refusal :=
  finish (s.ringRequest h (.entryWriteZone station zone w))

/-- ENTRY_READ_ZONE (R28). -/
def execEntryReadZone (h : ReqHeader) (station zone : Nat) (s : State) : Host.Outcome State Fault Refusal :=
  finish (s.ringRequest h (.entryReadZone station zone))

/-- ENTRY_WRITE_PROFILE (R32). -/
def execEntryWriteProfile (h : ReqHeader) (profile : Nat) (w : Profile) (s : State) : Host.Outcome State Fault Refusal :=
  finish (s.ringRequest h (.entryWriteProfile profile w))

/-- ENTRY_READ_PROFILE (R32). -/
def execEntryReadProfile (h : ReqHeader) (profile copy : Nat) (s : State) : Host.Outcome State Fault Refusal :=
  finish (s.ringRequest h (.entryReadProfile profile copy))

/-- ENTRY_WRITE_RECIPE (R122). -/
def execEntryWriteRecipe (h : ReqHeader) (recipe : Nat) (w : RecipeWrite) (s : State) : Host.Outcome State Fault Refusal :=
  finish (s.ringRequest h (.entryWriteRecipe recipe w))

/-- ENTRY_READ_RECIPE (R122). -/
def execEntryReadRecipe (h : ReqHeader) (recipe : Nat) (s : State) : Host.Outcome State Fault Refusal :=
  finish (s.ringRequest h (.entryReadRecipe recipe))

/-- ENTRY_WRITE_RATE (R84). -/
def execEntryWriteRate (h : ReqHeader) (table entry factor : Nat) (s : State) : Host.Outcome State Fault Refusal :=
  finish (s.ringRequest h (.entryWriteRate table entry factor))

/-- ENTRY_READ_RATE (R84). -/
def execEntryReadRate (h : ReqHeader) (table entry : Nat) (s : State) : Host.Outcome State Fault Refusal :=
  finish (s.ringRequest h (.entryReadRate table entry))

/-- ENTRY_WRITE_WEIGHER (R97). -/
def execEntryWriteWeigher (h : ReqHeader) (w : WeigherSettings) (s : State) : Host.Outcome State Fault Refusal :=
  finish (s.ringRequest h (.entryWriteWeigher w))

/-- ENTRY_READ_WEIGHER (R97). -/
def execEntryReadWeigher (h : ReqHeader) (s : State) : Host.Outcome State Fault Refusal :=
  finish (s.ringRequest h .entryReadWeigher)

/-- ENTRY_WRITE_HISTORY (R157). -/
def execEntryWriteHistory (h : ReqHeader) (w : HistoryWrite) (s : State) : Host.Outcome State Fault Refusal :=
  finish (s.ringRequest h (.entryWriteHistory w))

/-- ENTRY_READ_HISTORY (R157). -/
def execEntryReadHistory (h : ReqHeader) (s : State) : Host.Outcome State Fault Refusal :=
  finish (s.ringRequest h .entryReadHistory)

/-- PROFILES_APPLY (R33). -/
def execProfilesApply (h : ReqHeader) (s : State) : Host.Outcome State Fault Refusal :=
  finish (s.ringRequest h .profilesApply)

/-- START (R21). -/
def execStart (h : ReqHeader) (station : Nat) (s : State) : Host.Outcome State Fault Refusal :=
  finish (s.ringRequest h (.start station))

/-- STOP (R21). -/
def execStop (h : ReqHeader) (station : Nat) (s : State) : Host.Outcome State Fault Refusal :=
  finish (s.ringRequest h (.stop station))

/-- ABORT (R22). -/
def execAbort (h : ReqHeader) (station : Nat) (s : State) : Host.Outcome State Fault Refusal :=
  finish (s.ringRequest h (.abort station))

/-- PARK (R23). -/
def execPark (h : ReqHeader) (station : Nat) (s : State) : Host.Outcome State Fault Refusal :=
  finish (s.ringRequest h (.park station))

/-- UNPARK (R23). -/
def execUnpark (h : ReqHeader) (station : Nat) (s : State) : Host.Outcome State Fault Refusal :=
  finish (s.ringRequest h (.unpark station))

/-- ONLINE (R8). -/
def execOnline (h : ReqHeader) (station : Nat) (s : State) : Host.Outcome State Fault Refusal :=
  finish (s.ringRequest h (.online station))

/-- OFFLINE (R23). -/
def execOffline (h : ReqHeader) (station : Nat) (s : State) : Host.Outcome State Fault Refusal :=
  finish (s.ringRequest h (.offline station))

/-- BIND (R24). -/
def execBind (h : ReqHeader) (station recipe : Nat) (s : State) : Host.Outcome State Fault Refusal :=
  finish (s.ringRequest h (.bind station recipe))

/-- CLEAR (R19). -/
def execClear (h : ReqHeader) (station : Nat) (s : State) : Host.Outcome State Fault Refusal :=
  finish (s.ringRequest h (.clear station))

/-- STATION_COMMAND_UNKNOWN (R20). -/
def execStationCommandUnknown (h : ReqHeader) (command station : Nat) (s : State) : Host.Outcome State Fault Refusal :=
  finish (s.ringRequest h (.stationCommandUnknown command station))

/-- ZONE_CLEAR (R79). -/
def execZoneClear (h : ReqHeader) (station zone : Nat) (s : State) : Host.Outcome State Fault Refusal :=
  finish (s.ringRequest h (.zoneClear station zone))

/-- TARE (R117). -/
def execTare (h : ReqHeader) (s : State) : Host.Outcome State Fault Refusal :=
  finish (s.ringRequest h .tare)

/-- RESET (R119). -/
def execReset (h : ReqHeader) (s : State) : Host.Outcome State Fault Refusal :=
  finish (s.ringRequest h .reset)

/-- WEIGHER_COMMAND_UNKNOWN (R119). -/
def execWeigherCommandUnknown (h : ReqHeader) (command : Nat) (s : State) : Host.Outcome State Fault Refusal :=
  finish (s.ringRequest h (.weigherCommandUnknown command))

/-- STATUS_DEVICE (R180). -/
def execStatusDevice (h : ReqHeader) (s : State) : Host.Outcome State Fault Refusal :=
  finish (s.ringRequest h .statusDevice)

/-- STATUS_STATION (R26). -/
def execStatusStation (h : ReqHeader) (station : Nat) (s : State) : Host.Outcome State Fault Refusal :=
  finish (s.ringRequest h (.statusStation station))

/-- STATUS_WEIGHER (R120). -/
def execStatusWeigher (h : ReqHeader) (s : State) : Host.Outcome State Fault Refusal :=
  finish (s.ringRequest h .statusWeigher)

/-- STATUS_STORE (R168). -/
def execStatusStore (h : ReqHeader) (s : State) : Host.Outcome State Fault Refusal :=
  finish (s.ringRequest h .statusStore)

/-- HISTORY_READ (R159). -/
def execHistoryRead (h : ReqHeader) (s : State) : Host.Outcome State Fault Refusal :=
  finish (s.ringRequest h .historyRead)

/-- HISTORY_SPACE (R163). -/
def execHistorySpace (h : ReqHeader) (direction count : Nat) (s : State) : Host.Outcome State Fault Refusal :=
  finish (s.ringRequest h (.historySpace direction count))

/-- HISTORY_REWIND (R164). -/
def execHistoryRewind (h : ReqHeader) (s : State) : Host.Outcome State Fault Refusal :=
  finish (s.ringRequest h .historyRewind)

/-- HISTORY_RELEASE (R164). -/
def execHistoryRelease (h : ReqHeader) (s : State) : Host.Outcome State Fault Refusal :=
  finish (s.ringRequest h .historyRelease)

/-- LOT_MARK (R165). -/
def execLotMark (h : ReqHeader) (lot : Nat) (s : State) : Host.Outcome State Fault Refusal :=
  finish (s.ringRequest h (.lotMark lot))

/-- AUTO (R162). -/
def execAuto (h : ReqHeader) (on : Nat) (s : State) : Host.Outcome State Fault Refusal :=
  finish (s.ringRequest h (.auto on))

/-- NOTICE_MASK (R183). -/
def execNoticeMask (h : ReqHeader) (settings : Vector Nat 11) (s : State) : Host.Outcome State Fault Refusal :=
  finish (s.ringRequest h (.noticeMask settings))

/-- UNKNOWN_REQUEST (R179). -/
def execUnknownRequest (h : ReqHeader) (kind : Byte) (body : List Byte) (s : State) : Host.Outcome State Fault Refusal :=
  finish (s.ringRequest h (.unknown kind body))

end Sys2Proof.Machine
end

