-- ==== Sys2Proof/Machine/Dispatch.lean ====
section
/-! DEFINITION. The meaning of every command: one arm per constructor of `Instr`, one direct call per arm. -/

namespace Sys2Proof.Machine

def exec (i : Instr) (s : State) : Host.Outcome State Fault Refusal :=
  match i with
  | .powerOnReset straps => Sys2Proof.Machine.execPowerOnReset straps s
  | .ringInFrame f => Sys2Proof.Machine.execRingInFrame f s
  | .heatSample f => Sys2Proof.Machine.execHeatSample f s
  | .pressSample f => Sys2Proof.Machine.execPressSample f s
  | .ejectSample f => Sys2Proof.Machine.execEjectSample f s
  | .weighSample f => Sys2Proof.Machine.execWeighSample f s
  | .silenceExpiry entry => Sys2Proof.Machine.execSilenceExpiry entry s
  | .holdExpiry station => Sys2Proof.Machine.execHoldExpiry station s
  | .loadTimeout station => Sys2Proof.Machine.execLoadTimeout station s
  | .wallMinimumExpiry station => Sys2Proof.Machine.execWallMinimumExpiry station s
  | .wallMaximumExpiry station => Sys2Proof.Machine.execWallMaximumExpiry station s
  | .openTimeout station => Sys2Proof.Machine.execOpenTimeout station s
  | .attemptTimerExpiry station => Sys2Proof.Machine.execAttemptTimerExpiry station s
  | .pieceWaitExpiry => Sys2Proof.Machine.execPieceWaitExpiry s
  | .settleTimerExpiry => Sys2Proof.Machine.execSettleTimerExpiry s
  | .clearTimerExpiry => Sys2Proof.Machine.execClearTimerExpiry s
  | .transmissionEnd => Sys2Proof.Machine.execTransmissionEnd s
  | .restartTakeEffect => Sys2Proof.Machine.execRestartTakeEffect s
  | .noticeEmit => Sys2Proof.Machine.execNoticeEmit s
  | .segmentPlace => Sys2Proof.Machine.execSegmentPlace s
  | .autoSendStart => Sys2Proof.Machine.execAutoSendStart s
  | .answerPartPlace => Sys2Proof.Machine.execAnswerPartPlace s
  | .ping h => Sys2Proof.Machine.execPing h s
  | .modeSet h mode => Sys2Proof.Machine.execModeSet h mode s
  | .restart h => Sys2Proof.Machine.execRestart h s
  | .entryWriteRoute h entry w => Sys2Proof.Machine.execEntryWriteRoute h entry w s
  | .entryReadRoute h entry => Sys2Proof.Machine.execEntryReadRoute h entry s
  | .entryWriteStation h station w boundRecipe => Sys2Proof.Machine.execEntryWriteStation h station w boundRecipe s
  | .entryReadStation h station => Sys2Proof.Machine.execEntryReadStation h station s
  | .entryWriteZone h station zone w => Sys2Proof.Machine.execEntryWriteZone h station zone w s
  | .entryReadZone h station zone => Sys2Proof.Machine.execEntryReadZone h station zone s
  | .entryWriteProfile h profile w => Sys2Proof.Machine.execEntryWriteProfile h profile w s
  | .entryReadProfile h profile copy => Sys2Proof.Machine.execEntryReadProfile h profile copy s
  | .entryWriteRecipe h recipe w => Sys2Proof.Machine.execEntryWriteRecipe h recipe w s
  | .entryReadRecipe h recipe => Sys2Proof.Machine.execEntryReadRecipe h recipe s
  | .entryWriteRate h table entry factor => Sys2Proof.Machine.execEntryWriteRate h table entry factor s
  | .entryReadRate h table entry => Sys2Proof.Machine.execEntryReadRate h table entry s
  | .entryWriteWeigher h w => Sys2Proof.Machine.execEntryWriteWeigher h w s
  | .entryReadWeigher h => Sys2Proof.Machine.execEntryReadWeigher h s
  | .entryWriteHistory h w => Sys2Proof.Machine.execEntryWriteHistory h w s
  | .entryReadHistory h => Sys2Proof.Machine.execEntryReadHistory h s
  | .profilesApply h => Sys2Proof.Machine.execProfilesApply h s
  | .start h station => Sys2Proof.Machine.execStart h station s
  | .stop h station => Sys2Proof.Machine.execStop h station s
  | .abort h station => Sys2Proof.Machine.execAbort h station s
  | .park h station => Sys2Proof.Machine.execPark h station s
  | .unpark h station => Sys2Proof.Machine.execUnpark h station s
  | .online h station => Sys2Proof.Machine.execOnline h station s
  | .offline h station => Sys2Proof.Machine.execOffline h station s
  | .bind h station recipe => Sys2Proof.Machine.execBind h station recipe s
  | .clear h station => Sys2Proof.Machine.execClear h station s
  | .stationCommandUnknown h command station => Sys2Proof.Machine.execStationCommandUnknown h command station s
  | .zoneClear h station zone => Sys2Proof.Machine.execZoneClear h station zone s
  | .tare h => Sys2Proof.Machine.execTare h s
  | .reset h => Sys2Proof.Machine.execReset h s
  | .weigherCommandUnknown h command => Sys2Proof.Machine.execWeigherCommandUnknown h command s
  | .statusDevice h => Sys2Proof.Machine.execStatusDevice h s
  | .statusStation h station => Sys2Proof.Machine.execStatusStation h station s
  | .statusWeigher h => Sys2Proof.Machine.execStatusWeigher h s
  | .statusStore h => Sys2Proof.Machine.execStatusStore h s
  | .historyRead h => Sys2Proof.Machine.execHistoryRead h s
  | .historySpace h direction count => Sys2Proof.Machine.execHistorySpace h direction count s
  | .historyRewind h => Sys2Proof.Machine.execHistoryRewind h s
  | .historyRelease h => Sys2Proof.Machine.execHistoryRelease h s
  | .lotMark h lot => Sys2Proof.Machine.execLotMark h lot s
  | .auto h on => Sys2Proof.Machine.execAuto h on s
  | .noticeMask h settings => Sys2Proof.Machine.execNoticeMask h settings s
  | .unknownRequest h kind body => Sys2Proof.Machine.execUnknownRequest h kind body s

end Sys2Proof.Machine
end

