-- ==== Sys2Proof/Machine/Time.lean ====
section
/-! DEFINITION. What the part does when no command waits: the steps of its own that are due, or else the passing of one millisecond
(R185, log entry 2). -/

namespace Sys2Proof.Machine

/-- The command when its condition holds. -/
def when (b : Bool) (i : Instr) : List Instr := if b then [i] else []

/-- The silence timers that are due. -/
def State.dueSilences (s : State) : List Instr :=
  ((List.finRange 32).filter fun i => (s.silenceDue? i).isSome).map Instr.silenceExpiry

/-- The timers of a station that are due. -/
def State.dueTimers (s : State) (st : Fin 6) : List Instr :=
  when (s.holdDue st) (.holdExpiry st) ++ when ((s.loadTimer st).due s.now) (.loadTimeout st) ++
  when ((s.wallMinTimer st).due s.now) (.wallMinimumExpiry st) ++ when ((s.wallMaxTimer st).due s.now) (.wallMaximumExpiry st) ++
  when ((s.openTimer st).due s.now) (.openTimeout st) ++ when ((s.attemptTimer st).due s.now) (.attemptTimerExpiry st)

/-- The timers of the weigher that are due. -/
def State.dueWeigher (s : State) : List Instr :=
  when (s.weigher.pieceWait.due s.now) .pieceWaitExpiry ++ when (s.weigher.settle.due s.now) .settleTimerExpiry ++
  when (s.weigher.clear.due s.now) .clearTimerExpiry

/-- The placing of an admitted claimant (R177). -/
def State.duePlacing (s : State) : List Instr :=
  match s.admitted with
  | some .handler => [.answerPartPlace]
  | some .sender => [.segmentPlace]
  | some .emitter => [.noticeEmit]
  | none => []

/-- The part's own steps that are due. The end of a transmission is the ring's (R175), and is none of them. -/
def State.ownSteps (s : State) : List Instr :=
  s.dueSilences ++ (List.finRange 6).flatMap s.dueTimers ++ s.dueWeigher ++ s.duePlacing ++ when s.store.autoReady .autoSendStart

/-- No command waits: the own steps that are due join the queue; with none, a millisecond passes (log entry 2). -/
def State.idle (s : State) : State :=
  match s.ownSteps with
  | [] => { s with now := s.now + 1 }
  | l => { s with pending := l }

end Sys2Proof.Machine
end

