-- ==== Sys2Proof/Safety.lean ====
section
/-! DEFINITION. A safe step and a safe run: the block answers a next state, with no fault and no refusal. -/

namespace Sys2Proof.Machine

/-- The step of `s` answers a next state. -/
def State.safeStep (s : State) : Prop := ∃ t, step s = .next t

/-- `t` is reached from `s` in `n` steps, each of which answers a next state. -/
def reaches : Nat → State → State → Prop
  | 0, s, t => s = t
  | n + 1, s, t => ∃ u, step s = .next u ∧ reaches n u t

end Sys2Proof.Machine
end

