-- ==== Sys2Proof/WellFormed.lean ====
section
/-! DEFINITION. When a command is one the wire can carry: every operand of a request fits the width R190 gives its field, and a
row for unknown codes carries a code that is unknown. A frame of a ring-side row is never ill-formed: R170 judges any bytes. -/

namespace Sys2Proof

/-- Fits in an unsigned field of `bytes` bytes. -/
def fitsU (bytes n : Nat) : Bool := n < 256 ^ bytes

/-- Fits in a signed two's-complement field of `bytes` bytes. -/
def fitsS (bytes : Nat) (n : Int) : Bool := -(256 ^ bytes : Int) ≤ 2 * n && 2 * n < (256 ^ bytes : Int)

def RouteWrite.wf (w : RouteWrite) : Bool :=
  fitsU 1 w.present && fitsU 1 w.address && fitsU 1 w.role && fitsU 1 w.station && fitsU 1 w.owned && fitsU 4 w.silence

def StationSettings.wf (w : StationSettings) : Bool :=
  fitsU 2 w.budget && fitsU 4 w.roundPeriod && fitsU 1 w.readyDwell && fitsU 4 w.holdTime && fitsU 2 w.closedThreshold &&
  fitsU 2 w.minTonnage && fitsU 2 w.forceLimit && fitsU 2 w.retractThreshold

def ZoneWrite.wf (w : ZoneWrite) : Bool :=
  fitsU 1 w.present && fitsU 1 w.group && fitsU 1 w.cureRef && fitsU 2 w.offset && fitsU 2 w.gain && fitsS 2 w.trim &&
  fitsU 1 w.depth && fitsU 2 w.kp && fitsU 2 w.ki && fitsU 2 w.integralLimit && fitsU 2 w.bandLow && fitsU 2 w.bandHigh &&
  fitsU 2 w.overTemp && fitsU 2 w.runaway

def SetPoint.wf (p : SetPoint) : Bool := fitsU 2 p.temp && fitsU 2 p.ff

def CureStep.wf (p : CureStep) : Bool := fitsU 2 p.temp && fitsU 1 p.len && fitsU 2 p.threshold && fitsU 2 p.ff

/-- Fourteen steps are the most that a payload of 120 bytes carries. -/
def Profile.wf (p : Profile) : Bool :=
  p.idle.wf && p.park.wf && p.hold.wf && p.opening.wf && fitsU 1 p.defaultLen && p.steps.length ≤ 14 && p.steps.all CureStep.wf

def RecipeWrite.wf (w : RecipeWrite) : Bool :=
  fitsU 1 w.present && fitsU 2 w.revision && fitsS 4 w.nominalMass && fitsS 4 w.lowerTol && fitsS 4 w.upperTol &&
  fitsU 1 w.minPieces && fitsU 1 w.pieceLimit && fitsU 4 w.pieceWait && w.profiles.toList.all (fitsU 1) && fitsU 1 w.rateTable &&
  fitsU 2 w.baseTemp && fitsU 4 w.eBase && fitsU 4 w.eMin && fitsU 4 w.eMax && fitsS 2 w.massCoeff && fitsU 4 w.wallMin &&
  fitsU 4 w.wallMax && fitsU 2 w.excursionLimit && fitsU 4 w.loadTimeout && fitsU 2 w.openThreshold && fitsU 4 w.openTimeout &&
  fitsU 2 w.ejectStroke && fitsU 2 w.releaseThreshold && fitsU 2 w.initialForce && fitsU 2 w.forceStep && fitsU 1 w.retryLimit &&
  fitsU 4 w.attemptTimeout && fitsU 4 w.settleDwell

def WeigherSettings.wf (w : WeigherSettings) : Bool :=
  fitsS 4 w.zero && fitsU 2 w.span && fitsS 4 w.capacity && fitsS 4 w.presenceOn && fitsS 4 w.presenceOff && fitsS 4 w.band &&
  fitsU 4 w.settleTimeout && fitsS 4 w.pieceThreshold && fitsS 4 w.minPiece && fitsU 1 w.runOn && fitsS 4 w.zeroTrack &&
  fitsU 4 w.sampleInterval && fitsU 4 w.clearTimeout

def HistoryWrite.wf (w : HistoryWrite) : Bool :=
  fitsU 1 w.policy && fitsU 1 w.backlog && fitsU 2 w.lowWater && fitsU 1 w.autoSend

/-- A management request the wire can carry. No body spells `malformed`: it is what a body that spells no request reads as. -/
def Request.wf : Request → Bool
  | .ping | .restart | .entryReadWeigher | .entryReadHistory | .profilesApply | .tare | .reset | .statusDevice | .statusWeigher
  | .statusStore | .historyRead | .historyRewind | .historyRelease => true
  | .modeSet m => fitsU 1 m
  | .entryWriteRoute n w => fitsU 1 n && w.wf
  | .entryReadRoute n => fitsU 1 n
  | .entryWriteStation n w b => fitsU 1 n && w.wf && fitsU 1 b
  | .entryReadStation n => fitsU 1 n
  | .entryWriteZone n z w => fitsU 1 n && fitsU 1 z && w.wf
  | .entryReadZone n z => fitsU 1 n && fitsU 1 z
  | .entryWriteProfile n w => fitsU 1 n && w.wf
  | .entryReadProfile n c => fitsU 1 n && fitsU 1 c
  | .entryWriteRecipe n w => fitsU 1 n && w.wf
  | .entryReadRecipe n => fitsU 1 n
  | .entryWriteRate t e f => fitsU 1 t && fitsU 1 e && fitsU 2 f
  | .entryReadRate t e => fitsU 1 t && fitsU 1 e
  | .entryWriteWeigher w => w.wf
  | .entryWriteHistory w => w.wf
  | .start n | .stop n | .abort n | .park n | .unpark n | .online n | .offline n | .clear n | .statusStation n => fitsU 1 n
  | .bind n r => fitsU 1 n && fitsU 1 r
  | .stationCommandUnknown c n => fitsU 1 c && fitsU 1 n && (c == 0 || 9 < c)
  | .zoneClear n z => fitsU 1 n && fitsU 1 z
  | .weigherCommandUnknown c => fitsU 1 c && (c == 0 || 2 < c)
  | .historySpace d n => fitsU 1 d && fitsU 2 n
  | .lotMark l => fitsU 4 l
  | .auto o => fitsU 1 o
  | .noticeMask m => m.toList.all (fitsU 1)
  | .unknown k b => (k.toNat == 0 || 17 < k.toNat) && b.length ≤ 119
  | .malformed _ => false

/-- The header and the request a management command carries, if it is one. -/
def Instr.request? : Instr → Option (ReqHeader × Request)
  | .powerOnReset _ | .ringInFrame _ | .heatSample _ | .pressSample _ | .ejectSample _ | .weighSample _ | .silenceExpiry _
  | .holdExpiry _ | .loadTimeout _ | .wallMinimumExpiry _ | .wallMaximumExpiry _ | .openTimeout _ | .attemptTimerExpiry _
  | .pieceWaitExpiry | .settleTimerExpiry | .clearTimerExpiry | .transmissionEnd | .restartTakeEffect | .noticeEmit | .segmentPlace
  | .autoSendStart | .answerPartPlace => none
  | .ping h => some (h, .ping)
  | .modeSet h m => some (h, .modeSet m)
  | .restart h => some (h, .restart)
  | .entryWriteRoute h n w => some (h, .entryWriteRoute n w)
  | .entryReadRoute h n => some (h, .entryReadRoute n)
  | .entryWriteStation h n w b => some (h, .entryWriteStation n w b)
  | .entryReadStation h n => some (h, .entryReadStation n)
  | .entryWriteZone h n z w => some (h, .entryWriteZone n z w)
  | .entryReadZone h n z => some (h, .entryReadZone n z)
  | .entryWriteProfile h n w => some (h, .entryWriteProfile n w)
  | .entryReadProfile h n c => some (h, .entryReadProfile n c)
  | .entryWriteRecipe h n w => some (h, .entryWriteRecipe n w)
  | .entryReadRecipe h n => some (h, .entryReadRecipe n)
  | .entryWriteRate h t e f => some (h, .entryWriteRate t e f)
  | .entryReadRate h t e => some (h, .entryReadRate t e)
  | .entryWriteWeigher h w => some (h, .entryWriteWeigher w)
  | .entryReadWeigher h => some (h, .entryReadWeigher)
  | .entryWriteHistory h w => some (h, .entryWriteHistory w)
  | .entryReadHistory h => some (h, .entryReadHistory)
  | .profilesApply h => some (h, .profilesApply)
  | .start h n => some (h, .start n)
  | .stop h n => some (h, .stop n)
  | .abort h n => some (h, .abort n)
  | .park h n => some (h, .park n)
  | .unpark h n => some (h, .unpark n)
  | .online h n => some (h, .online n)
  | .offline h n => some (h, .offline n)
  | .bind h n r => some (h, .bind n r)
  | .clear h n => some (h, .clear n)
  | .stationCommandUnknown h c n => some (h, .stationCommandUnknown c n)
  | .zoneClear h n z => some (h, .zoneClear n z)
  | .tare h => some (h, .tare)
  | .reset h => some (h, .reset)
  | .weigherCommandUnknown h c => some (h, .weigherCommandUnknown c)
  | .statusDevice h => some (h, .statusDevice)
  | .statusStation h n => some (h, .statusStation n)
  | .statusWeigher h => some (h, .statusWeigher)
  | .statusStore h => some (h, .statusStore)
  | .historyRead h => some (h, .historyRead)
  | .historySpace h d n => some (h, .historySpace d n)
  | .historyRewind h => some (h, .historyRewind)
  | .historyRelease h => some (h, .historyRelease)
  | .lotMark h l => some (h, .lotMark l)
  | .auto h o => some (h, .auto o)
  | .noticeMask h m => some (h, .noticeMask m)
  | .unknownRequest h k b => some (h, .unknown k b)

/-- A command the outside or the part itself can bring about. -/
def Instr.wf (i : Instr) : Bool :=
  match i.request? with
  | some (_, r) => r.wf
  | none => true

end Sys2Proof
end

