-- ==== Sys2Proof/Certificates/Slice0/Obligations.lean ====
section
/-! DEFINITION. The statements about the model, one `Obligations.<Name>` each, with the words they share. Every command ends with
ring-out's turn, which the statements write as `beginSend` (log entry 6; `BeginSendChoice` says what it does). -/

namespace Sys2Proof.Claim

open Sys2Proof.Machine

/-- A request that is served: it reaches a part out of ISOLATED under the part's own address, from another node, with hops left, it
finds the request buffer empty, and a present MASTER entry, if there is one, names its source (R170, R178). -/
def Served (s : State) (h : ReqHeader) : Prop :=
  s.mode ≠ .isolated ∧ s.nodeAddress = some h.dest ∧ h.src ≠ h.dest ∧ h.hops ≠ 0 ∧ s.port.buffer = .empty ∧
  ∀ i : Fin 32, s.port.routes[i].present = true → s.port.routes[i].role = 5 → s.port.routes[i].station = 255 →
    s.port.routes[i].address = h.src.toNat

/-- `t` with an answer in its request buffer. -/
def withAnswer (t : State) (h : ReqHeader) (kind : Byte) (code : Result) (body : List Byte) : State :=
  { t with port := { t.port with buffer := .answering (answerParts h.src h.seq kind code body) false } }

/-- The command leaves `t` with this answer in the request buffer, where its parts wait to be placed (log entry 4), ring-out having had its
turn at the end of the command (`BeginSendChoice`, log entry 6). -/
def Answers (i : Instr) (s : State) (h : ReqHeader) (kind : Byte) (t : State) (code : Result) (body : List Byte) : Prop :=
  exec i s = .next (withAnswer t h kind code body).beginSend

/-- A frame that steps 1 to 3 of R170 let pass, at a part with address `own`. -/
def Arrives (s : State) (f : Frame) (own : Byte) : Prop :=
  s.mode ≠ .isolated ∧ s.nodeAddress = some own ∧ f.check = checkWord f ∧ f.length.toNat = f.payload.length ∧
  f.payload.length ≤ 120 ∧ f.src ≠ own ∧ f.hops ≠ 0

/-- What ring-out is left to do with a frame that has been taken: nothing when it is addressed to the part, else the forwarding. -/
def passed (s : State) (own : Byte) (f : Frame) : State := if f.dest = own then s else s.forward f

/-- The invariant of the line port and the mode: no address exactly in ISOLATED (R184, R186), at most four frames in the forward buffer
and in the report queue (R169), a line-error count in its range (R169), and no notice pending of a disabled kind (R181, R183). -/
def LineInvariant (s : State) : Prop :=
  (s.mode = .isolated ↔ s.nodeAddress = none) ∧ s.port.forward.length ≤ 4 ∧ s.port.report.length ≤ 4 ∧ s.port.lineErrors ≤ 65535 ∧
  ∀ i : Fin 77, (s.port.notices[i]).isSome = true → s.port.mask[(⟨i.val / 7, by omega⟩ : Fin 11)] = true

/-- `s` with the station `st` replaced. -/
def withStation (s : State) (st : Fin 6) (x : Station) : State := { s with stations := s.stations.set st x }

/-- From `s` to `t` a notice of a station was raised once, at the time of the event (R181); a kind that is disabled raises nothing. -/
def Told (s t : State) (k : NoticeKind) (st : Fin 6) (values : List Byte) : Prop :=
  s.port.mask[k.index] = true → t.port.notices[noticeSlot k (some st)] =
    some { count := min 255 ((s.port.notices[noticeSlot k (some st)]).elim 0 (·.count) + 1), time := s.now, values := values }

/-- A zone whose runtime and supervisor state start afresh, with this entry and fault (R50, R66). -/
def zoneAfresh (e : ZoneEntry) (f : ZoneFault) : Zone :=
  { entry := e, samples := [], integral := 0, prevDemand := .none, lastStatus := .ok, lastT := none, tavg := none, sz := 0, err := 0,
    demand := 0, dutySent := 0, kind := none, window := .within, fault := f, openCount := 0, rangeCount := 0, stuckCount := 0,
    heaterOpenCount := 0, heaterOpenRef := 0 }

/-- A present route entry of this role and station. -/
def RouteNames (e : RouteEntry) (role station : Nat) : Prop := e.present = true ∧ e.role = role ∧ e.station = station

/-- The first present route entry of a role and station; R172 lets there be one at most. -/
def EntryIs (s : State) (role station : Nat) (e : Fin 32) : Prop :=
  RouteNames s.port.routes[e] role station ∧ ∀ i : Fin 32, i < e → ¬RouteNames s.port.routes[i] role station

/-- The entry of a role and station is SILENT (R174). -/
def SilentEntry (s : State) (role station : Nat) : Prop := ∃ e, EntryIs s role station e ∧ s.port.silence[e] = .silent

/-- R15 "cleared when", R19 "persists while": the fault cause of a station persists. PLATEN_LOST while a lost flag is set, a silence while
its entry is SILENT, PRESS_STOP while the last PRESS-SAMPLE had the stop flag set (log entry 12), and no other cause. -/
def CausePersists (s : State) (st : Fin 6) : Prop :=
  (s.station st).cause = .platenLost ∧ (∃ p : Fin 2, (s.station st).lost[p] = true) ∨
  (s.station st).cause = .heatSilent ∧ SilentEntry s 0 st.val ∨
  (s.station st).cause = .pressSilent ∧ SilentEntry s 2 st.val ∨
  (s.station st).cause = .ejectorSilent ∧ SilentEntry s 3 st.val ∨
  (s.station st).cause = .pressStop ∧ (s.station st).pressStop = true

/-- R119: the fault cause of the weigher persists. The gross of the last new sample is held against the capacity that stands when the
question is put (log entry 41). -/
def WeigherPersists (s : State) : Prop :=
  s.weigher.cause = .overload ∧ (s.weigher.lastStatus = .overload ∨
    s.weigher.lastStatus = .ok ∧ s.weigher.lastGross.any (fun g => s.weigher.settings.capacity < g) = true) ∨
  s.weigher.cause = .nodeError ∧ s.weigher.lastStatus = .error ∨
  s.weigher.cause = .silent ∧ SilentEntry s 4 255 ∨
  s.weigher.cause = .notCleared ∧ s.weigher.presence = .present

/-- A claimant of the report queue waits (R177): the handler with a part of an answer to place, the sender with a record whose READ, if it
has one, has its answer placed (R159), the emitter with a pending flag (R182). -/
def Waits (s : State) : ReportClaimant → Prop
  | .handler => ∃ f rest restart, s.port.buffer = .answering (f :: rest) restart
  | .sender => ∃ x, s.store.sender = some x ∧ x.answered = true
  | .emitter => ∃ i : Fin 77, s.port.notices[i] ≠ none

/-- The claimant of the report queue after another, in the rotation HANDLER, SENDER, EMITTER (R177). -/
def reportAfter : ReportClaimant → ReportClaimant
  | .handler => .sender
  | .sender => .emitter
  | .emitter => .handler

/-- The report queue has room and admits a claimant: the first that waits, taken round from the one after the last admitted (R177). -/
def Admits (s : State) (c : ReportClaimant) : Prop :=
  let next := reportAfter s.port.lastReport
  s.port.report.length < 4 ∧ Waits s c ∧
  (c = reportAfter next → ¬Waits s next) ∧ (c = s.port.lastReport → ¬Waits s next ∧ ¬Waits s (reportAfter next))

/-- A timer runs and its length has passed (R185). -/
def Due (t : Timer) (now : Time) : Prop := ∃ since len, t = .running since len ∧ len ≤ (now - since).toNat

/-- The time of a command of the part's own has come: its timer is due in a state that runs it (log entry 3), its claimant is admitted (log
entry 4), or an idle sender finds a record passed to auto-send (R162). -/
def DueStep (s : State) : Instr → Prop
  | .silenceExpiry e => ∃ since, s.port.silence[e] = .running since ∧ (s.port.routes[e]).silence ≤ (s.now - since).toNat
  | .holdExpiry st => (s.station st).state = .hold ∧ Due (s.station st).holdTimer s.now
  | .loadTimeout st => (s.station st).state = .loading ∧ ∃ c, s.ctx? st = some c ∧ Due c.loadTimer s.now
  | .wallMinimumExpiry st => (s.station st).state = .curing ∧ ∃ c, s.ctx? st = some c ∧ Due c.cure.wallMin s.now
  | .wallMaximumExpiry st => (s.station st).state = .curing ∧ ∃ c, s.ctx? st = some c ∧ Due c.cure.wallMax s.now
  | .openTimeout st => (s.station st).state = .opening ∧ ∃ c, s.ctx? st = some c ∧ Due c.eject.openTimer s.now
  | .attemptTimerExpiry st => (s.station st).state = .ejecting ∧ ∃ c, s.ctx? st = some c ∧ Due c.eject.attemptTimer s.now
  | .pieceWaitExpiry => Due s.weigher.pieceWait s.now
  | .settleTimerExpiry => Due s.weigher.settle s.now
  | .clearTimerExpiry => Due s.weigher.clear s.now
  | .answerPartPlace => Admits s .handler
  | .segmentPlace => Admits s .sender
  | .noticeEmit => Admits s .emitter
  | .autoSendStart => s.store.sender = none ∧ s.store.autoPos ≠ s.store.cursor
  | _ => False

/-- R179 and 12.1: the payload of a MGMT-REQUEST has the length of its kind, and its selector names a table or a STATUS object. The lengths
of the bodies follow from the widths of R190 and of log entry 8, those of unknown commands are log entry 25. -/
def RequestFits (p : List Byte) : Prop :=
  let k := (p.getD 0 0).toNat
  let x := (p.getD 1 0).toNat
  let n := p.length
  (k = 1 ∨ k = 3 ∨ k = 6 ∨ k = 11 ∨ k = 13 ∨ k = 14) ∧ n = 1 ∨
  (k = 2 ∨ k = 9 ∨ k = 16) ∧ n = 2 ∨
  k = 4 ∧ ((x = 6 ∨ x = 7) ∧ n = 2 ∨ (x = 0 ∨ x = 1 ∨ x = 4) ∧ n = 3 ∨ (x = 2 ∨ x = 3 ∨ x = 5) ∧ n = 4) ∨
  k = 5 ∧ (x = 0 ∧ n = 12 ∨ x = 1 ∧ n = 23 ∨ x = 2 ∧ n = 28 ∨ x = 3 ∧ n = 21 + 7 * (p.getD 20 0).toNat ∨ x = 4 ∧ n = 82 ∨
    x = 5 ∧ n = 6 ∨ x = 6 ∧ n = 49 ∨ x = 7 ∧ n = 7) ∨
  k = 7 ∧ (x ≠ 8 ∧ n = 3 ∨ (x = 0 ∨ x = 8 ∨ 10 ≤ x) ∧ n = 4) ∨
  k = 8 ∧ n = 3 ∨
  k = 10 ∧ (x = 1 ∧ n = 3 ∨ (x = 0 ∨ x = 2 ∨ x = 3) ∧ n = 2) ∨
  k = 12 ∧ n = 4 ∨ k = 15 ∧ n = 5 ∨ k = 17 ∧ n = 12 ∨
  (k = 0 ∨ 18 ≤ k) ∧ n ≠ 0

/-- R10: the calling condition of a READY station. -/
def Calls (s : State) (st : Fin 6) : Prop :=
  (s.station st).runEnable = true ∧ (s.recipes[(s.station st).boundRecipe]).present = true ∧ (s.station st).pressAuto = true

/-- The station joins the call queue at its tail, and the arbiter tests (R10, R124, R126; `GrantCreatesContext` says what a test does). -/
def joined (s : State) (st : Fin 6) : State :=
  State.consider { withStation s st { s.station st with state := .calling } with
    arbiter := { s.arbiter with queue := s.arbiter.queue ++ [st] } }

/-- The station leaves the call queue, and the arbiter tests when the head changed (R125, R126). -/
def left (s : State) (st : Fin 6) : State :=
  let u : State := { s with arbiter := { s.arbiter with queue := s.arbiter.queue.filter (· ≠ st) } }
  if u.arbiter.queue.head? = s.arbiter.queue.head? then u else u.consider

/-- `s` with the station replaced and its groups resolved afresh from its new state (R34, R36; `GroupRule` says what a resolution does). -/
def resolved (s : State) (st : Fin 6) (x : Station) : State := (withStation s st x).resolveAfresh st

/-- `s` with STATION_STATE raised for a station in this state (R26). -/
def announced (s : State) (st : Fin 6) (x : Station) : State :=
  State.raise (withStation s st x) .stationState (some st) (put8 x.state.code ++ put8 x.cause.code ++ putTime x.cycleNumber)

/-- R172, the STATE refusal: the entry as it stands, or as written, is present with a role that names a station, and that station is not
OFFLINE. -/
def RouteBusy (s : State) (e : Fin 32) (w : RouteWrite) : Prop :=
  ∃ st : Fin 6, (s.station st).state ≠ .offline ∧
    ((s.port.routes[e]).present = true ∧ (s.port.routes[e]).role < 4 ∧ (s.port.routes[e]).station = st.val ∨
      w.present ≠ 0 ∧ w.role < 4 ∧ w.station = st.val)

/-- R172, the BAD_CONTENT checks: an entry written absent passes them. -/
def RouteFits (s : State) (e : Fin 32) (w : RouteWrite) : Prop :=
  w.present = 0 ∨
    w.present = 1 ∧ 1 ≤ w.address ∧ w.address ≤ 254 ∧ w.role ≤ 5 ∧ (w.role < 4 → w.station < 6) ∧ (4 ≤ w.role → w.station = 255) ∧
    (w.role ≠ 1 → w.role ≠ 5 → 50 ≤ w.silence ∧ w.silence ≤ 10000) ∧ s.nodeAddress ≠ some (BitVec.ofNat 8 w.address) ∧
    ∀ j : Fin 32, j ≠ e → (s.port.routes[j]).present = true → (s.port.routes[j]).address ≠ w.address ∧
      ((s.port.routes[j]).role = w.role → w.role < 4 ∧ (s.port.routes[j]).station ≠ w.station)

/-- R2. -/
def SettingsFit (w : StationSettings) : Prop :=
  w.budget ≤ 4080 ∧ 100 ≤ w.roundPeriod ∧ w.roundPeriod ≤ 2000 ∧ 1 ≤ w.readyDwell ∧ w.readyDwell ≤ 255 ∧ 1000 ≤ w.holdTime ∧
  w.holdTime ≤ 60000 ∧ w.closedThreshold ≤ 65535 ∧ w.minTonnage ≤ 65535 ∧ w.forceLimit ≤ 65535 ∧ w.retractThreshold ≤ 65535

/-- R27, R28; a flag other than 0 and 1 is out of range (log entry 10). -/
def ZoneFits (w : ZoneWrite) : Prop :=
  w.present ≤ 1 ∧ w.group ≤ 3 ∧ w.cureRef ≤ 1 ∧ w.offset ≤ 65535 ∧ w.gain ≤ 65535 ∧ -500 ≤ w.trim ∧ w.trim ≤ 500 ∧
  (w.depth = 1 ∨ w.depth = 2 ∨ w.depth = 4 ∨ w.depth = 8) ∧ w.kp ≤ 255 ∧ w.ki ≤ 255 ∧ w.integralLimit ≤ 32767 ∧
  w.bandLow ≤ 500 ∧ w.bandHigh ≤ 500 ∧ w.overTemp ≤ 4000 ∧ w.runaway ≤ 1000

/-- R31, R32. -/
def ProfileFits (w : Profile) : Prop :=
  (∀ p ∈ [w.idle, w.park, w.hold, w.opening], p.temp ≤ 4000 ∧ p.ff ≤ 2047) ∧ w.defaultLen ≤ 255 ∧ 1 ≤ w.steps.length ∧
  w.steps.length ≤ 6 ∧ (∀ c ∈ w.steps, c.temp ≤ 4000 ∧ c.len ≤ 255 ∧ c.threshold ≤ 255 ∧ c.ff ≤ 2047) ∧
  (∀ c, w.steps.head? = some c → c.threshold = 0) ∧
  ∀ j a b, w.steps[j]? = some a → w.steps[j + 1]? = some b → a.threshold < b.threshold

/-- R121, with the checks of R83 and R98. -/
def RecipeFits (w : RecipeWrite) : Prop :=
  w.present ≤ 1 ∧ 100 ≤ w.nominalMass ∧ w.nominalMass ≤ 250000 ∧ 0 ≤ w.lowerTol ∧ w.lowerTol ≤ 10000 ∧ 0 ≤ w.upperTol ∧
  w.upperTol ≤ 10000 ∧ w.lowerTol ≤ w.nominalMass ∧ 1 ≤ w.minPieces ∧ w.minPieces ≤ 8 ∧ 1 ≤ w.pieceLimit ∧ w.pieceLimit ≤ 8 ∧
  w.minPieces ≤ w.pieceLimit ∧ 1000 ≤ w.pieceWait ∧ w.pieceWait ≤ 60000 ∧ w.profiles[0] ≤ 15 ∧
  (∀ g : Fin 4, w.profiles[g] ≤ 15 ∨ w.profiles[g] = 255) ∧ w.rateTable ≤ 3 ∧ w.baseTemp ≤ 4000 ∧
  (∀ n ∈ [w.eBase, w.eMin, w.eMax], 1000 ≤ n ∧ n ≤ 3600000) ∧ w.eMin ≤ w.eBase ∧ w.eBase ≤ w.eMax ∧ -32768 ≤ w.massCoeff ∧
  w.massCoeff ≤ 32767 ∧ w.wallMin < w.wallMax ∧ w.wallMax ≤ 3600000 ∧
  (∀ n ∈ [w.excursionLimit, w.openThreshold, w.ejectStroke, w.releaseThreshold, w.initialForce, w.forceStep], n ≤ 65535) ∧
  (∀ n ∈ [w.loadTimeout, w.openTimeout], 1000 ≤ n ∧ n ≤ 600000) ∧ w.retryLimit ≤ 3 ∧ 100 ≤ w.attemptTimeout ∧
  w.attemptTimeout ≤ 60000 ∧ w.settleDwell ≤ 60000

/-- R97. -/
def WeigherFits (w : WeigherSettings) : Prop :=
  -8388608 ≤ w.zero ∧ w.zero ≤ 8388607 ∧ 1 ≤ w.span ∧ w.span ≤ 65535 ∧ 1 ≤ w.capacity ∧ w.capacity ≤ 300000 ∧
  -10000 ≤ w.presenceOn ∧ w.presenceOn ≤ 300000 ∧ -10000 ≤ w.presenceOff ∧ w.presenceOff ≤ 300000 ∧ w.presenceOff < w.presenceOn ∧
  1 ≤ w.band ∧ w.band ≤ 100 ∧ 100 ≤ w.settleTimeout ∧ w.settleTimeout ≤ 60000 ∧ 1 ≤ w.pieceThreshold ∧ w.pieceThreshold ≤ 10000 ∧
  1 ≤ w.minPiece ∧ w.minPiece ≤ 300000 ∧ 1 ≤ w.runOn ∧ w.runOn ≤ 255 ∧ 0 ≤ w.zeroTrack ∧ w.zeroTrack ≤ 10000 ∧
  5 ≤ w.sampleInterval ∧ w.sampleInterval ≤ 100 ∧ 1000 ≤ w.clearTimeout ∧ w.clearTimeout ≤ 60000

/-- R157; a flag other than 0 and 1 is out of range (log entry 10). -/
def HistoryFits (w : HistoryWrite) : Prop :=
  w.policy ≤ 1 ∧ 1 ≤ w.backlog ∧ w.backlog ≤ 255 ∧ w.lowWater ≤ 16384 ∧ w.autoSend ≤ 1

/-- R8: what ONLINE asks of a station. -/
def ReadyForOnline (s : State) (st : Fin 6) : Prop :=
  (∃ e, s.findEntry .heat st.val = some e ∧ s.port.silence[e] ≠ .silent) ∧ s.findEntry .heater st.val ≠ none ∧
  (∃ e, s.findEntry .press st.val = some e ∧ s.port.silence[e] ≠ .silent) ∧ s.findEntry .ejector st.val ≠ none ∧
  (∃ z : Fin 16, z.val < 8 ∧ ((s.station st).zones[z]).entry.present = true ∧ ((s.station st).zones[z]).fault = .none) ∧
  (∃ z : Fin 16, 8 ≤ z.val ∧ ((s.station st).zones[z]).entry.present = true ∧ ((s.station st).zones[z]).fault = .none) ∧
  (s.recipes[(s.station st).boundRecipe]).present = true

/-- The cycle context a station's state goes with (R3, R6): none, one whose charge is on the weigher, one with the mould occupied, or in
HOLD and LATCHED either none or one with the mould occupied. -/
def ContextByState (x : Station) : Prop :=
  match x.state with
  | .offline | .warming | .ready | .calling | .parked => x.ctx = none
  | .charging => ∃ c, x.ctx = some c ∧ c.mouldOccupied = false
  | .loading | .curing | .opening | .ejecting => ∃ c, x.ctx = some c ∧ c.mouldOccupied = true
  | .hold | .latched => ∀ c, x.ctx = some c → c.mouldOccupied = true

/-- The ejection sub-state of a context fits the state of its station (R134, R135, R147). -/
def EjectionByState (x : Station) : Prop :=
  ∀ c, x.ctx = some c → c.eject.sub = .none ∨ c.eject.sub = .waitOpen ∧ x.state = .opening ∨
    (c.eject.sub = .extending ∨ c.eject.sub = .retracting ∨ c.eject.sub = .dwelling) ∧ x.state = .ejecting

/-- The cell's invariant, over stations, call queue and weigher: the contexts of R3; a call queue without duplicates that holds the
stations in CALLING (R123); one granted station, which arbiter and weigher name alike and which is the one in CHARGING (R123), with a
weigh exactly while there is a grant (R105, R129); every station OFFLINE outside RUN (R187). -/
def CellInvariant (s : State) : Prop :=
  (∀ st : Fin 6, ContextByState (s.station st) ∧ EjectionByState (s.station st) ∧
    (st ∈ s.arbiter.queue ↔ (s.station st).state = .calling) ∧
    (s.weigher.granted = some st ↔ (s.station st).state = .charging) ∧
    (s.mode ≠ .run → (s.station st).state = .offline)) ∧
  s.arbiter.queue.Nodup ∧ s.arbiter.granted = s.weigher.granted ∧
  (s.weigher.granted ≠ none ↔ s.weigher.state = .armed ∨ s.weigher.state = .settling ∨ s.weigher.state = .stable)

/-- A recipe's counts are in the ranges its write checks (R98, R121). -/
def CountsFit (r : Recipe) : Prop := 1 ≤ r.minPieces ∧ r.minPieces ≤ r.pieceLimit ∧ r.pieceLimit ≤ 8 ∧ r.retryLimit ≤ 3

/-- The counts of a context, which bound its PART record to 168 bytes (R76, R109, R134, R143, R152). -/
def ContextFits (c : Context) : Prop :=
  CountsFit c.snapshot ∧ c.pieces.length ≤ 8 ∧ c.faults.length ≤ 16 ∧ c.eject.attempts.length ≤ c.eject.number ∧
  c.eject.number ≤ c.snapshot.retryLimit + 1 ∧
  (c.eject.sub = .extending → c.eject.attempts.length < c.eject.number) ∧
  (c.eject.sub = .dwelling → c.eject.number < c.snapshot.retryLimit + 1) ∧
  (c.eject.sub = .waitOpen → c.eject.attempts = [])

/-- A record in transmission that was not cut is the one at the auto-send position: for a READ the cursor stands on it, for an auto-send
above it (R158, R159, R162). -/
def SenderFits (x : Store) : Prop :=
  ∀ y, x.sender = some y → y.cut = false → y.seq = x.autoPos ∧
    (y.origin = .read → x.autoPos = x.cursor ∧ x.cursor ≠ x.next) ∧ (y.origin = .auto → x.autoPos ≠ x.cursor)

/-- The store's invariant: held bytes are those of the records (R149), and with the reservations they fit the ring (R151); no reservation
under OVERWRITE, and one for each context under HOLD (R128, R155); records of 16 to 168 bytes (R150, R152); oldest, auto-send position,
cursor and next in that order, next the number after the newest record (R150); and the counts that bound the next record. -/
def StoreInvariant (s : State) : Prop :=
  s.store.held = (s.store.ring.map List.length).sum ∧
  s.store.held + 168 * s.store.reservations ≤ 16384 ∧
  (s.store.settings.policy = .overwrite → s.store.reservations = 0) ∧
  (s.store.settings.policy = .hold →
    s.store.reservations = ((List.finRange 6).filter fun st => ((s.station st).ctx).isSome).length) ∧
  (∀ r ∈ s.store.ring, 16 ≤ r.length ∧ r.length ≤ 168) ∧
  s.store.next = s.store.oldest + BitVec.ofNat 32 s.store.ring.length ∧
  (s.store.cursor - s.store.oldest).toNat ≤ s.store.ring.length ∧
  (s.store.autoPos - s.store.oldest).toNat ≤ (s.store.cursor - s.store.oldest).toNat ∧
  SenderFits s.store ∧
  (∀ n : Fin 16, CountsFit s.recipes[n]) ∧
  ∀ (st : Fin 6) (c : Context), (s.station st).ctx = some c →
    ContextFits c ∧ (c.reservation = .held ↔ s.store.settings.policy = .hold) ∧
    (s.weigher.granted = some st → s.weigher.pieces.length < c.snapshot.pieceLimit)

/-- A byte of a payload, 0 beyond its end. -/
def byteAt (p : List Byte) (k : Nat) : Nat := (p.getD k 0).toNat

/-- `n` bytes of a record from an offset on (R193). -/
def bytesAt (r : List Byte) (o n : Nat) : List Byte := (r.drop o).take n

/-- `s` with a PERMIT of this permission in the slot of a station that has a PRESS entry (R25). -/
def withPermit (s : State) (st : Fin 6) (q : Permission) : State :=
  (s.nodeOf .press st.val).elim s fun a =>
    { s with port := { s.port with
        slate := s.port.slate.set (permitSlot st) (some { dest := a, kind := 4, seq := none, payload := put8 q.code }) } }

/-- The ejection fields at a fresh start of an opening (R134, R135). -/
def freshOpening (now : Time) (r : Recipe) : Ejection :=
  { sub := .waitOpen, number := 0, limit := 0, peak := 0, outcome := .none, openTimer := .running now r.openTimeout,
    attemptTimer := .stopped, attempts := [], demouldEnd := none }

/-- The station, otherwise `x` with context `c`, enters OPENING from a state of another permission and source kind: the fresh start, the
PERMIT OPEN and the OPEN targets (R25, R36, R135). -/
def opened (s : State) (st : Fin 6) (x : Station) (c : Context) : State :=
  withPermit (resolved s st { x with state := .opening, ctx := some { c with eject := freshOpening s.now c.snapshot } }) st .openPress

/-- `s` with an EJECT-COMMAND of this command in the slot of a station that has an EJECTOR entry (R146). -/
def withEject (s : State) (st : Fin 6) (w : EjectCmd) : State :=
  (s.nodeOf .ejector st.val).elim s fun a =>
    { s with port := { s.port with
        slate := s.port.slate.set (ejectSlot st) (some { dest := a, kind := 6, seq := none, payload := put8 w.code ++ put16 w.limit }) } }

/-- `s` with this ejector command wanted; a change places an EJECT-COMMAND (R146). -/
def wantingEject (s : State) (st : Fin 6) (w : EjectCmd) : State :=
  let x := s.station st
  if x.demould.wanted = w then s else withEject (withStation s st { x with demould := { x.demould with wanted := w } }) st w

/-- The part once an EJECT-SAMPLE's items are noted and its echo is compared (R133, R146). -/
def ejectNoted (s : State) (st : Fin 6) (m : EjectSample) : State :=
  let x := s.station st
  let y := withStation s st { x with demould := { x.demould with
    echoed := some m.echo, position := some m.position, force := some m.force } }
  if m.echo = x.demould.wanted then y else withEject y st x.demould.wanted

/-- The part once a PRESS-SAMPLE's flags and echo are noted and its echo is compared (R1, R25). -/
def noted (s : State) (st : Fin 6) (m : PressSample) : State :=
  let y := withStation s st { s.station st with pressAuto := m.auto, pressStop := m.stop, echoedPermission := m.echo }
  if m.echo = (s.station st).state.permission then y else withPermit y st (s.station st).state.permission

/-- The frame in which a frame of the part's own goes out (R169). -/
def Originates (s : State) (f : OutFrame) (g : Frame) : Prop :=
  g.dest = f.dest ∧ g.src = s.nodeAddress.getD 0 ∧ g.kind = f.kind ∧ g.hops = 32 ∧ g.seq = f.seq.getD s.port.seqCounter ∧
  g.length = BitVec.ofNat 8 f.payload.length ∧ g.payload = f.payload ∧ g.check = checkWord g

/-- The command frame waits in its slot of the slate, or ring-out, free before, has taken it (R175, R176). -/
def PlacedOrSent (s t : State) (i : Fin 19) (f : OutFrame) : Prop :=
  t.port.slate[i] = some f ∨ s.port.sending = none ∧ ∃ g, t.port.sending = some g ∧ Originates s f g

/-- What stops in a context when a station goes to HOLD or LATCHED, by the state it leaves (R16, R18, R94, R147). -/
def WorkStopped (s t : State) (st : Fin 6) (c d : Context) : Prop :=
  let x := s.station st
  (x.state = .loading → d.loadTimer = .stopped) ∧
  (x.state = .curing → d.cure = { c.cure with stop := some s.now, wallMin := .stopped, wallMax := .stopped }) ∧
  (x.state = .opening ∨ x.state = .ejecting → (t.station st).demould.wanted = .retract ∧
    d.eject = { c.eject with sub := .none, outcome := .none, openTimer := .stopped, attemptTimer := .stopped } ∧
    (x.demould.wanted ≠ .retract → ∀ a, s.nodeOf .ejector st.val = some a →
      PlacedOrSent s t (ejectSlot st) { dest := a, kind := 6, seq := none, payload := put8 0 ++ put16 0 }))

/-- What every entry to HOLD or LATCHED from another source kind brings about (R16, R18): the HOLD targets, a PERMIT NONE where CLOSE or
OPEN was wanted, and STATION_STATE. -/
def HoldEntered (s t : State) (st : Fin 6) (new : StationState) (cause : Cause) : Prop :=
  let x := s.station st
  (t.station st).state = new ∧ (t.station st).cause = cause ∧
  (t.station st).groups = ((resolved s st { x with state := new }).station st).groups ∧
  (x.state.permission ≠ .none → ∀ a, s.nodeOf .press st.val = some a →
    PlacedOrSent s t (permitSlot st) { dest := a, kind := 4, seq := none, payload := put8 0 }) ∧
  Told s t .stationState st (put8 new.code ++ put8 cause.code ++ putTime x.cycleNumber)

/-- From `s` to `t` the station went to HOLD with this cause (R16): the hold timer runs, run-enable stays, and where there is a context
the hold is counted, its work stops, the aborted mark is set and the cause written. -/
def Held (s t : State) (st : Fin 6) (cause : Cause) : Prop :=
  HoldEntered s t st .hold cause ∧
  (t.station st).holdTimer = .running s.now (s.station st).settings.holdTime ∧
  (t.station st).runEnable = (s.station st).runEnable ∧
  (s.ctx? st = none → t.ctx? st = none) ∧
  ∀ c, s.ctx? st = some c → (t.station st).holdCount = (s.station st).holdCount + 1 ∧
    ∃ d, t.ctx? st = some d ∧ d.aborted = true ∧ d.lastCause = cause ∧ d.cycle = c.cycle ∧ d.snapshot = c.snapshot ∧
      d.eject.attempts = c.eject.attempts ∧ WorkStopped s t st c d

/-- From `s` to `t` the station was latched with HOLD_REPEAT (R16, R18; log entry 32 for a count of 3). -/
def HeldOut (s t : State) (st : Fin 6) : Prop :=
  HoldEntered s t st .latched .holdRepeat ∧ (t.station st).holdCount = 3 ∧
  (t.station st).runEnable = false ∧ (t.station st).holdTimer = .stopped ∧
  ∀ c, s.ctx? st = some c → ∃ d, t.ctx? st = some d ∧ d.aborted = true ∧ d.lastCause = .holdRepeat ∧ d.cycle = c.cycle ∧
    WorkStopped s t st c d

/-- `s` with a GATE-COMMAND of this gate in its slot, when there is a WEIGHER entry (R104). -/
def withGate (s : State) (g : Gate) : State :=
  (s.nodeOf .weigher 255).elim s fun a =>
    { s with port := { s.port with
        slate := s.port.slate.set gateSlot (some { dest := a, kind := 8, seq := none, payload := put8 g.code ++ put8 g.stationCode }) } }

/-- The part once the gate echo of a WEIGH-SAMPLE is compared (R104). -/
def gateChecked (s : State) (m : WeighSample) : State :=
  if m.gate = s.weigher.wantedGate then s else withGate s s.weigher.wantedGate

/-- The gross of a sample (R101). -/
def gross (x : WeigherSettings) (m : WeighSample) : Int := ((m.raw - x.zero) * x.span).fdiv 65536

/-- The weigher with a new sample's items written (R100, R101). -/
def sampled (w : Weigher) (m : WeighSample) (now : Time) : Weigher :=
  { w with
    lastCounter := some m.counter, lastTime := some now, lastStatus := m.status, lastGate := m.gate,
    lastGross := if m.status = .ok then some (gross w.settings m) else w.lastGross,
    lastNet := if m.status = .ok then some (gross w.settings m - w.tare) else w.lastNet }

/-- The weigher with a net fed to its window and its presence (R102, R103). -/
def fed (w : Weigher) (net : Int) : Weigher :=
  { w with
    window := w.window.drop (w.window.length - 7) ++ [net],
    presence := if w.settings.presenceOn ≤ net then .present else if net < w.settings.presenceOff then .absent else w.presence }

/-- The window is stable at this value (R103). -/
def StableAt (w : Weigher) (v : Int) : Prop :=
  w.window.length = 8 ∧ v = w.window.sum.fdiv 8 ∧ ∀ a ∈ w.window, ∀ b ∈ w.window, a - b ≤ w.settings.band

/-- The context of a charging station with SLOW_SAMPLES set when the sample came late (R111). -/
def slowed (s : State) (c : Context) : Context :=
  { c with slowSamples := c.slowSamples ||
      s.weigher.lastTime.any fun t => decide (2 * s.weigher.settings.sampleInterval < (s.now - t).toNat) }

/-- From `s` to `t` the weigh of a station ended in a reject (R113): the record is the newest of the store, the context is gone, the station
calls at the head of the queue, and the weigher has no grant, no timer of the weigh and DIVERT wanted. -/
def Rejected (s t : State) (st : Fin 6) (c : Context) (reason : RejectReason) (total : Int) (pieces : List Int) (time : Time) : Prop :=
  (t.station st).state = .calling ∧ t.ctx? st = none ∧ (t.station st).holdCount = 0 ∧
  t.arbiter.queue = st :: s.arbiter.queue ∧ t.arbiter.granted = none ∧ t.weigher.granted = none ∧ t.weigher.wantedGate = .divert ∧
  t.weigher.pieceWait = .stopped ∧ t.weigher.settle = .stopped ∧ t.weigher.tare = s.weigher.tare ∧
  t.store.next = s.store.next + 1 ∧ t.store.ring.getLast? = some (rejectRecord st c reason total pieces time) ∧
  Told s t .chargeReject st (put8 reason.code ++ putTime c.cycle ++ putS32 total ++ put8 pieces.length)

/-- From `s` to `t` the station ended the weigh of its own cycle (R114, R129): the REJECT record with reason ABORTED is the newest of the
store, the context is gone, the weigher clears to DIVERT without a grant, and CHARGE_REJECT is raised. -/
def WeighAborted (s t : State) (st : Fin 6) (c : Context) : Prop :=
  t.ctx? st = none ∧ (t.station st).holdCount = 0 ∧ t.arbiter.granted = none ∧ t.arbiter.queue = s.arbiter.queue ∧
  t.weigher = { s.weigher with
    state := .clearing, absentRun := 0, clear := .running s.now s.weigher.settings.clearTimeout, wantedGate := .divert, granted := none,
    pieceWait := .stopped, settle := .stopped } ∧
  t.store.next = s.store.next + 1 ∧
  t.store.ring.getLast? = some (rejectRecord st c .aborted s.weigher.vPrev s.weigher.pieces s.now) ∧
  Told s t .chargeReject st
    (put8 RejectReason.aborted.code ++ putTime c.cycle ++ putS32 s.weigher.vPrev ++ put8 s.weigher.pieces.length)

/-- The context a cycle ends with (R14, R143): the demould end, sub-state NONE, and the latch cause, where there is one, as last cause. -/
def ending (c : Context) (cause : Cause) (time : Time) : Context :=
  { c with eject := { c.eject with demouldEnd := some time, sub := .none }, lastCause := if cause = .none then c.lastCause else cause }

/-- From `s` to `t` the cycle of a station ended after its accept (R7, R14): the PART record is the newest of the store, the context is
gone, and PART_DONE carries the cycle number and the outcome. -/
def CycleEnded (s t : State) (st : Fin 6) (c : Context) (e : Ending) : Prop :=
  t.ctx? st = none ∧ (t.station st).holdCount = 0 ∧ t.store.next = s.store.next + 1 ∧
  t.store.ring.getLast? = some (partRecord st c e) ∧
  Told s t .partDone st (putTime c.cycle ++ put8 (partOutcome c e).code)

/-- From `s` to `t` a cycle that ended latched its station (R14, R18). A station that the call queue does not hold is given, as the
queue holds CALLING stations alone (R123). -/
def CycleLatched (s t : State) (st : Fin 6) (cause : Cause) : Prop :=
  (t.station st).state = .latched ∧ (t.station st).cause = cause ∧ (t.station st).runEnable = false ∧
  (t.station st).holdTimer = .stopped ∧
  (st ∉ s.arbiter.queue →
    Told s t .stationState st (put8 10 ++ put8 cause.code ++ putTime (s.station st).cycleNumber))

/-- R35: target, feed-forward, ramp length and step index of a source kind in a profile; the step index is 0 for a fixed setpoint and the
last of the list for an index beyond it (log entry 14). -/
def TargetIn (p : Profile) (k : SourceKind) (idx temp ff len step : Nat) : Prop :=
  match k with
  | .none => False
  | .idle => temp = p.idle.temp ∧ ff = p.idle.ff ∧ len = p.defaultLen ∧ step = 0
  | .park => temp = p.park.temp ∧ ff = p.park.ff ∧ len = p.defaultLen ∧ step = 0
  | .hold => temp = p.hold.temp ∧ ff = p.hold.ff ∧ len = p.defaultLen ∧ step = 0
  | .opening => temp = p.opening.temp ∧ ff = p.opening.ff ∧ len = p.defaultLen ∧ step = 0
  | .step => step = min idx (p.steps.length - 1) ∧ ∃ q, p.steps[step]? = some q ∧ temp = q.temp ∧ ff = q.ff ∧ len = q.len

/-- R37: a group that takes a resolved target; one that waits for its seed takes target and length whatever they are (log entry 13). -/
def retargeted (x : Group) (k : SourceKind) (n : Fin 16) (temp ff len step : Nat) : Group :=
  let y : Group := { x with source := k, profile := some n, step := step, ff := ff }
  if x.seeded = false then { y with target := temp, len := len }
  else if temp = x.target then y
  else { y with target := temp, s0 := x.sg, k := 0, len := len, sg := if len = 0 then temp else x.sg }

/-- The recipe a station's profiles are found in (R34). -/
def RecipeInUse (s : State) (st : Fin 6) (r : Recipe) : Prop :=
  (∃ c, s.ctx? st = some c ∧ r = c.snapshot) ∨
  s.ctx? st = none ∧ (s.recipes[(s.station st).boundRecipe]).present = true ∧ r = s.recipes[(s.station st).boundRecipe]

/-- The claimant of ring-out after another, in the rotation FORWARD, SLATE, REPORT (R175). -/
def ringAfter : RingClaimant → RingClaimant
  | .forward => .slate
  | .slate => .report
  | .report => .forward

/-- The store of a claimant of ring-out holds a frame. -/
def RingHolds (p : Port) : RingClaimant → Prop
  | .forward => p.forward ≠ []
  | .slate => ∃ i : Fin 19, p.slate[i] ≠ none
  | .report => p.report ≠ []

/-- The claimant ring-out serves (R175): FORWARD when its buffer holds 3 or 4 frames, else the first that holds a frame in rotation. -/
def RingTurn (p : Port) (c : RingClaimant) : Prop :=
  RingHolds p c ∧ (3 ≤ p.forward.length → c = .forward) ∧
  (p.forward.length < 3 →
    (c = ringAfter (ringAfter p.lastRing) → ¬RingHolds p (ringAfter p.lastRing)) ∧
    (c = p.lastRing → ¬RingHolds p (ringAfter p.lastRing) ∧ ¬RingHolds p (ringAfter (ringAfter p.lastRing))))

/-- `s` with this gate wanted; a change places a GATE-COMMAND (R104). -/
def wanting (s : State) (g : Gate) : State :=
  if s.weigher.wantedGate = g then s else withGate { s with weigher := { s.weigher with wantedGate := g } } g

/-- From `s` to `t` a HOLD cause that the state of the station takes reached it (R15, R16): HOLD, or LATCHED with HOLD_REPEAT from the
third hold of a cycle on; a CALLING station leaves the queue, a CHARGING one ends its charge; in HOLD another cause replaces the old one
and restarts the timer, and the same cause changes nothing. A charge under way is one of a weigher that is not IDLE (R105). -/
def CauseTaken (s t : State) (st : Fin 6) (cause : Cause) : Prop :=
  let x := s.station st
  (x.state = .warming ∨ x.state = .ready ∨ x.state = .parked → x.ctx = none → Held s t st cause) ∧
  (x.state = .calling → x.ctx = none → Held s t st cause ∧ st ∉ t.arbiter.queue ∧
    (s.weigher.state ≠ .idle → t.arbiter.queue = s.arbiter.queue.filter (· ≠ st))) ∧
  (∀ c, x.state = .charging → s.ctx? st = some c → s.weigher.granted = some st → s.weigher.state ≠ .idle → x.holdCount < 2 →
    WeighAborted s t st c ∧ (t.station st).state = .hold ∧ (t.station st).cause = cause ∧
      (t.station st).holdTimer = .running s.now x.settings.holdTime ∧ (t.station st).runEnable = x.runEnable ∧
      Told s t .stationState st (put8 9 ++ put8 cause.code ++ putTime x.cycleNumber)) ∧
  (∀ c, x.state = .loading ∨ x.state = .curing ∨ x.state = .opening ∨ x.state = .ejecting → s.ctx? st = some c →
    (x.holdCount < 2 → Held s t st cause) ∧ (2 ≤ x.holdCount → HeldOut s t st)) ∧
  (x.state = .hold → (t.station st).state = .hold ∧ (t.station st).cause = cause ∧
    (x.cause = cause → (t.station st).holdTimer = x.holdTimer ∧ t.ctx? st = s.ctx? st) ∧
    (x.cause ≠ cause → (t.station st).holdTimer = .running s.now x.settings.holdTime ∧
      t.ctx? st = ((s.ctx? st).map fun c => { c with lastCause := cause }) ∧
      Told s t .stationState st (put8 9 ++ put8 cause.code ++ putTime x.cycleNumber)))

end Sys2Proof.Claim

open Sys2Proof Sys2Proof.Machine Sys2Proof.Claim

/-! ### The queue, the step, reset -/

/-- A step with a command at the front of the queue is that command's meaning on the queue's rest. -/
def Obligations.StepRunsFrontCommand : Prop :=
  ∀ (c : Instr) (rest : List Instr) (s : State),
    step { s with pending := c :: rest } = exec c { s with pending := rest }

/-- An empty queue: the own steps that are due join it, and with none due a millisecond passes and nothing else changes. The model's
choice (log entry 2); the time base is that of R185. -/
def Obligations.EmptyQueueIdles : Prop :=
  ∀ s : State, s.pending = [] →
    (s.ownSteps = [] → step s = .next { s with now := s.now + 1 }) ∧
    (s.ownSteps ≠ [] → step s = .next { s with pending := s.ownSteps })

/-- Every command answers a next state, with no fault and no refusal, and leaves the queue as it was. -/
def Obligations.EveryCommandAnswersNext : Prop :=
  ∀ (i : Instr) (s : State), ∃ t, exec i s = .next t ∧ t.pending = s.pending

/-- POWER_ON_RESET with any straps: every piece of state takes its power-on value, the figures of R184 spelled out; the waiting commands
are kept (log entry 21). The values no rule gives are those of log entries 12 and 26. -/
def Obligations.PowerOnResetSetsAll : Prop :=
  ∀ (k : BitVec 6) (s : State), ∃ t, exec (.powerOnReset k) s = .next t ∧
    t = { State.powerOn k with pending := s.pending } ∧
    t.mode = (if k = 0 then .isolated else .config) ∧
    t.nodeAddress = (if k = 0 then none else some (k.setWidth 8)) ∧
    t.now = 0 ∧ t.port.lineErrors = 0 ∧ t.port.sending = none ∧ t.port.buffer = .empty ∧
    (∀ i : Fin 32, (t.port.routes[i]).present = false ∧ t.port.silence[i] = .stopped) ∧
    (∀ i : Fin 16, (t.recipes[i]).present = false ∧ (t.recipes[i]).revision = 0) ∧
    (∀ (x : Fin 4) (j : Fin 32), (t.rates[x])[j] = 0) ∧
    (∀ st : Fin 6, (t.station st).state = .offline ∧ (t.station st).cycleNumber = 0 ∧ (t.station st).ctx = none ∧
      ∀ z : Fin 16, ((t.station st).zones[z]).entry.present = false) ∧
    t.store.ring = [] ∧ t.store.oldest = 0 ∧ t.store.next = 0 ∧ t.store.cursor = 0 ∧
    t.store.settings = { policy := .overwrite, backlog := 1, lowWater := 0, autoSend := false } ∧
    (∀ j : Fin 11, t.port.mask[j] = true) ∧ t.weigher.state = .idle ∧ t.weigher.tare = 0 ∧ t.arbiter.queue = []

/-- The three invariants hold right after reset. -/
def Obligations.InvariantsAtReset : Prop :=
  LineInvariant State.reset ∧ CellInvariant State.reset ∧ StoreInvariant State.reset

/-- Every step keeps the line invariant. -/
def Obligations.LineInvariantKept : Prop :=
  ∀ s t : State, LineInvariant s → step s = .next t → LineInvariant t

/-- Every step keeps the cell's invariant: the contexts of R3, the call queue and the grant of R123, the weigh that goes with the grant,
the sub-states of R134, and OFFLINE outside RUN. -/
def Obligations.CellInvariantKept : Prop :=
  ∀ s t : State, CellInvariant s → step s = .next t → CellInvariant t

/-- Every step keeps the store's invariant, in states that meet the cell's: held bytes and reservations within the ring (R151), the
reservations those of the contexts (R128, R155), record sizes (R152), and the order of the store's positions (R150). -/
def Obligations.StoreInvariantKept : Prop :=
  ∀ s t : State, CellInvariant s → StoreInvariant s → step s = .next t → StoreInvariant t

/-! ### Requests on the wire -/

/-- The body that spells a well-formed request reads as that request: no field of any request kind is dropped. The widths of the fields
are those of R190 and of log entry 8, the lengths of unknown commands those of log entry 25. -/
def Obligations.RequestBodiesReadBack : Prop :=
  ∀ r : Request, r.wf = true → parseRequest (encodeRequest r) = r

/-- A typed request command does what RING_IN_FRAME does with the frame that carries its request (log entry 7). -/
def Obligations.TypedRequestIsItsFrame : Prop :=
  ∀ (i : Instr) (h : ReqHeader) (r : Request) (s : State), i.request? = some (h, r) → i.wf = true →
    exec i s = exec (.ringInFrame (requestFrame h r)) s

/-- A request that arrives while the buffer is occupied is discarded, and one from a node that is not the present MASTER entry's is
answered NOT_MASTER and not served (R178). Both at a part the request is addressed to, for every request command. -/
def Obligations.BusyAndForeignRequests : Prop :=
  ∀ (i : Instr) (h : ReqHeader) (r : Request) (s : State), i.request? = some (h, r) → s.mode ≠ .isolated →
    s.nodeAddress = some h.dest → h.src ≠ h.dest → h.hops ≠ 0 →
    (s.port.buffer ≠ .empty → exec i s = .next s.beginSend) ∧
    (∀ e : Fin 32, s.port.buffer = .empty → s.findEntry .master 255 = some e →
      BitVec.ofNat 8 (s.port.routes[e]).address ≠ h.src → Answers i s h (requestKind r) s .notMaster [])

/-! ### Taking frames in (R170, R171) -/

/-- Frames that reach no block. A sample command does what RING_IN_FRAME does with its frame. Step 1: a frame with a wrong check word or a
wrong length is dropped, and the line-error count rises by one, saturating. Steps 2 and 3, and the repeater of ISOLATED: a good frame of
the part's own, or with hops 0, changes nothing but ring-out's turn; in ISOLATED every good frame with hops left is forwarded. Steps 5 to 8:
a sample whose source is no present entry of its role, a command frame to no owned node, a request to another node, and a frame of any other
kind are removed when addressed to the part, and forwarded otherwise. A request to the part that is malformed is answered BAD_CONTENT
(R179), under its own kind byte, or 0 for an empty payload (log entry 25), after the tests of R178: the buffer occupied, and the node that
is not the MASTER's. Forwarding: hops one less, the check word afresh, the other fields as received, at the newest end; a full buffer drops
the frame (R171). -/
def Obligations.FramesTurnedAway : Prop :=
  (∀ (f : SampleFrame) (s : State),
    exec (.heatSample f) s = exec (.ringInFrame (f.frame 1)) s ∧ exec (.pressSample f) s = exec (.ringInFrame (f.frame 3)) s ∧
    exec (.ejectSample f) s = exec (.ringInFrame (f.frame 5)) s ∧ exec (.weighSample f) s = exec (.ringInFrame (f.frame 7)) s) ∧
  (∀ (f : Frame) (s : State), (f.check ≠ checkWord f ∨ 120 < f.length.toNat ∨ f.length.toNat ≠ f.payload.length) →
    exec (.ringInFrame f) s =
      .next (State.beginSend { s with port := { s.port with lineErrors := min 65535 (s.port.lineErrors + 1) } })) ∧
  (∀ (f : Frame) (s : State), f.check = checkWord f → f.length.toNat = f.payload.length → f.payload.length ≤ 120 →
    (∀ own, s.mode ≠ .isolated → s.nodeAddress = some own → f.src = own ∨ f.hops = 0 →
      exec (.ringInFrame f) s = .next s.beginSend) ∧
    (s.mode = .isolated → f.hops = 0 → exec (.ringInFrame f) s = .next s.beginSend) ∧
    (s.mode = .isolated → f.hops ≠ 0 → exec (.ringInFrame f) s = .next (s.forward f).beginSend)) ∧
  (∀ (f : Frame) (own : Byte) (s : State), Arrives s f own →
    let sentBy (role : Nat) : Prop := ∃ i : Fin 32, (s.port.routes[i]).present = true ∧ (s.port.routes[i]).role = role ∧
      (s.port.routes[i]).address = f.src.toNat
    let owned (i : Fin 32) : Prop := (s.port.routes[i]).present = true ∧
      ((s.port.routes[i]).role = 1 ∨ (s.port.routes[i]).role = 2 ∨ (s.port.routes[i]).role = 3 ∨ (s.port.routes[i]).role = 4)
    let command : Prop := f.kind = 2 ∨ f.kind = 4 ∨ f.kind = 6 ∨ f.kind = 8
    (f.kind = 0 ∨ 10 ≤ f.kind.toNat ∨
        f.kind = 1 ∧ ¬sentBy 0 ∨ f.kind = 3 ∧ ¬sentBy 2 ∨ f.kind = 5 ∧ ¬sentBy 3 ∨ f.kind = 7 ∧ ¬sentBy 4 ∨
        command ∧ f.dest ≠ 255 ∧ (∀ i : Fin 32, ¬(owned i ∧ (s.port.routes[i]).address = f.dest.toNat)) ∨
        command ∧ f.dest = 255 ∧ (∀ i : Fin 32, ¬owned i) ∨
        f.kind = 9 ∧ f.dest ≠ own →
      exec (.ringInFrame f) s = .next (passed s own f).beginSend) ∧
    (f.kind = 9 → f.dest = own → ¬RequestFits f.payload →
      let h : ReqHeader := { dest := f.dest, src := f.src, hops := f.hops, seq := f.seq }
      (s.port.buffer ≠ .empty → exec (.ringInFrame f) s = .next s.beginSend) ∧
      (∀ e : Fin 32, s.port.buffer = .empty → s.findEntry .master 255 = some e →
        BitVec.ofNat 8 (s.port.routes[e]).address ≠ f.src →
        Answers (.ringInFrame f) s h (f.payload.getD 0 0) s .notMaster []) ∧
      (Served s h → Answers (.ringInFrame f) s h (f.payload.getD 0 0) s .badContent []))) ∧
  (∀ (f : Frame) (s : State),
    (s.port.forward.length < 4 →
      ∃ g : Frame, s.forward f = { s with port := { s.port with forward := s.port.forward ++ [g] } } ∧
        g.hops = f.hops - 1 ∧ g.check = checkWord g ∧ g.dest = f.dest ∧ g.src = f.src ∧ g.kind = f.kind ∧ g.seq = f.seq ∧
        g.length = f.length ∧ g.payload = f.payload) ∧
    (4 ≤ s.port.forward.length → s.forward f = s))

/-- Step 4: a command-kind frame to the address of a present owned entry is dropped and FOREIGN_COMMAND raised, for the entry's station,
or for the device when the entry is the WEIGHER; with dest 255 and an owned entry present, for the device. -/
def Obligations.ForeignCommandIsBlocked : Prop :=
  ∀ (f : Frame) (own : Byte) (s : State) (e : Fin 32), Arrives s f own →
    (f.kind = 2 ∨ f.kind = 4 ∨ f.kind = 6 ∨ f.kind = 8) →
    (s.port.routes[e]).present = true →
    ((s.port.routes[e]).role = 1 ∨ (s.port.routes[e]).role = 2 ∨ (s.port.routes[e]).role = 3 ∨ (s.port.routes[e]).role = 4) →
    (∀ j : Fin 32, (s.port.routes[j]).present = true → (s.port.routes[j]).address = f.dest.toNat → j = e) →
    (f.dest = 255 → exec (.ringInFrame f) s = .next (s.raise .foreignCommand none [f.src, f.dest, f.kind]).beginSend) ∧
    (f.dest ≠ 255 → (s.port.routes[e]).address = f.dest.toNat →
      ((s.port.routes[e]).role = 4 →
        exec (.ringInFrame f) s = .next (s.raise .foreignCommand none [f.src, f.dest, f.kind]).beginSend) ∧
      (∀ st : Fin 6, (s.port.routes[e]).role ≠ 4 → (s.port.routes[e]).station = st.val →
        exec (.ringInFrame f) s = .next (s.raise .foreignCommand (some st) [f.src, f.dest, f.kind]).beginSend))

/-- Which sample payloads are wrong (R191, 12.1): a length other than 50, 6, 7 or 8 bytes, a channel status, an echoed permission, an echoed
ejector command, a weigh status or an echoed gate of no table, and an echoed PASS of a station above 5. Such a sample of a known node is
not handed on: the line-error count rises, the silence state stays, and the frame is removed or forwarded (R170 step 5). For each of the
four kinds. -/
def Obligations.WrongSampleIsCounted : Prop :=
  (∀ p : List Byte,
    (parseHeat p = none ↔ p.length ≠ 50 ∨ ∃ i : Fin 16, 4 ≤ byteAt p (2 + 3 * i.val)) ∧
    (parsePress p = none ↔ p.length ≠ 6 ∨ 3 ≤ byteAt p 5) ∧
    (parseEject p = none ↔ p.length ≠ 7 ∨ 2 ≤ byteAt p 4) ∧
    (parseWeigh p = none ↔ p.length ≠ 8 ∨ 3 ≤ byteAt p 5 ∨ 3 ≤ byteAt p 6 ∨ byteAt p 6 = 1 ∧ 6 ≤ byteAt p 7)) ∧
  ∀ (f : SampleFrame) (own : Byte) (s : State) (e : Fin 32),
    let t : State := { s with port := { s.port with lineErrors := min 65535 (s.port.lineErrors + 1) } }
    (Arrives s (f.frame 1) own → s.findSource .heat f.src = some e → parseHeat f.payload = none →
      exec (.heatSample f) s = .next (passed t own (f.frame 1)).beginSend) ∧
    (Arrives s (f.frame 3) own → s.findSource .press f.src = some e → parsePress f.payload = none →
      exec (.pressSample f) s = .next (passed t own (f.frame 3)).beginSend) ∧
    (Arrives s (f.frame 5) own → s.findSource .ejector f.src = some e → parseEject f.payload = none →
      exec (.ejectSample f) s = .next (passed t own (f.frame 5)).beginSend) ∧
    (Arrives s (f.frame 7) own → s.findSource .weigher f.src = some e → parseWeigh f.payload = none →
      exec (.weighSample f) s = .next (passed t own (f.frame 7)).beginSend)

/-- The entry of a sample: the first present one of its role with its source as address (R170). What the bytes of a sample mean (12.1), and
where a good sample goes: it clears SILENT and restarts the timer before its block works on it, and is then removed or forwarded (R170 step
5, R174). The sample commands complete with their block's work on the state that has heard the node. -/
def Obligations.GoodSampleReachesItsBlock : Prop :=
  (∀ (s : State) (r : Role) (src : Byte),
    let names (i : Fin 32) : Prop :=
      (s.port.routes[i]).present = true ∧ (s.port.routes[i]).role = r.code ∧ (s.port.routes[i]).address = src.toNat
    (s.findSource r src = none ↔ ∀ i, ¬names i) ∧ ∀ e, s.findSource r src = some e ↔ names e ∧ ∀ i, i < e → ¬names i) ∧
  (∀ p : List Byte,
    (∀ m, parseHeat p = some m → m.nodeRound.toNat = byteAt p 0 * 256 + byteAt p 1 ∧
      ∀ i : Fin 16, (m.channels[i]).1.code = byteAt p (2 + 3 * i.val) ∧
        (m.channels[i]).2 = byteAt p (3 + 3 * i.val) * 256 + byteAt p (4 + 3 * i.val)) ∧
    (∀ m, parsePress p = some m → m.ram = byteAt p 0 * 256 + byteAt p 1 ∧ m.tonnage = byteAt p 2 * 256 + byteAt p 3 ∧
      m.stop = decide (byteAt p 4 % 2 = 1) ∧ m.auto = decide (byteAt p 4 / 2 % 2 = 1) ∧ m.echo.code = byteAt p 5) ∧
    (∀ m, parseEject p = some m → m.position = byteAt p 0 * 256 + byteAt p 1 ∧ m.force = byteAt p 2 * 256 + byteAt p 3 ∧
      (byteAt p 4 = 0 → m.echo = .retract) ∧ (byteAt p 4 = 1 → m.echo = .extend (byteAt p 5 * 256 + byteAt p 6))) ∧
    (∀ m, parseWeigh p = some m → m.counter.toNat = byteAt p 0 * 256 + byteAt p 1 ∧
      (∀ n, n = byteAt p 2 * 65536 + byteAt p 3 * 256 + byteAt p 4 → m.raw = if n < 8388608 then (n : Int) else (n : Int) - 16777216) ∧
      m.status.code = byteAt p 5 ∧ (byteAt p 6 = 0 → m.gate = .neutral) ∧ (byteAt p 6 = 2 → m.gate = .divert) ∧
      (∀ st : Fin 6, byteAt p 6 = 1 → byteAt p 7 = st.val → m.gate = .pass st))) ∧
  ∀ (f : SampleFrame) (own : Byte) (s : State) (e : Fin 32) (st : Fin 6),
    let heard : State := { s with port := { s.port with silence := s.port.silence.set e (.running s.now) } }
    (∀ m, Arrives s (f.frame 1) own → s.findSource .heat f.src = some e → (s.port.routes[e]).station = st.val →
      parseHeat f.payload = some m →
      exec (.heatSample f) s = .next (passed (heard.heatWork st m) own (f.frame 1)).beginSend) ∧
    (∀ m, Arrives s (f.frame 3) own → s.findSource .press f.src = some e → (s.port.routes[e]).station = st.val →
      parsePress f.payload = some m →
      exec (.pressSample f) s = .next (passed (heard.pressWork st m) own (f.frame 3)).beginSend) ∧
    (∀ m, Arrives s (f.frame 5) own → s.findSource .ejector f.src = some e → (s.port.routes[e]).station = st.val →
      parseEject f.payload = some m →
      exec (.ejectSample f) s = .next (passed (heard.ejectWork st m) own (f.frame 5)).beginSend) ∧
    (∀ m, Arrives s (f.frame 7) own → s.findSource .weigher f.src = some e → parseWeigh f.payload = some m →
      exec (.weighSample f) s = .next (passed (heard.weighWork m) own (f.frame 7)).beginSend)

/-! ### Heat (02, 03, 04) -/

/-- The rounds of the heat engine. A duplicate HEAT-SAMPLE starts none (R45). A new one of an OFFLINE station starts an offline round,
which counts, notes node round and time, and places an all-zero DUTY when the station has a heater node; that DUTY's sixteen values and
sum are the last sent (log entry 15), and nothing else of the part changes: no window is fed, no integral, setpoint, group or fault is
touched (R47, R48). A new one of any other station starts a full round: its arithmetic on the station, the budget-limited count of a curing
cycle, one DUTY with the sixteen duties in the station's slot, then supervisor, cure integrator while the station is CURING, and the
ready test while it is WARMING (R49, R60, R61, R63, R87). -/
def Obligations.HeatSampleRounds : Prop :=
  ∀ (s : State) (st : Fin 6) (m : HeatSample), let x := s.station st
    (x.round.lastNode = some m.nodeRound → s.heatWork st m = s) ∧
    (x.round.lastNode ≠ some m.nodeRound → x.state = .offline →
      let round : RoundState := { x.round with count := x.round.count + 1, lastNode := some m.nodeRound, lastTime := s.now }
      (s.nodeOf .heater st.val = none → s.heatWork st m = withStation s st { x with round := round }) ∧
      (∀ a, s.nodeOf .heater st.val = some a →
        let t := withStation s st { x with
          round := { round with lastSum := 0 }, zones := Vector.ofFn fun i : Fin 16 => { x.zones[i] with dutySent := 0 } }
        s.heatWork st m = { t with port := { t.port with slate := t.port.slate.set (dutySlot st) (some
          { dest := a, kind := 2, seq := none, payload := put16 m.nodeRound.toNat ++ List.replicate 16 0 }) } })) ∧
    (x.round.lastNode ≠ some m.nodeRound → x.state ≠ .offline →
      let ramping : Vector Bool 4 := Vector.ofFn fun g : Fin 4 => (x.groups[g]).seeded && decide ((x.groups[g]).k < (x.groups[g]).len)
      let y := x.fullRound m s.now
      let round := withStation s st { y with
        ctx := if x.state = .curing ∧ y.round.budgetLimited = true then
            x.ctx.map fun c => { c with budgetLimited := min 65535 (c.budgetLimited + 1) }
          else x.ctx }
      let sent : State := (s.nodeOf .heater st.val).elim round fun d =>
        { round with port := { s.port with
            slate := s.port.slate.set (dutySlot st)
              (some { dest := d, kind := 2, seq := none, payload := put16 m.nodeRound.toNat ++ y.duties.flatMap put8 }) } }
      let judged := sent.supervise st x.state ramping
      let cured := if (judged.station st).state = .curing then judged.cureRound st else judged
      s.heatWork st m = if (cured.station st).state = .warming then cured.readyTest st ramping else cured)

/-- A full round's own arithmetic on a station. The round count rises by one, and the phase is the new count modulo 8 (R47); Δt (R46). Each
zone is conditioned, follows its group's setpoint and forms its demand with the budget-limited flag of the round before; Σ is the sum of
the dithered values in the phase, every zone is sent its value after the budget, the round is budget-limited when Σ is above the budget,
and the duties never sum to more than the budget (R59 to R61). Absent, faulted and unread zones are sent 0. Nothing else of the station
changes. -/
def Obligations.FullRoundAccounts : Prop :=
  ∀ (x : Station) (m : HeatSample) (now : Time),
    let y := x.fullRound m now
    let phase := (x.round.count + 1).toNat % 8
    let zone (i : Fin 16) : Zone :=
      ((x.zones[i]).condition (m.channels[i]).1 (m.channels[i]).2).regulate y.groups[(x.zones[i]).entry.group] x.round.budgetLimited
    y = { x with round := y.round, groups := y.groups, zones := y.zones } ∧
    y.round.count = x.round.count + 1 ∧ y.round.lastNode = some m.nodeRound ∧ y.round.lastTime = now ∧ y.round.firstRound = false ∧
    (x.round.firstRound = true → y.round.lastDt = x.settings.roundPeriod) ∧
    (x.round.firstRound = false → y.round.lastDt =
      (limit 1 (2 * x.settings.roundPeriod : Nat) ((now - x.round.lastTime).toNat : Nat)).toNat) ∧
    (∀ g : Fin 4, y.groups[g] = (x.conditionAll m).stepGroup g) ∧
    y.round.lastSigma = ((List.finRange 16).map fun i => (zone i).nOut phase).sum ∧
    (y.round.budgetLimited = true ↔ x.settings.budget < y.round.lastSigma) ∧
    (∀ i : Fin 16, y.zones[i] =
      { zone i with dutySent :=
          if x.settings.budget < y.round.lastSigma then (zone i).nOut phase * x.settings.budget / y.round.lastSigma
          else (zone i).nOut phase }) ∧
    y.duties = (List.finRange 16).map (fun i => (y.zones[i]).dutySent) ∧ y.round.lastSum = y.duties.sum ∧
    y.duties.sum ≤ x.settings.budget ∧
    ∀ i : Fin 16, (y.zones[i]).dutySent ≤ 255 ∧
      (((x.zones[i]).entry.present = false ∨ (x.zones[i]).fault ≠ .none ∨ (y.zones[i]).kind = some .unread) → (y.zones[i]).dutySent = 0)

/-- The ready test of a WARMING station (R9): the ready count is 0 after a round that was a ramping round of a group with a present zone,
faulted ones included (log entry 34), or that leaves a zone in service out of its window, and one higher otherwise; at the ready dwell the
station goes to READY, raises STATION_STATE and looks at its calling condition (R10). -/
def Obligations.ReadyTestRule : Prop :=
  ∀ (s : State) (st : Fin 6) (ramping : Vector Bool 4) (n : Nat), let x := s.station st
    let holdsBack : Prop :=
      (∃ i : Fin 16, (x.zones[i]).entry.present = true ∧ ramping[(x.zones[i]).entry.group] = true) ∨
      ∃ i : Fin 16, (x.zones[i]).entry.present = true ∧ (x.zones[i]).fault = .none ∧ (x.zones[i]).window ≠ .within
    let t := s.readyTest st ramping
    let ready := announced s st { x with readyCount := n, state := .ready }
    x.state = .warming → (holdsBack → n = 0) → (¬holdsBack → n = min 255 (x.readyCount + 1)) →
    (n < x.settings.readyDwell → t = withStation s st { x with readyCount := n }) ∧
    (x.settings.readyDwell ≤ n → (Calls s st → t = joined ready st) ∧ (¬Calls s st → t = ready))

/-- Demand and dither (R57, R58). The demand of a driven zone: the feed-forward and the two terms, each floored on its own, limited to
0..2047. Then n and f, the reversed phase, n_out, and the sum over eight rounds; all zones use one phase, and a zone that is not driven
has no n_out and is sent 0. -/
def Obligations.DemandAndDither : Prop :=
  (∀ (ff kp ki : Nat) (e i : Int),
    let sum := (ff : Int) + ((kp : Int) * e).fdiv 16 + ((ki : Int) * i).fdiv 256
    (sum < 0 → demandOf ff kp ki e i = 0) ∧ (0 ≤ sum → sum ≤ 2047 → (demandOf ff kp ki e i : Int) = sum) ∧
    (2047 < sum → demandOf ff kp ki e i = 2047)) ∧
  (∀ (ff kp ki : Nat) (e i : Int), demandOf ff kp ki e i ≤ 2047) ∧
  (∀ (z : Zone) (g : Group) (lim : Bool) (t : Nat), z.entry.present = true → z.fault = .none → z.kind = some .driven →
    z.tavg = some t →
    (z.regulate g lim).demand = demandOf g.ff z.entry.kp z.entry.ki (z.regulate g lim).err (z.regulate g lim).integral) ∧
  (List.map bitrev [0, 1, 2, 3, 4, 5, 6, 7] = [0, 4, 2, 6, 1, 5, 3, 7]) ∧
  (∀ d p : Nat, d ≤ 2047 → p < 8 →
    dither d p = (if bitrev p < d % 8 ∧ d / 8 < 255 then d / 8 + 1 else d / 8) ∧ dither d p ≤ 255) ∧
  (∀ d : Nat, d ≤ 2040 → ((List.range 8).map (dither d)).sum = d) ∧
  (∀ d p : Nat, 2040 ≤ d → d ≤ 2047 → p < 8 → dither d p = 255) ∧
  (∀ (z : Zone) (p : Nat), z.entry.present = false ∨ z.fault ≠ .none ∨ z.kind ≠ some .driven → z.nOut p = 0) ∧
  (∀ (z : Zone) (p : Nat), z.entry.present = true → z.fault = .none → z.kind = some .driven → z.nOut p = dither z.demand p) ∧
  (∀ (x : Station) (p sigma : Nat) (i : Fin 16),
    ((x.applyBudget p sigma).zones[i]).dutySent = budgeted ((x.zones[i]).nOut p) x.settings.budget sigma ∧
      ((x.zones[i]).nOut p = 0 → ((x.applyBudget p sigma).zones[i]).dutySent = 0))

/-- A zone's part of a full round. Conditioning, feeding and averaging (R50 to R53): T from an OK channel alone; a window fed with T at its
newest end and held to the averaging depth; Tavg the floored average of the window; FAULTED, DRIVEN or UNREAD. An absent zone passes through
no stage, and a faulted one is conditioned for reporting alone; what a round does not form stands (log entry 38). Then setpoint, error,
integral and previous-demand flag of a driven zone (R54, R55, R56, R60). Of an unread zone the setpoint alone is formed, and its integral
and flag stand (R52, R54). -/
def Obligations.ZoneRoundRule : Prop :=
  (∀ (z : Zone) (status : ChannelStatus) (raw : Nat),
    let t := min 4000 ((raw - z.entry.offset) * z.entry.gain / 32768)
    let last : Option Nat := if status = .ok then some t else none
    let window : List Nat :=
      if status = .ok then (z.samples ++ [t]).drop (z.samples.length + 1 - z.entry.depth) else z.samples
    (z.entry.present = false → z.condition status raw = z) ∧
    (z.entry.present = true → z.fault ≠ .none →
      z.condition status raw = { z with lastStatus := status, lastT := last, kind := some .faulted }) ∧
    (z.entry.present = true → z.fault = .none → 1 ≤ z.entry.depth →
      (window ≠ [] → z.condition status raw =
        { z with lastStatus := status, lastT := last, samples := window, tavg := some (window.sum / window.length),
                 kind := some .driven }) ∧
      (window = [] → z.condition status raw =
        { z with lastStatus := status, lastT := last, samples := [], tavg := none, kind := some .unread }) ∧
      (z.samples.length ≤ z.entry.depth → window.length ≤ z.entry.depth))) ∧
  (∀ (z : Zone) (status : ChannelStatus) (raw : Nat), (∀ n ∈ z.samples, n ≤ 4000) → z.entry.present = true → z.fault = .none →
    (∀ n ∈ (z.condition status raw).samples, n ≤ 4000) ∧ ∀ a, (z.condition status raw).tavg = some a → a ≤ 4000) ∧
  (∀ (z : Zone) (g : Group) (lim : Bool) (t : Nat), z.entry.present = true → z.fault = .none → z.kind = some .driven →
    z.tavg = some t →
    let y := z.regulate g lim
    ((y.sz : Int) = max 0 (min 4000 ((g.sg : Int) + z.entry.trim))) ∧
    y.err = (y.sz : Int) - t ∧
    (((z.prevDemand = .high ∧ 0 < y.err) ∨ (z.prevDemand = .low ∧ y.err < 0) ∨ (lim = true ∧ 0 < y.err)) →
      y.integral = z.integral) ∧
    (¬((z.prevDemand = .high ∧ 0 < y.err) ∨ (z.prevDemand = .low ∧ y.err < 0) ∨ (lim = true ∧ 0 < y.err)) →
      y.integral = max (-(z.entry.integralLimit : Int)) (min z.entry.integralLimit (z.integral + y.err))) ∧
    y.prevDemand = (if y.demand = 2047 then .high else if y.demand = 0 then .low else .none) ∧
    y.entry = z.entry ∧ y.samples = z.samples ∧ y.tavg = z.tavg ∧ y.window = z.window ∧ y.fault = z.fault) ∧
  (∀ (z : Zone) (g : Group) (lim : Bool),
    (z.entry.present = false ∨ z.fault ≠ .none → z.regulate g lim = z) ∧
    (z.entry.present = true → z.fault = .none → z.kind = some .unread →
      z.regulate g lim = { z with sz := (max 0 (min 4000 ((g.sg : Int) + z.entry.trim))).toNat }))

/-- The window state after a settled round (R68): the table by state and condition. -/
def Obligations.WindowRule : Prop :=
  ∀ t sz low high : Nat,
    ¬(sz + high + 10 ≤ t ∧ t + low + 10 ≤ sz) ∧
    (sz + high + 10 ≤ t → ∀ w, nextWindow w t sz low high = .high) ∧
    (t + low + 10 ≤ sz → ∀ w, nextWindow w t sz low high = .low) ∧
    (¬sz + high + 10 ≤ t → ¬t + low + 10 ≤ sz →
      nextWindow .within t sz low high = .within ∧
      nextWindow .high t sz low high = (if (t : Int) ≤ sz + high - 10 then .within else .high) ∧
      nextWindow .low t sz low high = (if (sz : Int) - low + 10 ≤ t then .within else .low)) ∧
    (∀ z : Zone, z.entry.present = true → z.fault = .none → z.kind = some .driven → z.tavg = some t → z.sz = sz →
      z.entry.bandLow = low → z.entry.bandHigh = high → (z.judgeWindow false).window = nextWindow z.window t sz low high) ∧
    (∀ z : Zone, (z.judgeWindow true).window = z.window)

/-- Fault detection of a zone in a full round (R71 to R75): the four counters, the heater-open run with its reference, the order in which
the faults are tested, and the fault taken with every counter at 0, the reference left as it stands (log entry 39). A zone that is absent or
holds a fault is passed over. -/
def Obligations.ZoneFaultRule : Prop :=
  ∀ z : Zone,
    (z.entry.present = false ∨ z.fault ≠ .none → z.judgeFault = z) ∧
    (z.entry.present = true → z.fault = .none →
      let reading : Option Nat := if z.kind = some .driven then z.tavg else none
      let opens := if z.lastStatus = .openTc ∨ z.lastStatus = .absent then z.openCount + 1 else 0
      let ranges := if z.lastStatus = .range then z.rangeCount + 1 else 0
      let stuck := if z.dutySent = 0 ∧ reading.any (fun t => z.sz + z.entry.runaway ≤ t) = true then z.stuckCount + 1 else 0
      let full := z.demand = 2047 ∧ reading ≠ none
      ∀ (run ref : Nat) (due : Bool),
        (¬full → run = 0 ∧ ref = z.heaterOpenRef ∧ due = false) →
        (∀ t, full → reading = some t →
          (z.heaterOpenCount = 0 → run = 1 ∧ ref = t ∧ due = false) ∧
          (0 < z.heaterOpenCount → z.heaterOpenCount < 15 → run = z.heaterOpenCount + 1 ∧ ref = z.heaterOpenRef ∧ due = false) ∧
          (15 ≤ z.heaterOpenCount → t < z.heaterOpenRef + 10 → run = z.heaterOpenCount + 1 ∧ ref = z.heaterOpenRef ∧ due = true) ∧
          (15 ≤ z.heaterOpenCount → z.heaterOpenRef + 10 ≤ t → run = 1 ∧ ref = t ∧ due = false)) →
        ∀ f : ZoneFault,
          f = (if 2 ≤ opens then .tcOpen else if 2 ≤ ranges then .tcRange
            else if reading.any (fun t => z.entry.overTemp ≤ t) = true then .overtemp
            else if 8 ≤ stuck then .heaterStuck else if due = true then .heaterOpen else .none) →
          (f = .none → z.judgeFault =
            { z with openCount := opens, rangeCount := ranges, stuckCount := stuck, heaterOpenCount := run, heaterOpenRef := ref }) ∧
          (f ≠ .none → z.judgeFault =
            { z with fault := f, openCount := 0, rangeCount := 0, stuckCount := 0, heaterOpenCount := 0, heaterOpenRef := ref }))

/-- The supervisor's part of a full round on a station (R67): every zone's faults and then its window; the platens' lost flags (R78);
during CURING the excursion count, SUSPECT and the zone-fault list (R70, R76), the zones of one round listed in rising zone number (log
entry 33); ZONE_FAULT with its count and the value fields of the last fault (R77, log entries 16 and 27); and PLATEN_LOST, once, for a
platen newly lost (R18): from CHARGING it ends the weigh, from CALLING the place in the queue, from every other state the work of the
context; a LATCHED station takes the new cause alone (log entry 24). -/
def Obligations.SupervisorRule : Prop :=
  ∀ (s : State) (st : Fin 6) (ramping : Vector Bool 4), let x := s.station st
    let t := s.supervise st x.state ramping
    let faulted (i : Fin 16) : Bool := (x.zones[i]).fault != ((x.zones[i]).judgeFault).fault
    let isLost (p : Fin 2) : Prop := (∃ i : Fin 16, i.val / 8 = p.val ∧ (x.zones[i]).entry.present = true) ∧
      ∀ i : Fin 16, i.val / 8 = p.val → (x.zones[i]).entry.present = true → ((x.zones[i]).judgeFault).fault ≠ .none
    let newlyLost : Prop := ∃ p : Fin 2, isLost p ∧ x.lost[p] = false
    (∀ i : Fin 16, (t.station st).zones[i] = ((x.zones[i]).judgeFault).judgeWindow ramping[(x.zones[i]).entry.group]) ∧
    (∀ p : Fin 2, (t.station st).lost[p] = true ↔ isLost p) ∧
    (¬newlyLost → (t.station st).state = x.state ∧ (t.station st).cause = x.cause ∧ (t.station st).runEnable = x.runEnable) ∧
    (newlyLost → x.state ≠ .offline → (t.station st).state = .latched ∧ (t.station st).cause = .platenLost ∧
      (x.state ≠ .latched → (t.station st).runEnable = false ∧ (t.station st).holdTimer = .stopped) ∧
      (x.state ≠ .charging → Told s t .stationState st (put8 10 ++ put8 7 ++ putTime x.cycleNumber)) ∧
      (x.state = .calling → st ∉ t.arbiter.queue) ∧
      (∀ c, x.state = .charging → s.ctx? st = some c → s.weigher.granted = some st → s.weigher.state ≠ .idle →
        WeighAborted s t st c ∧ Told s t .stationState st (put8 10 ++ put8 7 ++ putTime x.cycleNumber)) ∧
      (∀ c, x.state ≠ .charging → x.state ≠ .latched → s.ctx? st = some c →
        ∃ d, t.ctx? st = some d ∧ d.aborted = true ∧ d.lastCause = .platenLost ∧ WorkStopped s t st c d) ∧
      (x.state ≠ .charging → x.state ≠ .hold → x.state ≠ .latched → HoldEntered s t st .latched .platenLost)) ∧
    (∀ c, x.state = .curing → s.ctx? st = some c → c.faults.length ≤ 16 →
      ∃ d, t.ctx? st = some d ∧ d.cycle = c.cycle ∧ d.pieces = c.pieces ∧
        d.excursions = min 65535 (c.excursions + ((List.finRange 16).filter fun i =>
          (x.zones[i]).entry.present && ((t.station st).zones[i]).fault == .none && ((t.station st).zones[i]).window != .within).length) ∧
        (d.suspect = true ↔ c.suspect = true ∨ c.snapshot.excursionLimit < d.excursions ∨
          ∃ i : Fin 16, faulted i = true ∧ (x.zones[i]).entry.cureRef = true) ∧
        d.faults = (c.faults ++ ((List.finRange 16).filter fun i => faulted i && c.faults.all (·.zone != i)).map fun i =>
          ({ zone := i, fault := ((x.zones[i]).judgeFault).fault, progress := c.cure.progress } : FaultEntry)).take 16) ∧
    (∀ c, x.state ≠ .curing → x.state ≠ .charging → s.ctx? st = some c →
      ∃ d, t.ctx? st = some d ∧ d.excursions = c.excursions ∧ d.suspect = c.suspect ∧ d.faults = c.faults) ∧
    (∀ i : Fin 16, s.port.mask[(1 : Fin 11)] = true → faulted i = true → (∀ j, i < j → faulted j = false) →
      ∃ f, t.port.notices[noticeSlot .zoneFault (some st)] = some f ∧ f.time = s.now ∧
        f.count = min 255 ((s.port.notices[noticeSlot .zoneFault (some st)]).elim 0 (·.count) +
          ((List.finRange 16).filter faulted).length) ∧
        f.values = put8 i.val ++ put8 ((x.zones[i]).judgeFault).fault.code ++
          putOpt 2 put16 (if (x.zones[i]).kind = some .driven then (x.zones[i]).tavg else none) ++ put8 x.state.code ++
          putTime x.cycleNumber ++ putFlag x.ctx.isSome) ∧
    ((∀ i, faulted i = false) → t.port.notices[noticeSlot .zoneFault (some st)] = s.port.notices[noticeSlot .zoneFault (some st)])

/-- The groups of a station. A resolution takes the source kind of the state (R34) and the target, feed-forward and ramp length of the
profile (R35) by R37; without a recipe only the source kind changes, and in OFFLINE nothing does (log entry 20). A change of state
resolves afresh when it changes the source kind (R36). The first round after ONLINE seeds a group (R39, log entry 14), and every other
round takes a ramp step while k is below L, with Sg = S0 + floor((St − S0) × k / L) (R38). -/
def Obligations.GroupRule : Prop :=
  (∀ x : StationState,
    (x = .offline → x.source = .none) ∧
    (x = .warming ∨ x = .ready ∨ x = .calling ∨ x = .charging ∨ x = .loading → x.source = .idle) ∧
    (x = .curing → x.source = .step) ∧ (x = .opening ∨ x = .ejecting → x.source = .opening) ∧
    (x = .hold ∨ x = .latched → x.source = .hold) ∧ (x = .parked → x.source = .park)) ∧
  (∀ (s : State) (st : Fin 6), let x := s.station st
    ∃ groups : Vector Group 4, s.resolveAfresh st = withStation s st { x with groups := groups } ∧
      (x.state = .offline → groups = x.groups) ∧
      ∀ g : Fin 4,
        (x.state ≠ .offline → (∀ r, ¬RecipeInUse s st r) → groups[g] = { x.groups[g] with source := x.state.source }) ∧
        ∀ r temp ff len step, RecipeInUse s st r →
          TargetIn s.profilesLive[(r.profiles[g]).getD ((r.profiles[0]).getD 0)] x.state.source
            (x.ctx.elim 0 fun c => c.cure.steps[g]) temp ff len step →
          groups[g] = retargeted x.groups[g] x.state.source ((r.profiles[g]).getD ((r.profiles[0]).getD 0)) temp ff len step) ∧
  (∀ (s : State) (st : Fin 6) (new : StationState), let y := withStation s st { s.station st with state := new }
    ((s.station st).state.source = new.source ∨ new = .offline → (s.setState st new).station st = y.station st) ∧
    ((s.station st).state.source ≠ new.source → new ≠ .offline →
      (s.setState st new).station st = (y.resolveAfresh st).station st)) ∧
  (∀ g : Group,
    (g.k < g.len → g.rampStep.k = g.k + 1 ∧
      (g.rampStep.sg : Int) = (g.s0 : Int) + (((g.target : Int) - g.s0) * ((g.k : Int) + 1)).fdiv g.len ∧
      (g.k + 1 = g.len → g.rampStep.sg = g.target) ∧
      g.rampStep.s0 = g.s0 ∧ g.rampStep.target = g.target ∧ g.rampStep.len = g.len) ∧
    (g.len ≤ g.k → g.rampStep = g)) ∧
  (∀ (x : Station) (g : Fin 4), let y := x.groups[g]
    let temps : List Nat := (List.finRange 16).filterMap fun i =>
      if (x.zones[i]).entry.present = true ∧ (x.zones[i]).entry.group = g ∧ (x.zones[i]).fault = .none ∧ (x.zones[i]).lastStatus = .ok
      then (x.zones[i]).lastT else none
    (y.seeded = true → x.stepGroup g = y.rampStep) ∧
    ∀ seed, y.seeded = false → seed = (if temps = [] then y.target else temps.sum / temps.length) →
      (y.len = 0 ∨ seed = y.target → x.stepGroup g = { y with s0 := seed, sg := y.target, k := y.len, seeded := true }) ∧
      (y.len ≠ 0 → seed ≠ y.target → x.stepGroup g = { y with s0 := seed, sg := seed, k := 0, seeded := true }))

/-! ### The press cycle (01, 05, 08) -/

/-- A PRESS-SAMPLE with its stop flag clear, by the state of its station. Its flags and echo are noted, and a PERMIT is placed when the echo
differs (R1, R25; log entries 11 and 12). In READY it looks at the calling condition, in CALLING a clear auto flag takes the station out of
the queue (R10). In LOADING the closing sample starts the cure, and with it the wall timers (R12, R86). In CURING the third low tonnage in a
row takes PRESSURE_LOSS (R13). In OPENING the open press starts attempt 1, or holds the station when its ejector is SILENT (R14, R136,
R139). In every other state, and where its test is not met, nothing else changes. A change of the wanted permission places a PERMIT (R25).
-/
def Obligations.PressSampleTests : Prop :=
  (∀ (s : State) (st : Fin 6) (m : PressSample), m.stop = false →
    let x := s.station st
    let n := noted s st m
    let t := s.pressWork st m
    (x.state = .offline ∨ x.state = .warming ∨ x.state = .charging ∨ x.state = .ejecting ∨ x.state = .hold ∨ x.state = .latched ∨
      x.state = .parked → t = n) ∧
    (x.state = .ready →
      (x.runEnable = false ∨ (s.recipes[x.boundRecipe]).present = false ∨ m.auto = false → t = n) ∧
      (x.runEnable = true → (s.recipes[x.boundRecipe]).present = true → m.auto = true → t = joined n st)) ∧
    (x.state = .calling →
      (m.auto = true → t = n) ∧
      (m.auto = false → t = left (announced n st { n.station st with state := .ready }) st)) ∧
    (x.state = .loading →
      (x.settings.closedThreshold < m.ram ∨ m.tonnage < x.settings.minTonnage → t = n) ∧
      ∀ c, s.ctx? st = some c → m.ram ≤ x.settings.closedThreshold → x.settings.minTonnage ≤ m.tonnage →
        (t.station st).state = .curing ∧ ∃ d, t.ctx? st = some d ∧
          d.cure.start = some s.now ∧ d.cure.acc = 0 ∧ d.cure.progress = 0 ∧ d.cure.targetMet = false ∧
          (∀ g : Fin 4, d.cure.steps[g] = 0) ∧
          d.cure.wallMin = (if c.snapshot.wallMin = 0 then .expired else .running s.now c.snapshot.wallMin) ∧
          d.cure.wallMax = .running s.now c.snapshot.wallMax ∧ d.loadTimer = .stopped ∧ d.lowTonnage = 0 ∧
          d.cycle = c.cycle ∧ d.snapshot = c.snapshot ∧ d.pieces = c.pieces ∧ d.netMass = c.netMass) ∧
    (∀ c low, x.state = .curing → s.ctx? st = some c →
      low = (if m.tonnage < x.settings.minTonnage then c.lowTonnage + 1 else 0) →
      (low < 3 → t = withStation n st { n.station st with ctx := some { c with lowTonnage := low } }) ∧
      (3 ≤ low → x.holdCount < 2 → Held s t st .pressureLoss) ∧ (3 ≤ low → 2 ≤ x.holdCount → HeldOut s t st)) ∧
    (∀ c, x.state = .opening → s.ctx? st = some c →
      (c.eject.sub ≠ .waitOpen ∨ m.ram < c.snapshot.openThreshold → t = n) ∧
      (c.eject.sub = .waitOpen → c.snapshot.openThreshold ≤ m.ram → ¬SilentEntry s 3 st.val →
        (t.station st).state = .ejecting ∧ (t.station st).demould.wanted = .extend (attemptLimit x.settings c.snapshot 1) ∧
        ∃ d, t.ctx? st = some d ∧ d.cycle = c.cycle ∧ d.eject = { c.eject with
          sub := .extending, number := 1, limit := attemptLimit x.settings c.snapshot 1, peak := 0, outcome := .none,
          openTimer := .stopped, attemptTimer := .running s.now c.snapshot.attemptTimeout }) ∧
      (c.eject.sub = .waitOpen → c.snapshot.openThreshold ≤ m.ram → SilentEntry s 3 st.val →
        (x.holdCount < 2 → Held s t st .ejectorSilent) ∧ (2 ≤ x.holdCount → HeldOut s t st) ∧
        ∃ d, t.ctx? st = some d ∧ d.eject.sub = .none ∧ d.eject.openTimer = .stopped))) ∧
  (∀ (s : State) (st : Fin 6) (new : StationState),
    ((s.station st).state.permission = new.permission → (s.setState st new).port = s.port) ∧
    ((s.station st).state.permission ≠ new.permission → (s.setState st new).port = (withPermit s st new.permission).port))

/-- The accrual of a round (R88, R89) and the accruing round (R87, R90, R91): a blind round adds nothing and marks the cure; otherwise the
rate of the lowest reference temperature times Δt is added, saturating; the progress follows; a group goes to the highest step of its live
profile whose threshold the progress has reached, never back, and is resolved when it advances; and the cure ends in the round that finds
the target reached and the wall minimum passed. -/
def Obligations.CureAccrual : Prop :=
  (∀ (c : Cure) (rates : Vector (Vector Nat 32) 4) (r : Recipe) (dt tref : Nat), c.acc ≤ 4294967295 →
    c.accrue rates r dt none = { c with blind := true, lastTref := 0, lastRate := 0, lastBlind := true } ∧
    (tref < r.baseTemp → c.accrue rates r dt (some tref) = { c with lastTref := tref, lastRate := 0, lastBlind := false }) ∧
    (r.baseTemp ≤ tref → ∃ j : Fin 32, j.val = min 31 ((tref - r.baseTemp) / 50) ∧
      c.accrue rates r dt (some tref) =
        { c with acc := min 4294967295 (c.acc + (rates[r.rateTable])[j] * dt), lastTref := tref,
                 lastRate := (rates[r.rateTable])[j], lastBlind := false })) ∧
  (∀ x : Station, x.referenceTemps = (List.finRange 16).filterMap fun i =>
    if (x.zones[i]).entry.present = true ∧ (x.zones[i]).entry.cureRef = true ∧ (x.zones[i]).fault = .none ∧
        (x.zones[i]).kind = some .driven then (x.zones[i]).tavg else none) ∧
  (∀ (s : State) (st : Fin 6) (c : Context) (e : Nat) (b : Time), s.ctx? st = some c → c.cure.target = some e →
    c.cure.start = some b → (s.station st).state = .curing →
    let a := c.cure.accrue s.rates c.snapshot (s.station st).round.lastDt (s.station st).referenceTemps.min?
    let t := s.cureRound st
    ∃ d, t.ctx? st = some d ∧ d.cure.acc = a.acc ∧ d.cure.progress = min 256 (a.acc / e) ∧ d.cure.blind = a.blind ∧
      (d.cure.targetMet = true ↔ c.cure.targetMet = true ∨ e * 256 ≤ a.acc) ∧
      (∀ g : Fin 4, let y := (s.station st).groups[g]
        c.cure.steps[g] ≤ d.cure.steps[g] ∧
        (y.profile = none → d.cure.steps[g] = c.cure.steps[g]) ∧
        (∀ (n : Fin 16) (h : Nat) (q : CureStep), y.profile = some n → (s.profilesLive[n]).steps[h]? = some q →
          q.threshold ≤ d.cure.progress →
          (∀ j r, h < j → (s.profilesLive[n]).steps[j]? = some r → d.cure.progress < r.threshold) →
          d.cure.steps[g] = max c.cure.steps[g] h) ∧
        ((t.station st).state = .curing → (t.station st).groups[g] =
          if c.cure.steps[g] < d.cure.steps[g] then y.resolve s.profilesLive (some c.snapshot) .step d.cure.steps[g] g else y)) ∧
      (e * 256 ≤ a.acc → c.snapshot.wallMin ≤ (s.now - b).toNat →
        (t.station st).state = .opening ∧ d.cure.stop = some s.now ∧ d.eject.sub = .waitOpen) ∧
      (a.acc < e * 256 ∨ (s.now - b).toNat < c.snapshot.wallMin → (t.station st).state = .curing ∧ d.cure.stop = c.cure.stop))

/-- A PRESS-SAMPLE with its stop flag set: its flags and echo are noted, and PRESS_STOP is taken in every state but OFFLINE, PARKED and
LATCHED (R15, R16); in those nothing more happens. That PRESS_STOP comes before the test of the state is log entry 11. -/
def Obligations.StopFlagHolds : Prop :=
  ∀ (s : State) (st : Fin 6) (m : PressSample), m.stop = true →
    let x := s.station st
    (x.state = .offline ∨ x.state = .parked ∨ x.state = .latched → s.pressWork st m = noted s st m) ∧
    (x.state ≠ .offline → x.state ≠ .parked → x.state ≠ .latched → CauseTaken s (s.pressWork st m) st .pressStop) ∧
    (x.state = .hold → x.cause = .pressStop → s.pressWork st m = noted s st m)

/-- The force limit of attempt j (R138), and the judgement of a forced sample under an absolute limit of 0. -/
def Obligations.AttemptLimitRule : Prop :=
  ∀ (x : StationSettings) (r : Recipe) (j : Nat), 1 ≤ j → j ≤ r.retryLimit + 1 →
    attemptLimit x r j = min x.forceLimit (r.initialForce + (j - 1) * r.forceStep) ∧
    attemptLimit x r j ≤ x.forceLimit ∧ (r.forceStep = 0 → attemptLimit x r j = attemptLimit x r 1) ∧
    (x.forceLimit ≤ r.initialForce → attemptLimit x r j = x.forceLimit) ∧ (x.forceLimit = 0 → attemptLimit x r j = 0) ∧
    (∀ position force, x.forceLimit = 0 → 0 < force → judge r (attemptLimit x r j) position force = .overforce)

/-- An EJECT-SAMPLE at its station. Its echo, position and force are noted in every state and sub-state, and an EJECT-COMMAND is placed when
the echo differs from the wanted command (R133, R146). In EXTENDING a sample whose echo is the attempt's own is judged: its first applying
row gives the outcome, the attempt is listed with its peak, the retract begins and RETRACT is wanted (R140, R142). Without a context, in
every other sub-state, with another echo, and in RETRACTING above the retract threshold it decides nothing more (R145, R147). A change of
the wanted command places an EJECT-COMMAND (R146). The complete retract is `CompleteRetract`. -/
def Obligations.JudgedSampleEndsAttempt : Prop :=
  (∀ (s : State) (st : Fin 6) (m : EjectSample),
    let n := ejectNoted s st m
    let t := s.ejectWork st m
    (s.ctx? st = none → t = n) ∧
    ∀ c, s.ctx? st = some c →
      (c.eject.sub = .none ∨ c.eject.sub = .waitOpen ∨ c.eject.sub = .dwelling → t = n) ∧
      (c.eject.sub = .extending → m.echo ≠ .extend c.eject.limit → t = n) ∧
      (c.eject.sub = .retracting → m.echo ≠ .retract ∨ (s.station st).settings.retractThreshold < m.position → t = n) ∧
      ∀ o, c.eject.sub = .extending → m.echo = .extend c.eject.limit →
        o = (if c.eject.limit < m.force then AttemptOutcome.overforce
          else if c.snapshot.ejectStroke ≤ m.position then
            (if m.force ≤ c.snapshot.releaseThreshold then .released else .noRelease)
          else .none) →
        (o = .none → t = withStation n st { n.station st with
          ctx := some { c with eject := { c.eject with peak := max c.eject.peak m.force } } }) ∧
        (o ≠ .none → t = wantingEject (withStation n st { n.station st with
          ctx := some { c with eject := { c.eject with
            peak := max c.eject.peak m.force, sub := .retracting, outcome := o,
            attempts := c.eject.attempts ++ [{ peak := max c.eject.peak m.force, outcome := o }],
            attemptTimer := .running s.now c.snapshot.attemptTimeout } } }) st .retract)) ∧
  ∀ (s : State) (st : Fin 6) (w : EjectCmd), s.wantEject st w = wantingEject s st w

/-- A complete retract (R143, R14, R7): RELEASED ends the cycle with its PART record and PART_DONE, and the station calls again, at the tail
and with the arbiter's test, or is READY; with attempts left the next one starts, after the settle dwell when there is one; with none left
the cycle ends and the part is stuck. -/
def Obligations.CompleteRetract : Prop :=
  ∀ (s : State) (st : Fin 6) (m : EjectSample) (c : Context), (s.station st).state = .ejecting → s.ctx? st = some c →
    c.eject.sub = .retracting → m.echo = .retract → m.position ≤ (s.station st).settings.retractThreshold →
    let t := s.ejectWork st m
    (c.eject.outcome = .released →
      ((s.station st).runEnable = true → (s.station st).pressAuto = true →
        ∃ u q, t = u.consider ∧ CycleEnded s u st (ending c .none s.now) .released ∧ (u.station st).state = .calling ∧
          u.arbiter.queue = q ++ [st] ∧ (s.weigher.state ≠ .idle ∨ s.arbiter.queue = [] → q = s.arbiter.queue)) ∧
      ((s.station st).runEnable = false ∨ (s.station st).pressAuto = false →
        CycleEnded s t st (ending c .none s.now) .released ∧ (t.station st).state = .ready ∧
        (st ∉ s.arbiter.queue →
          Told s t .stationState st (put8 2 ++ put8 (s.station st).cause.code ++ putTime (s.station st).cycleNumber)))) ∧
    (c.eject.outcome ≠ .released → c.eject.number < c.snapshot.retryLimit + 1 → c.snapshot.settleDwell = 0 →
      ∃ d, t.ctx? st = some d ∧ d.eject.sub = .extending ∧ d.eject.number = c.eject.number + 1 ∧
        d.eject.limit = attemptLimit (s.station st).settings c.snapshot (c.eject.number + 1) ∧
        (t.station st).demould.wanted = .extend d.eject.limit) ∧
    (c.eject.outcome ≠ .released → c.eject.number < c.snapshot.retryLimit + 1 → c.snapshot.settleDwell ≠ 0 →
      ∃ d, t.ctx? st = some d ∧ d.eject.sub = .dwelling ∧ d.eject.attemptTimer = .running s.now c.snapshot.settleDwell) ∧
    (c.eject.outcome ≠ .released → c.snapshot.retryLimit + 1 ≤ c.eject.number →
      CycleEnded s t st (ending c .stuckPart s.now) .stuckPart ∧ CycleLatched s t st .stuckPart)

/-- The records (R152, R153, R193): kind and size lead every record, the size is the number of its bytes, and every field stands at the
offset and in the width of its table; the lists follow the fixed part. The outcome a PART record carries (R95): the first row that
applies. -/
def Obligations.RecordsCarryKindAndSize : Prop :=
  (∀ (st : Fin 6) (c : Context) (e : Ending),
    let r := partRecord st c e
    let n := 56 + 4 * (c.pieces.length + c.faults.length + c.eject.attempts.length)
    r.length = n ∧ r.take 2 = [1, BitVec.ofNat 8 n] ∧
      bytesAt r 2 1 = put8 st.val ∧ bytesAt r 3 1 = put8 c.recipeNo.val ∧ bytesAt r 4 2 = put16 c.snapshot.revision.toNat ∧
      bytesAt r 6 4 = putTime c.cycle ∧ bytesAt r 10 4 = putTime c.grantTime ∧ bytesAt r 14 4 = putTime (c.acceptTime.getD 0) ∧
      bytesAt r 18 4 = putTime (c.cure.start.getD 0) ∧ bytesAt r 22 4 = putTime (c.cure.stop.getD 0) ∧
      bytesAt r 26 4 = putTime (c.eject.demouldEnd.getD 0) ∧ bytesAt r 30 4 = putS32 (c.netMass.getD 0) ∧
      bytesAt r 34 4 = put32 (c.cure.target.getD 0) ∧ bytesAt r 38 4 = put32 (c.cure.acc / 256) ∧
      (∀ a b, c.cure.start = some a → c.cure.stop = some b → bytesAt r 42 4 = putTime (b - a)) ∧
      (c.cure.start = none ∨ c.cure.stop = none → bytesAt r 42 4 = put32 0) ∧
      bytesAt r 46 2 = put16 c.excursions ∧ bytesAt r 48 2 = put16 c.budgetLimited ∧
      (∃ flags : Byte, r[50]? = some flags ∧ flags.getLsbD 0 = c.cure.undercured ∧ flags.getLsbD 1 = c.cure.blind ∧
        flags.getLsbD 2 = c.suspect ∧ flags.getLsbD 3 = c.slowSamples ∧ flags.getLsbD 4 = c.aborted ∧
        flags.getLsbD 5 = c.cure.start.isNone ∧ flags.getLsbD 6 = c.cure.stop.isNone ∧ flags.getLsbD 7 = false) ∧
      bytesAt r 51 1 = put8 (partOutcome c e).code ∧ bytesAt r 52 1 = put8 c.lastCause.code ∧
      bytesAt r 53 1 = put8 c.pieces.length ∧ bytesAt r 54 1 = put8 c.faults.length ∧
      bytesAt r 55 1 = put8 c.eject.attempts.length ∧
      (∀ i p, c.pieces[i]? = some p → bytesAt r (56 + 4 * i) 4 = putS32 p) ∧
      (∀ i f, c.faults[i]? = some f → bytesAt r (56 + 4 * (c.pieces.length + i)) 4 =
        put8 f.zone.val ++ put8 f.fault.code ++ put16 f.progress) ∧
      ∀ i a, c.eject.attempts[i]? = some a → bytesAt r (56 + 4 * (c.pieces.length + c.faults.length + i)) 4 =
        put8 (i + 1) ++ put8 a.outcome.code ++ put16 a.peak) ∧
  (∀ (st : Fin 6) (c : Context) (reason : RejectReason) (v : Int) (l : List Int) (time : Time),
    let r := rejectRecord st c reason v l time
    let n := 24 + 4 * l.length
    r.length = n ∧ r.take 2 = [2, BitVec.ofNat 8 n] ∧
      bytesAt r 2 1 = put8 st.val ∧ bytesAt r 3 1 = put8 reason.code ∧ bytesAt r 4 4 = putTime c.cycle ∧
      bytesAt r 8 1 = put8 c.recipeNo.val ∧ bytesAt r 9 1 = put8 l.length ∧ bytesAt r 10 2 = put16 c.snapshot.revision.toNat ∧
      bytesAt r 12 4 = putTime c.grantTime ∧ bytesAt r 16 4 = putTime time ∧ bytesAt r 20 4 = putS32 v ∧
      ∀ i p, l[i]? = some p → bytesAt r (24 + 4 * i) 4 = putS32 p) ∧
  (∀ (src : Byte) (x : Store) (lot : Nat) (time : Time),
    let r := lotMarkRecord src x lot time
    r.length = 16 ∧ r.take 2 = [3, 16] ∧ bytesAt r 2 1 = [src] ∧ bytesAt r 3 1 = put8 x.settings.policy.code ∧
      bytesAt r 4 4 = put32 lot ∧ bytesAt r 8 4 = putTime time ∧ bytesAt r 12 2 = put16 (x.held + 16) ∧
      bytesAt r 14 2 = put16 (16384 - (x.held + 16) - 168 * x.reservations)) ∧
  (∀ (s : State) (k : Nat) (l : List (Fin 6 × StationState × Time)),
    let r := restartMarkRecord s k l
    let n := 12 + 6 * l.length
    r.length = n ∧ r.take 2 = [4, BitVec.ofNat 8 n] ∧ bytesAt r 2 1 = put8 l.length ∧ bytesAt r 3 1 = put8 s.mode.code ∧
      bytesAt r 4 4 = putTime s.now ∧ bytesAt r 8 2 = put16 s.port.lineErrors ∧ bytesAt r 10 1 = put8 k ∧
      bytesAt r 11 1 = put8 (s.arbiter.granted.elim 255 (·.val)) ∧
      ∀ (i : Nat) (y : Fin 6 × StationState × Time), l[i]? = some y →
        bytesAt r (12 + 6 * i) 6 = put8 y.1.val ++ put8 y.2.1.code ++ putTime y.2.2) ∧
  (∀ (c : Context) (e : Ending),
    (c.aborted = true → partOutcome c e = .aborted) ∧
    (c.aborted = false →
      (e = .openTimeout → partOutcome c e = .notDemoulded) ∧
      (e = .stuckPart ∨ e = .ejectorJam → partOutcome c e = .stuck) ∧
      (e = .released →
        (c.cure.undercured = true → partOutcome c e = .undercured) ∧
        (c.cure.undercured = false → c.suspect = true ∨ c.cure.blind = true ∨ c.slowSamples = true → partOutcome c e = .suspect) ∧
        (c.cure.undercured = false → c.suspect = false → c.cure.blind = false → c.slowSamples = false → partOutcome c e = .good))))

/-- The store's append. Room not reserved (R151). Room for a record: none is made under HOLD; under OVERWRITE the fewest oldest records that
free the bytes are dropped, a cursor or an auto-send position among them goes to the new oldest with the overrun flag and CURSOR_OVERRUN,
once, and a send of a dropped record is cut (R155, R156, R161, log entry 17). The record then takes the number next holds, and with
auto-send on, a MASTER entry present and the reader caught up the cursor passes it (R154). BACKLOG and STORE_LOW are raised on their edges
(R167), and the append of a cycle's record uses its reservation and lets the arbiter test when room rose (R126, R155). The widths of the
value fields of the three notices are log entry 8. -/
def Obligations.StoreAppendRule : Prop :=
  (∀ x : Store, x.room = 16384 - x.held - 168 * x.reservations) ∧
  (∀ (s : State) (n : Nat), let x := s.store
    let free (k : Nat) : Nat := 16384 - (x.held - ((x.ring.take k).map List.length).sum)
    (x.settings.policy = .hold → s.makeRoom n = s) ∧
    (∀ k, x.settings.policy = .overwrite → x.ring.length < 4294967296 → k ≤ x.ring.length → (∀ j, j < k → free j < n) →
      k = x.ring.length ∨ n ≤ free k →
      let oldest := x.oldest + BitVec.ofNat 32 k
      let y : Store := { x with
        ring := x.ring.drop k, oldest := oldest, held := x.held - ((x.ring.take k).map List.length).sum,
        cursor := if (x.cursor - x.oldest).toNat < k then oldest else x.cursor,
        autoPos := if (x.autoPos - x.oldest).toNat < k then oldest else x.autoPos,
        sender := x.sender.map fun z => if (z.seq - x.oldest).toNat < k then { z with cut := true } else z }
      (k ≤ (x.cursor - x.oldest).toNat → k ≤ (x.autoPos - x.oldest).toNat → s.makeRoom n = { s with store := y }) ∧
      ((x.cursor - x.oldest).toNat < k ∨ (x.autoPos - x.oldest).toNat < k →
        s.makeRoom n = State.raise { s with store := { y with overrun := true } } .cursorOverrun none
          (putTime oldest ++ put16 (y.autoPos - x.autoPos).toNat)))) ∧
  (∀ (s : State) (bytes : List Byte) (pass : Bool), let x := s.store
    s.pushRecord bytes pass = (State.testBacklog { s with store := { x with
      ring := x.ring ++ [bytes], next := x.next + 1, held := x.held + bytes.length,
      cursor := if pass = true ∧ x.settings.autoSend = true ∧ x.cursor = x.next ∧ s.nodeOf .master 255 ≠ none then x.next + 1
        else x.cursor } }).testLow) ∧
  (∀ s : State, let x := s.store
    let n := (x.next - x.cursor).toNat
    (n < x.settings.backlog → s.testBacklog = { s with store := { x with backlogArmed := true } }) ∧
    (x.settings.backlog ≤ n → x.backlogArmed = false → s.testBacklog = s) ∧
    (x.settings.backlog ≤ n → x.backlogArmed = true → s.testBacklog =
      State.raise { s with store := { x with backlogArmed := false } } .backlog none (put16 n ++ putTime x.cursor ++ putTime x.next)) ∧
    (x.settings.lowWater ≤ x.room → s.testLow = { s with store := { x with storeLowArmed := true } }) ∧
    (x.room < x.settings.lowWater → x.storeLowArmed = false → s.testLow = s) ∧
    (x.room < x.settings.lowWater → x.storeLowArmed = true → s.testLow =
      State.raise { s with store := { x with storeLowArmed := false } } .storeLow none
        (put16 x.room ++ put16 (16384 - x.held) ++ put8 x.reservations))) ∧
  (∀ (s : State) (r : Reservation) (bytes : List Byte),
    let used : State :=
      if r = .held then { s with store := { s.store with reservations := s.store.reservations - 1 } } else s
    let t := (used.makeRoom bytes.length).pushRecord bytes true
    s.appendCycle r bytes = if s.store.room < t.store.room then t.consider else t)

/-! ### The weigher and the calls (06, 07) -/

/-- The cure target fixed at accept (R85): the floored formula, limited to E_min..E_max. -/
def Obligations.AcceptFixesTarget : Prop :=
  ∀ (s : State) (st : Fin 6) (c : Context) (v : Int), s.weigher.granted = some st → s.ctx? st = some c →
    (s.station st).state = .charging →
    let t := s.acceptCharge v
    ∃ d, t.ctx? st = some d ∧ (t.station st).state = .loading ∧
      d.cure.target = some (limit c.snapshot.eMin c.snapshot.eMax
        ((c.snapshot.eBase : Int) + (c.snapshot.massCoeff * (v - c.snapshot.nominalMass)).fdiv 16)).toNat ∧
      d.netMass = some v ∧ d.pieces = s.weigher.pieces ∧ d.acceptTime = some s.now ∧ d.mouldOccupied = true ∧
      d.loadTimer = .running s.now c.snapshot.loadTimeout ∧
      t.weigher.state = .clearing ∧ t.weigher.wantedGate = .pass st ∧ t.weigher.granted = none ∧ t.arbiter.granted = none ∧
      t.weigher.absentRun = 0 ∧ t.weigher.clear = .running s.now s.weigher.settings.clearTimeout

/-- The decision on a charge (R109): the first row that applies, an accept only within the tolerances, and no decision after a settle
without a piece. -/
def Obligations.ChargeDecisionRule : Prop :=
  ∀ (r : Recipe) (v : Int) (n : Nat),
    (r.nominalMass + r.upperTol < v → decideCharge r v n = .over) ∧
    (v ≤ r.nominalMass + r.upperTol → r.nominalMass - r.lowerTol ≤ v → r.minPieces ≤ n → decideCharge r v n = .accept) ∧
    (v ≤ r.nominalMass + r.upperTol → v < r.nominalMass - r.lowerTol → n = r.pieceLimit → decideCharge r v n = .under) ∧
    (v ≤ r.nominalMass + r.upperTol → r.nominalMass - r.lowerTol ≤ v → n < r.minPieces → decideCharge r v n = .wait) ∧
    (v ≤ r.nominalMass + r.upperTol → v < r.nominalMass - r.lowerTol → n ≠ r.pieceLimit → decideCharge r v n = .wait) ∧
    (r.minPieces ≤ r.pieceLimit → n = r.pieceLimit → decideCharge r v n ≠ .wait) ∧
    (decideCharge r v n = .accept →
      r.nominalMass - r.lowerTol ≤ v ∧ v ≤ r.nominalMass + r.upperTol ∧ r.minPieces ≤ n) ∧
    (∀ s : State, v - s.weigher.vPrev < s.weigher.settings.minPiece → -s.weigher.settings.pieceThreshold < v - s.weigher.vPrev →
      s.weigher.pieceWait ≠ .expiredInSettling →
      s.settleEnd v = { s with weigher := { s.weigher with vPrev := v, settle := .stopped, state := .stable } })

/-- A WEIGH-SAMPLE (R100 to R104). Its gate echo is compared first, and a duplicate does nothing more (log entry 18). In an IDLE unit a new
OK sample within the capacity is noted and fed to the window and to presence; with no load nothing else changes, and with load the unit goes
to CLEARING with DIVERT (R105). A new sample that shows a fault cause, by its status or by a gross above the capacity, is noted and not fed
(R101), and its cause goes by the state of the unit (R118, R119): IDLE and CLEARING fall into FAULT; TARING too, its TARE answered STATE; in
a weigh the charge is rejected as well; in FAULT the same cause changes nothing and another replaces it. WEIGHER_FAULT carries the cause and
the state left, FAULT itself for a new cause within FAULT, and a station byte only when a weigh was left (log entry 27). A sample that came
late marks the context SLOW_SAMPLES before the fault ends its charge (log entry 19). -/
def Obligations.WeighSampleIsFed : Prop :=
  ∀ (s : State) (m : WeighSample), let w := s.weigher
    let u := gateChecked s m
    let x := sampled w m s.now
    let t := s.weighWork m
    (w.lastCounter = some m.counter → t = u) ∧
    (w.lastCounter ≠ some m.counter → w.state = .idle → m.status = .ok → gross w.settings m ≤ w.settings.capacity →
      let y := fed x (gross w.settings m - w.tare)
      (y.presence = .absent → t = { u with weigher := y }) ∧
      (y.presence = .present → t = wanting { u with weigher := { y with
        state := .clearing, absentRun := 0, clear := .running s.now w.settings.clearTimeout } } .divert)) ∧
    (∀ c, w.lastCounter ≠ some m.counter →
      (m.status = .error ∧ c = WeigherCause.nodeError ∨
        (m.status = .overload ∨ m.status = .ok ∧ w.settings.capacity < gross w.settings m) ∧ c = WeigherCause.overload) →
      let told : State := State.raise { u with weigher := { x with
        state := .fault, cause := c, pieceWait := .stopped, settle := .stopped, clear := .stopped, absentRun := 0 } }
        .weigherFault none (put8 c.code ++ put8 w.state.code)
      (w.state = .idle ∨ w.state = .clearing → t = told) ∧
      (∀ src q, w.state = .taring → s.port.buffer = .taring src q →
        t = { told with port := { told.port with buffer := .answering (answerParts src q 9 .state []) false } }) ∧
      (w.state = .fault → w.cause = c → t = { u with weigher := x }) ∧
      (w.state = .fault → w.cause ≠ c →
        t = State.raise { u with weigher := { x with cause := c } } .weigherFault none (put8 c.code ++ put8 w.state.code)) ∧
      (∀ st k, w.state = .armed ∨ w.state = .settling ∨ w.state = .stable → w.granted = some st → s.ctx? st = some k →
        (s.station st).state = .charging →
        Rejected s t st (slowed s k) (if c = .overload then .overload else .nodeError) w.vPrev w.pieces s.now ∧
        t.weigher = { x with state := .fault, cause := c, pieceWait := .stopped, settle := .stopped, clear := .stopped, absentRun := 0,
                             granted := none, wantedGate := .divert } ∧
        (s.port.mask[(5 : Fin 11)] = true → ∃ f, t.port.notices[noticeSlot .weigherFault none] = some f ∧ f.time = s.now ∧
          f.values = put8 c.code ++ put8 w.state.code ++ put8 st.val)))

/-- What a new OK sample within the capacity does, noted and fed, in the states of the unit other than IDLE. In ARMED and STABLE a net
further than the piece threshold from the total starts a settle (R106). In SETTLING a stable window ends it: a piece, decided on by R109;
DISTURBED; or no piece, then STABLE, and a piece wait that ran out in the settle rejects the charge (R107, R110, R113); a sample that came
late marks the charging station SLOW_SAMPLES (R111). In CLEARING the absent run counts, and at the run-on zero tracking moves the tare and
the unit goes to IDLE with NEUTRAL, the arbiter testing its queue (R115). In TARING a stable window moves the tare and answers the TARE
(R117). In FAULT nothing more happens (R119). -/
def Obligations.WeighSampleByState : Prop :=
  ∀ (s : State) (m : WeighSample), let w := s.weigher
    let v := gross w.settings m - w.tare
    let y := fed (sampled w m s.now) v
    let t := s.weighWork m
    w.lastCounter ≠ some m.counter → m.status = .ok → gross w.settings m ≤ w.settings.capacity →
    (∀ st c, w.granted = some st → s.ctx? st = some c → (s.station st).state = .charging →
      let k := slowed s c
      let u : State := { withStation (gateChecked s m) st { s.station st with ctx := some k } with weigher := y }
      (w.state = .armed ∨ w.state = .stable →
        (w.settings.pieceThreshold < v - w.vPrev ∨ w.settings.pieceThreshold < w.vPrev - v → t = { u with weigher := { y with
          state := .settling, window := [v], settle := .running s.now w.settings.settleTimeout } }) ∧
        (v - w.vPrev ≤ w.settings.pieceThreshold → w.vPrev - v ≤ w.settings.pieceThreshold → t = u)) ∧
      (w.state = .settling → (∀ a, ¬StableAt y a) → t = u) ∧
      (∀ a, w.state = .settling → StableAt y a → let d := a - w.vPrev
        (w.settings.minPiece ≤ d →
          let piece : State := { u with weigher := { y with
            pieces := w.pieces ++ [d], vPrev := a, pieceWait := .running s.now c.snapshot.pieceWait, settle := .stopped,
            state := .stable } }
          (decideCharge c.snapshot a (w.pieces.length + 1) = .wait → t = piece) ∧
          (decideCharge c.snapshot a (w.pieces.length + 1) = .accept → t = piece.acceptCharge a) ∧
          (decideCharge c.snapshot a (w.pieces.length + 1) = .over →
            Rejected piece t st k .over a (w.pieces ++ [d]) s.now ∧ t.weigher.state = .clearing) ∧
          (decideCharge c.snapshot a (w.pieces.length + 1) = .under →
            Rejected piece t st k .under a (w.pieces ++ [d]) s.now ∧ t.weigher.state = .clearing)) ∧
        (d < w.settings.minPiece → d ≤ -w.settings.pieceThreshold →
          Rejected u t st k .disturbed a w.pieces s.now ∧ t.weigher.state = .clearing) ∧
        (d < w.settings.minPiece → -w.settings.pieceThreshold < d →
          (w.pieceWait ≠ .expiredInSettling →
            t = { u with weigher := { y with vPrev := a, settle := .stopped, state := .stable } }) ∧
          (w.pieceWait = .expiredInSettling →
            Rejected u t st k (if w.pieces = [] then .noCharge else .under) a w.pieces s.now ∧ t.weigher.state = .clearing)))) ∧
    (w.state = .clearing →
      let run := if y.presence = .absent then min 255 (w.absentRun + 1) else 0
      let value := y.window.sum.fdiv 8
      let tare := if y.window.length = 8 ∧ 8 ≤ run ∧ -w.settings.zeroTrack ≤ value ∧ value ≤ w.settings.zeroTrack then
          max (-16777216) (min 16777215 (w.tare + value))
        else w.tare
      (run < w.settings.runOn → t = { gateChecked s m with weigher := { y with absentRun := run } }) ∧
      (w.settings.runOn ≤ run → t = State.consider (wanting { gateChecked s m with weigher := { y with
        absentRun := run, tare := tare, clear := .stopped, state := .idle } } .neutral))) ∧
    (∀ src q, w.state = .taring → s.port.buffer = .taring src q →
      let u : State := { gateChecked s m with weigher := y }
      ((∀ a, ¬StableAt y a) → t = u) ∧
      (∀ a, StableAt y a → let tare := max (-16777216) (min 16777215 (w.tare + a))
        t = State.consider { u with
          weigher := { y with tare := tare, settle := .stopped, state := .idle },
          port := { u.port with buffer := .answering (answerParts src q 9 .done (putS32 tare)) false } })) ∧
    (w.state = .fault → t = { gateChecked s m with weigher := y })

/-- The arbiter's test (R126, R127). While a condition fails nothing changes. With all of them met and the head's bound recipe present it
grants: the next cycle number, the snapshot, the grant time, CHARGING, the groups resolved from the snapshot, ARMED (R5, R105). With the
head's bound recipe absent the station leaves to READY with STATION_STATE and RECIPE_MISSING, uses no cycle number and takes no
reservation, and the new head is considered in the same event. -/
def Obligations.GrantCreatesContext : Prop :=
  (∀ s : State, (s.arbiter.queue = [] ∨ s.weigher.state ≠ .idle ∨ s.mode ≠ .run ∨ s.store.settings.policy = .hold ∧ s.store.room < 168) →
    s.consider = s) ∧
  ∀ (s : State) (st : Fin 6) (rest : List (Fin 6)), s.arbiter.queue = st :: rest → s.weigher.state = .idle → s.mode = .run →
    (s.store.settings.policy = .overwrite ∨ 168 ≤ s.store.room) → (s.station st).state = .calling →
    let x := s.station st
    let t := s.consider
    ((s.recipes[x.boundRecipe]).present = false → st ∉ rest →
      t = State.consider (State.raise (announced { s with arbiter := { s.arbiter with queue := rest } } st { x with state := .ready })
        .recipeMissing (some st) (put8 x.boundRecipe.val))) ∧
    ((s.recipes[x.boundRecipe]).present = true →
      ∃ c, t.ctx? st = some c ∧ (t.station st).state = .charging ∧
        (t.station st).groups = ((resolved s st { x with state := .charging, ctx := some c }).station st).groups ∧
        (t.station st).cycleNumber = x.cycleNumber + 1 ∧ c.cycle = x.cycleNumber + 1 ∧
        c.recipeNo = x.boundRecipe ∧ c.snapshot = s.recipes[x.boundRecipe] ∧ c.grantTime = s.now ∧
        c.reservation = (if s.store.settings.policy = .hold then .held else .none) ∧ c.pieces = [] ∧ c.faults = [] ∧
        c.netMass = none ∧ c.aborted = false ∧ c.lastCause = .none ∧ (t.station st).holdCount = 0 ∧
        t.arbiter.queue = rest.filter (· ≠ st) ∧ t.arbiter.granted = some st ∧
        t.store.reservations = s.store.reservations + (if s.store.settings.policy = .hold then 1 else 0) ∧
        t.weigher.state = .armed ∧ t.weigher.vPrev = 0 ∧ t.weigher.pieces = [] ∧ t.weigher.granted = some st ∧
        t.weigher.pieceWait = .running s.now c.snapshot.pieceWait ∧ t.weigher.wantedGate = .neutral ∧
        t.weigher.window = s.weigher.window)

/-! ### Timer expiries: each timer due -/

/-- SILENCE_EXPIRY of an entry whose silence interval has run (R174): the entry becomes SILENT, no other entry's silence changes, and
NODE_SILENT is raised, for the entry's station or for the device, with the time of the expiry (log entry 3). A HEAT entry: an all-zero DUTY
with the last node round, 0 when there was none, and HEAT_SILENT in every state but OFFLINE and LATCHED (R80, R15). A PRESS entry: press
auto clear, and PRESS_SILENT in every state but those and PARKED (R1, R15). An EJECTOR entry: EJECTOR_SILENT in EJECTING, which stops the
demoulding and wants RETRACT, and nothing at the station in another state (R147). The WEIGHER entry: FAULT with WEIGHER_SILENT, and the
charge of a weigh rejected (R118). -/
def Obligations.SilenceExpiryMakesSilent : Prop :=
  ∀ (s : State) (e : Fin 32) (since : Time), s.port.silence[e] = .running since →
    (s.port.routes[e]).silence ≤ (s.now - since).toNat →
    ∃ t, exec (.silenceExpiry e) s = .next t ∧ t.port.silence[e] = .silent ∧
      (∀ j : Fin 32, j ≠ e → t.port.silence[j] = s.port.silence[j]) ∧ t.port.routes = s.port.routes ∧ t.now = s.now ∧
      ((s.port.routes[e]).role = 4 → t.weigher.state = .fault ∧ t.weigher.cause = .silent ∧
        (s.port.mask[(6 : Fin 11)] = true → t.port.notices[noticeSlot .nodeSilent none] =
          some { count := min 255 ((s.port.notices[noticeSlot .nodeSilent none]).elim 0 (·.count) + 1), time := s.now,
                 values := put8 e.val ++ put8 4 ++ put8 (s.port.routes[e]).address ++
                   putTime (since + BitVec.ofNat 32 (s.port.routes[e]).silence) }) ∧
        ∀ st c, s.weigher.state = .armed ∨ s.weigher.state = .settling ∨ s.weigher.state = .stable → s.weigher.granted = some st →
          s.ctx? st = some c → (s.station st).state = .charging →
          Rejected s t st c .silent s.weigher.vPrev s.weigher.pieces (since + BitVec.ofNat 32 (s.port.routes[e]).silence)) ∧
      ∀ st : Fin 6, (s.port.routes[e]).station = st.val → let x := s.station st
        ((s.port.routes[e]).role ≠ 4 → s.port.mask[(6 : Fin 11)] = true →
          ∃ f, t.port.notices[noticeSlot .nodeSilent (some st)] = some f ∧ f.time = s.now ∧
            f.values = put8 e.val ++ put8 (s.port.routes[e]).role ++ put8 (s.port.routes[e]).address ++
              putTime (since + BitVec.ofNat 32 (s.port.routes[e]).silence)) ∧
        ((s.port.routes[e]).role = 0 →
          (∀ a, s.nodeOf .heater st.val = some a → PlacedOrSent s t (dutySlot st)
            { dest := a, kind := 2, seq := none, payload := put16 (x.round.lastNode.getD 0).toNat ++ List.replicate 16 0 }) ∧
          (x.state = .offline ∨ x.state = .latched → (t.station st).state = x.state ∧ (t.station st).cause = x.cause) ∧
          (x.state ≠ .offline → x.state ≠ .latched → CauseTaken s t st .heatSilent)) ∧
        ((s.port.routes[e]).role = 2 → (t.station st).pressAuto = false ∧
          (x.state = .offline ∨ x.state = .parked ∨ x.state = .latched → t.station st = { x with pressAuto := false }) ∧
          (x.state ≠ .offline → x.state ≠ .parked → x.state ≠ .latched → CauseTaken s t st .pressSilent)) ∧
        ((s.port.routes[e]).role = 3 →
          (x.state ≠ .ejecting → t.station st = x) ∧
          (x.state = .ejecting → CauseTaken s t st .ejectorSilent ∧ (t.station st).demould.wanted = .retract ∧
            ∀ c, s.ctx? st = some c → ∃ d, t.ctx? st = some d ∧ d.eject.sub = .none ∧ d.eject.attemptTimer = .stopped ∧
              d.eject.attempts = c.eject.attempts))

/-- HOLD_EXPIRY (R17): the cause persists, by R15 and R19 (`CausePersists`; the stop flag is log entry 12), and the station latches with it,
or it does not, and the station goes to OPENING with its mould occupied and to WARMING without. LOAD_TIMEOUT (R12, R16): a LOADING station
takes the cause: HOLD below the third hold of the cycle, LATCHED with HOLD_REPEAT from it on. OPEN_TIMEOUT (R137, R14): the cycle ends at
the expiry time with its PART record and PART_DONE, and the station latches with OPEN_TIMEOUT. -/
def Obligations.StationTimersExpire : Prop :=
  ∀ (s : State) (st : Fin 6) (since : Time) (len : Nat), len ≤ (s.now - since).toNat →
    let x := s.station st
    (x.state = .hold → x.holdTimer = .running since len →
      (CausePersists s st → exec (.holdExpiry st) s = .next (State.beginSend (announced s st { x with
        state := .latched, holdTimer := .stopped, runEnable := false,
        ctx := x.ctx.map fun c => { c with aborted := true, lastCause := x.cause } }))) ∧
      (¬CausePersists s st → x.ctx = none → exec (.holdExpiry st) s = .next (State.beginSend (resolved s st { x with
        state := .warming, holdTimer := .stopped, cause := .none, readyCount := 0 }))) ∧
      (∀ c, ¬CausePersists s st → x.ctx = some c → c.mouldOccupied = true →
        exec (.holdExpiry st) s = .next (State.beginSend (opened s st { x with holdTimer := .stopped, cause := .none } c)))) ∧
    (∀ c, s.ctx? st = some c → x.state = .loading → c.loadTimer = .running since len →
      ∃ t d, exec (.loadTimeout st) s = .next t ∧ t.ctx? st = some d ∧ d.loadTimer = .stopped ∧
        (x.holdCount < 2 → Held s t st .loadTimeout) ∧ (2 ≤ x.holdCount → HeldOut s t st)) ∧
    (∀ c, s.ctx? st = some c → x.state = .opening → c.eject.openTimer = .running since len →
      ∃ t, exec (.openTimeout st) s = .next t ∧
        CycleEnded s t st (ending c .openTimeout (since + BitVec.ofNat 32 len)) .openTimeout ∧ CycleLatched s t st .openTimeout)

/-- The wall timers of the cure (R91, R92). The minimum: with the target met the cure ends at the expiry time and the station goes to
OPENING; otherwise the timer is marked expired and nothing else of the part changes. The maximum ends the cure at the expiry time,
UNDERCURED when the accumulator is short of the target. -/
def Obligations.WallTimersEndCure : Prop :=
  ∀ (s : State) (st : Fin 6) (c : Context) (since : Time) (len : Nat), (s.station st).state = .curing → s.ctx? st = some c →
    len ≤ (s.now - since).toNat →
    let x := s.station st
    let stopped : Cure := { c.cure with stop := some (since + BitVec.ofNat 32 len), wallMin := .stopped, wallMax := .stopped }
    (c.cure.wallMin = .running since len →
      (c.cure.targetMet = true →
        exec (.wallMinimumExpiry st) s = .next (State.beginSend (opened s st x { c with cure := stopped }))) ∧
      (c.cure.targetMet = false → exec (.wallMinimumExpiry st) s =
        .next (State.beginSend (withStation s st { x with ctx := some { c with cure := { c.cure with wallMin := .expired } } })))) ∧
    (∀ e, c.cure.target = some e → c.cure.wallMax = .running since len →
      exec (.wallMaximumExpiry st) s = .next (State.beginSend (opened s st x { c with
        cure := { stopped with undercured := c.cure.undercured || decide (c.cure.acc < e * 256) } })))

/-- ATTEMPT_TIMER_EXPIRY (R141, R144, R145): TIMEOUT in EXTENDING; in RETRACTING the cycle ends at the expiry time (log entry 3) and the
station latches with EJECTOR_JAM; the next attempt in DWELLING. -/
def Obligations.AttemptTimerExpires : Prop :=
  ∀ (s : State) (st : Fin 6) (c : Context) (since : Time) (len : Nat), (s.station st).state = .ejecting → s.ctx? st = some c →
    c.eject.attemptTimer = .running since len → len ≤ (s.now - since).toNat →
    let x := s.station st
    let lim := min x.settings.forceLimit (c.snapshot.initialForce + c.eject.number * c.snapshot.forceStep)
    (c.eject.sub = .extending → exec (.attemptTimerExpiry st) s = .next (State.beginSend (wantingEject (withStation s st { x with
      ctx := some { c with eject := { c.eject with
        sub := .retracting, outcome := .timeout, attempts := c.eject.attempts ++ [{ peak := c.eject.peak, outcome := .timeout }],
        attemptTimer := .running s.now c.snapshot.attemptTimeout } } }) st .retract))) ∧
    (c.eject.sub = .retracting → ∃ t, exec (.attemptTimerExpiry st) s = .next t ∧
      CycleEnded s t st (ending c .ejectorJam (since + BitVec.ofNat 32 len)) .ejectorJam ∧ CycleLatched s t st .ejectorJam) ∧
    (c.eject.sub = .dwelling → exec (.attemptTimerExpiry st) s = .next (State.beginSend (wantingEject (withStation s st { x with
      ctx := some { c with eject := { c.eject with
        sub := .extending, number := c.eject.number + 1, limit := lim, peak := 0, outcome := .none,
        attemptTimer := .running s.now c.snapshot.attemptTimeout } } }) st (.extend lim))))

/-- PIECE_WAIT_EXPIRY (R110, R113): held while SETTLING; in ARMED or STABLE the charge is rejected at the expiry time (log entry 3),
NO_CHARGE without a piece and UNDER with one, the weigher clearing to DIVERT. SETTLE_TIMER_EXPIRY (R108, R117): a settle is rejected
UNSETTLED; a taring ends in IDLE with the tare unchanged and its TARE answered UNSETTLED. CLEAR_TIMER_EXPIRY (R116, R118): FAULT with
NOT_CLEARED, the timers stopped and the wanted gate as it stands. -/
def Obligations.WeigherTimersExpire : Prop :=
  ∀ (s : State) (since : Time) (len : Nat), len ≤ (s.now - since).toNat →
    (∀ st c, s.weigher.pieceWait = .running since len → s.weigher.granted = some st → s.ctx? st = some c →
      (s.station st).state = .charging →
      (s.weigher.state = .settling →
        exec .pieceWaitExpiry s =
          .next (State.beginSend { s with weigher := { s.weigher with pieceWait := .expiredInSettling } })) ∧
      (s.weigher.state = .armed ∨ s.weigher.state = .stable →
        ∃ t, exec .pieceWaitExpiry s = .next t ∧ t.weigher.state = .clearing ∧
          Rejected s t st c (if s.weigher.pieces = [] then .noCharge else .under) s.weigher.vPrev s.weigher.pieces
            (since + BitVec.ofNat 32 len))) ∧
    (∀ st c, s.weigher.settle = .running since len → s.weigher.state = .settling → s.weigher.granted = some st →
      s.ctx? st = some c → (s.station st).state = .charging →
      ∃ t, exec .settleTimerExpiry s = .next t ∧ t.weigher.state = .clearing ∧
        Rejected s t st c .unsettled s.weigher.vPrev s.weigher.pieces (since + BitVec.ofNat 32 len)) ∧
    (∀ src q, s.weigher.settle = .running since len → s.weigher.state = .taring → s.port.buffer = .taring src q →
      exec .settleTimerExpiry s = .next (State.beginSend (State.consider
        { s with weigher := { s.weigher with settle := .stopped, state := .idle },
                 port := { s.port with buffer := .answering (answerParts src q 9 .unsettled []) false } }))) ∧
    (s.weigher.clear = .running since len → s.weigher.state = .clearing →
      ∃ t, exec .clearTimerExpiry s = .next t ∧
        t.weigher = { s.weigher with state := .fault, cause := .notCleared, pieceWait := .stopped, settle := .stopped,
                                     clear := .stopped, absentRun := 0 } ∧
        t.stations = s.stations ∧ t.store = s.store ∧ t.arbiter = s.arbiter)

/-- The commands of the part's own. Which claimant the report queue admits (R177), and which steps join an empty queue (log entry 2, which
gives their order): those whose time has come. One whose time has not come changes nothing but ring-out's turn: an expiry whose timer is not
due (R185, log entry 3), and a port step of a claimant that is not admitted (log entry 4). -/
def Obligations.CommandsBeforeTheirTime : Prop :=
  ∀ (s : State) (st : Fin 6) (e : Fin 32),
    (∀ c, s.admitted = some c ↔ Admits s c) ∧
    (∀ i, i ∈ s.ownSteps ↔ DueStep s i) ∧
    (¬DueStep s (.silenceExpiry e) → exec (.silenceExpiry e) s = .next s.beginSend) ∧
    (¬DueStep s (.holdExpiry st) → exec (.holdExpiry st) s = .next s.beginSend) ∧
    (¬DueStep s (.loadTimeout st) → exec (.loadTimeout st) s = .next s.beginSend) ∧
    (¬DueStep s (.wallMinimumExpiry st) → exec (.wallMinimumExpiry st) s = .next s.beginSend) ∧
    (¬DueStep s (.wallMaximumExpiry st) → exec (.wallMaximumExpiry st) s = .next s.beginSend) ∧
    (¬DueStep s (.openTimeout st) → exec (.openTimeout st) s = .next s.beginSend) ∧
    (¬DueStep s (.attemptTimerExpiry st) → exec (.attemptTimerExpiry st) s = .next s.beginSend) ∧
    (¬DueStep s .pieceWaitExpiry → exec .pieceWaitExpiry s = .next s.beginSend) ∧
    (¬DueStep s .settleTimerExpiry → exec .settleTimerExpiry s = .next s.beginSend) ∧
    (¬DueStep s .clearTimerExpiry → exec .clearTimerExpiry s = .next s.beginSend) ∧
    (¬DueStep s .noticeEmit → exec .noticeEmit s = .next s.beginSend) ∧
    (¬DueStep s .segmentPlace → exec .segmentPlace s = .next s.beginSend) ∧
    (¬DueStep s .answerPartPlace → exec .answerPartPlace s = .next s.beginSend) ∧
    (4 ≤ s.port.report.length → s.admitted = none)

/-! ### The line port (10) -/

/-- What ring-out does when it has its turn (R175, R176): nothing while a frame is in transmission or no store holds one; otherwise it
serves the forward buffer when that holds 3 or 4 frames, else the first store that holds a frame in rotation after the last served. A
forwarded frame goes out as it stands; the slate gives the first occupied slot after the last one sent, from slot 18 on to slot 0; a frame
of the part's own goes out under its own sequence number, or under the counter's, which then moves on (R169). The frame leaves its store. -/
def Obligations.BeginSendChoice : Prop :=
  ∀ s : State, let p := s.port
    (∀ f, p.sending = some f → s.beginSend = s) ∧
    ((∀ c, ¬RingHolds p c) → s.beginSend = s) ∧
    ((∃ c, RingHolds p c) → ∃ c, RingTurn p c) ∧
    (∀ f rest, p.sending = none → RingTurn p .forward → p.forward = f :: rest →
      s.beginSend = { s with port := { p with forward := rest, sending := some f, lastRing := .forward } }) ∧
    (∀ (i : Fin 19) f, p.sending = none → RingTurn p .slate → p.slate[i] = some f →
      (∀ j : Fin 19, j - p.lastSlot - 1 < i - p.lastSlot - 1 → p.slate[j] = none) →
      ∃ g, Originates s f g ∧ s.beginSend = { s with port := { p with
        slate := p.slate.set i none, lastSlot := i, lastRing := .slate, sending := some g,
        seqCounter := if f.seq = none then p.seqCounter + 1 else p.seqCounter } }) ∧
    (∀ f rest, p.sending = none → RingTurn p .report → p.report = f :: rest →
      ∃ g, Originates s f g ∧ s.beginSend = { s with port := { p with
        report := rest, lastRing := .report, sending := some g,
        seqCounter := if f.seq = none then p.seqCounter + 1 else p.seqCounter } })

/-- TRANSMISSION_END (R175): the port is free and ring-out has its turn. RESTART_TAKE_EFFECT is the end of the transmission of a RESTART's
answer: the two commands are then one event, and RESTART_TAKE_EFFECT at another time does nothing. The answer is known by the request buffer
that waits for it and a frame in transmission that is the part's own MGMT-ANSWER of kind RESTART with DONE (log entry 5). A RESTART that
takes effect (R188): CONFIG, time base 0; every station OFFLINE without a context, its controller, round, groups, zones, lost flags and
demould items at their starting values (the stop flag is log entry 12); the line port, the weigher and the arbiter at theirs; tables, cycle
numbers, tare, line errors, mask and the store's settings are kept. Then STATION_STATE of each station that was not OFFLINE, PERMIT NONE
where CLOSE or OPEN was wanted, RETRACT where EXTEND was, NEUTRAL where the gate was at another, in a slate otherwise empty. The store
(R166): the cursor at the auto-send position, no send, no reservation, the armed flags from the counts; with no context its records are
kept, and with one a RESTART_MARK of the cycles is appended (log entry 35). -/
def Obligations.RestartAndTransmissionEnd : Prop :=
  ∀ s : State,
    (s.restartDue = true ↔ s.port.buffer = .restarting ∧ ∃ f, s.port.sending = some f ∧ s.nodeAddress = some f.src ∧ f.kind = 10 ∧
      byteAt f.payload 0 = 3 ∧ byteAt f.payload 1 = 0) ∧
    (s.restartDue = false → exec .transmissionEnd s =
      .next (State.beginSend { s with port := { s.port with sending := none } })) ∧
    (s.restartDue = false → exec .restartTakeEffect s = .next s.beginSend) ∧
    (s.restartDue = true → exec .transmissionEnd s = exec .restartTakeEffect s ∧
    ∃ t : State, exec .restartTakeEffect s = .next t.beginSend ∧ t.mode = .config ∧ t.now = 0 ∧ t.nodeAddress = s.nodeAddress ∧
      t.pending = s.pending ∧
      (∀ st : Fin 6, let x := s.station st
        t.station st = {
          settings := x.settings, boundRecipe := x.boundRecipe, state := .offline, cause := .none, runEnable := false, pressAuto := false,
          pressStop := false, echoedPermission := .none, readyCount := 0, holdTimer := .stopped, holdCount := 0,
          cycleNumber := x.cycleNumber, ctx := none,
          round := { count := 0, lastNode := none, lastTime := 0, lastDt := 0, budgetLimited := false, firstRound := false,
                     lastSigma := 0, lastSum := 0 },
          groups := Vector.replicate 4 { source := .none, profile := none, step := 0, target := 0, ff := 0, sg := 0, s0 := 0, k := 0,
                                         len := 0, seeded := false },
          zones := Vector.ofFn fun z : Fin 16 => zoneAfresh (x.zones[z]).entry .none, lost := Vector.replicate 2 false,
          demould := { wanted := .retract, echoed := none, position := none, force := none } } ∧
        t.port.slate[dutySlot st] = none ∧
        t.port.slate[permitSlot st] = (if x.state.permission = .none then none
          else (s.nodeOf .press st.val).map fun a => { dest := a, kind := 4, seq := none, payload := put8 0 }) ∧
        t.port.slate[ejectSlot st] = (if x.demould.wanted = .retract then none
          else (s.nodeOf .ejector st.val).map fun a => { dest := a, kind := 6, seq := none, payload := put8 0 ++ put16 0 }) ∧
        t.port.notices[noticeSlot .stationState (some st)] =
          (if x.state ≠ .offline ∧ s.port.mask[(0 : Fin 11)] = true then
            some { count := 1, time := 0, values := put8 0 ++ put8 0 ++ putTime x.cycleNumber }
          else none)) ∧
      t.port.slate[gateSlot] = (if s.weigher.wantedGate = .neutral then none
        else (s.nodeOf .weigher 255).map fun a => { dest := a, kind := 8, seq := none, payload := put8 0 ++ put8 0 }) ∧
      (∀ i : Fin 77, (∀ st : Fin 6, i ≠ noticeSlot .stationState (some st)) → t.port.notices[i] = none) ∧
      t.recipes = s.recipes ∧ t.rates = s.rates ∧ t.profilesShadow = s.profilesShadow ∧ t.profilesLive = s.profilesLive ∧
      t.port.routes = s.port.routes ∧ t.port.lineErrors = s.port.lineErrors ∧ t.port.mask = s.port.mask ∧
      t.port.forward = [] ∧ t.port.report = [] ∧ t.port.buffer = .empty ∧ t.port.sending = none ∧ t.port.lastSlot = 18 ∧
      t.port.lastRing = .report ∧ t.port.lastReport = .emitter ∧ t.port.seqCounter = 0 ∧
      (∀ e : Fin 32, let r := s.port.routes[e]
        t.port.silence[e] =
          (if r.present = true ∧ (r.role = 0 ∨ r.role = 2 ∨ r.role = 3 ∨ r.role = 4) then .running 0 else .stopped)) ∧
      t.weigher = {
        settings := s.weigher.settings, state := .idle, cause := .none, tare := s.weigher.tare, lastCounter := none, lastTime := none,
        lastGross := none, lastNet := none, lastStatus := .ok, lastGate := .neutral, presence := .absent, window := [], vPrev := 0,
        pieces := [], granted := none, wantedGate := .neutral, pieceWait := .stopped, settle := .stopped, clear := .stopped,
        absentRun := 0 } ∧
      t.arbiter.queue = [] ∧ t.arbiter.granted = none ∧ t.store.settings = s.store.settings ∧ t.store.sender = none ∧
      t.store.reservations = 0 ∧
      (t.store.backlogArmed = true ↔ (t.store.next - t.store.cursor).toNat < t.store.settings.backlog) ∧
      (t.store.storeLowArmed = true ↔ t.store.settings.lowWater ≤ t.store.room) ∧
      ((∀ st : Fin 6, (s.station st).ctx = none) → t.store.ring = s.store.ring ∧ t.store.oldest = s.store.oldest ∧
        t.store.next = s.store.next ∧ t.store.cursor = s.store.autoPos ∧ t.store.autoPos = s.store.autoPos ∧
        t.store.held = s.store.held ∧ t.store.overrun = s.store.overrun) ∧
      ∀ mark cycles, (∃ st : Fin 6, (s.station st).ctx ≠ none) →
        cycles = (List.finRange 6).filterMap (fun st => ((s.station st).ctx).map fun c => (st, (s.station st).state, c.cycle)) →
        mark = restartMarkRecord s s.store.reservations cycles →
        t.store.next = s.store.next + 1 ∧ t.store.ring.getLast? = some mark ∧ t.store.cursor = t.store.autoPos ∧
        (s.store.settings.policy = .hold ∨ mark.length ≤ 16384 - s.store.held →
          t.store.ring = s.store.ring ++ [mark] ∧ t.store.oldest = s.store.oldest ∧ t.store.held = s.store.held + mark.length ∧
          t.store.cursor = s.store.autoPos ∧ t.store.overrun = s.store.overrun))

/-- The notice flags. A raise (R181): an enabled kind's flag becomes pending, its count rises saturating at 255, its time and value fields
are replaced, and no other flag changes; a disabled kind changes nothing. NOTICE_EMIT (R182), the emitter admitted (log entry 4): one NOTICE
from the first pending flag joins the report queue, and that flag alone is cleared. NOTICE_MASK (R183): the mask is replaced and answered as
written, and the pending flags of the disabled kinds are cleared; a setting other than 0 and 1 is BAD_CONTENT (R191, log entry 10). -/
def Obligations.NoticeRules : Prop :=
  (∀ (s : State) (k : NoticeKind) (key : Option (Fin 6)) (v : List Byte),
    (s.port.mask[k.index] = false → s.raise k key v = s) ∧
    (s.port.mask[k.index] = true →
      (∀ f, s.port.notices[noticeSlot k key] = some f → (s.raise k key v).port.notices[noticeSlot k key] =
        some { count := min 255 (f.count + 1), time := s.now, values := v }) ∧
      (s.port.notices[noticeSlot k key] = none → (s.raise k key v).port.notices[noticeSlot k key] =
        some { count := 1, time := s.now, values := v }) ∧
      (∀ j : Fin 77, j ≠ noticeSlot k key → (s.raise k key v).port.notices[j] = s.port.notices[j]) ∧
      (s.raise k key v).stations = s.stations ∧ (s.raise k key v).store = s.store)) ∧
  (∀ (s : State) (i : Fin 77) (f : NoticeFlag), s.admitted = some .emitter → s.port.notices[i] = some f →
    (∀ j : Fin 77, j < i → s.port.notices[j] = none) →
    exec .noticeEmit s = .next (State.beginSend
      { s with port := { s.port with
          report := s.port.report ++ [OutFrame.mk ((s.nodeOf .master 255).getD 255) 11 none
            (put8 (i.val / 7 + 1) ++ put8 (if i.val % 7 = 6 then 255 else i.val % 7) ++ put8 f.count ++ putTime f.time ++ f.values)],
          lastReport := .emitter, notices := s.port.notices.set i none } })) ∧
  (∀ (h : ReqHeader) (m : Vector Nat 11) (s : State), Served s h →
      ((∃ k : Fin 11, 2 ≤ m[k]) → Answers (.noticeMask h m) s h 17 s .badContent []) ∧
      ((∀ k : Fin 11, m[k] ≤ 1) →
        ∃ (mask : Vector Bool 11) (notices : Vector (Option NoticeFlag) 77),
          (∀ k : Fin 11, mask[k] = (m[k] == 1)) ∧
          (∀ i : Fin 77, notices[i] = if m[(⟨i.val / 7, by omega⟩ : Fin 11)] = 1 then s.port.notices[i] else none) ∧
          Answers (.noticeMask h m) s h 17 { s with port := { s.port with mask := mask, notices := notices } } .done
            (m.toList.flatMap put8)))

/-- SEGMENT_PLACE (R160, R161), the sender admitted (log entry 4): the next 112 data bytes or what remains; a shorter segment ends the send
and moves the position, and a dropped record ends with a TRUNCATED segment that moves nothing. AUTO_SEND_START (R162): an idle sender with
records passed takes the record at the auto-send position, addressed to the MASTER node or to 255; otherwise nothing changes. -/
def Obligations.HistorySends : Prop :=
  (∀ s : State,
    (s.store.sender = none → s.store.autoPos ≠ s.store.cursor →
      exec .autoSendStart s = .next (State.beginSend
        { s with store := { s.store with
            sender := some { seq := s.store.autoPos, origin := .auto, dest := (s.nodeOf .master 255).getD 255, index := 0, answered := true,
                             cut := false } } })) ∧
    (s.store.sender ≠ none ∨ s.store.autoPos = s.store.cursor → exec .autoSendStart s = .next s.beginSend)) ∧
  (∀ (s : State) (x : Sending), s.admitted = some .sender → s.store.sender = some x →
    let data := (((s.store.record? x.seq).getD []).drop (112 * x.index)).take 112
    let placed (flags : Nat) (data : List Byte) (st : Store) : State :=
      { s with
          store := st,
          port := { s.port with
            lastReport := .sender,
            report := s.port.report ++ [OutFrame.mk x.dest 12 none (putTime x.seq ++ put8 x.index ++ put8 flags ++ data)] } }
    (x.cut = true → exec .segmentPlace s = .next (placed 1 [] { s.store with sender := none }).beginSend) ∧
    (x.cut = false → data.length = 112 →
      exec .segmentPlace s = .next (placed 0 data { s.store with sender := some { x with index := x.index + 1 } }).beginSend) ∧
    (x.cut = false → data.length < 112 → x.origin = .auto →
      exec .segmentPlace s =
        .next (placed 0 data { s.store with autoPos := s.store.autoPos + 1, sender := none }).testBacklog.beginSend) ∧
    (x.cut = false → data.length < 112 → x.origin = .read →
      exec .segmentPlace s =
        .next (placed 0 data { s.store with cursor := s.store.cursor + 1, autoPos := s.store.autoPos + 1,
                                            sender := none }).testBacklog.beginSend))

/-- The parts of an answer (R192, 12.1): each goes to the request's source under its sequence number, begins with request kind, result code,
part index and the final mark, carries 116 bytes of the body but for the last, and together they carry the body; there are as many as the
body has pieces of 116 bytes, the last with the rest, and one for an empty body. ANSWER_PART_PLACE (R178), the handler admitted (log entry
4): one part joins the report queue; after the last a READ's send may begin (R159), and the buffer is empty, but for a RESTART's, which
keeps it occupied. -/
def Obligations.AnswerParts : Prop :=
  (∀ (src q kind : Byte) (code : Result) (body : List Byte),
      let l := answerParts src q kind code body
      l.length = max 1 ((body.length + 115) / 116) ∧ l.flatMap (fun f => f.payload.drop 4) = body ∧
      ∀ (i : Nat) (f : OutFrame), l[i]? = some f →
        f.dest = src ∧ f.kind = 10 ∧ f.seq = some q ∧
        f.payload.take 4 = [kind, BitVec.ofNat 8 code.code, BitVec.ofNat 8 i, if i + 1 = l.length then 1 else 0] ∧
        f.payload.length ≤ 120 ∧ (i + 1 < l.length → f.payload.length = 120)) ∧
  (∀ (s : State) (f : OutFrame) (rest : List OutFrame) (restart : Bool), s.admitted = some .handler →
      s.port.buffer = .answering (f :: rest) restart →
      exec .answerPartPlace s = .next (State.beginSend { s with
        port := { s.port with
          report := s.port.report ++ [f], lastReport := .handler,
          buffer := if rest = [] then (if restart then .restarting else .empty) else .answering rest restart },
        store := { s.store with
          sender := if rest = [] then s.store.sender.map fun x => { x with answered := true } else s.store.sender } }))

/-! ### Requests: the device (11) -/

/-- PING (R189): state untouched, the identification answered, the vendor and part codes in the two bytes of log entry 8. RESTART (R188) is
answered DONE at once, its answer the one that makes the restart. An unknown station command, weigher command or request is answered UNKNOWN
(R20, R179), a station number out of range BAD_INDEX first (log entry 10). That a foreign master is turned away (R178) is said of every
request in `BusyAndForeignRequests`. -/
def Obligations.PingRestartAndUnknown : Prop :=
  ∀ (h : ReqHeader) (s : State), Served s h →
    Answers (.ping h) s h 1 s .done
      (put16 23110 ++ put16 416 ++ put16 3 ++ put8 (if s.mode = .run then 2 else 1) ++ [h.dest] ++ putTime s.now) ∧
    exec (.restart h) s = .next (State.beginSend
      { s with port := { s.port with buffer := .answering (answerParts h.src h.seq 3 .done []) true } }) ∧
    (∀ c n, n < 6 → Answers (.stationCommandUnknown h c n) s h 7 s .unknown []) ∧
    (∀ c n, 6 ≤ n → Answers (.stationCommandUnknown h c n) s h 7 s .badIndex []) ∧
    (∀ c, Answers (.weigherCommandUnknown h c) s h 9 s .unknown []) ∧
    (∀ k b, Answers (.unknownRequest h k b) s h k s .unknown [])

/-- MODE_SET (R187), the table of modes; the answer carries the mode in force after the request (log entry 29). -/
def Obligations.ModeSetRule : Prop :=
  ∀ (h : ReqHeader) (m : Nat) (s : State), Served s h →
    (m ≠ 1 → m ≠ 2 → Answers (.modeSet h m) s h 2 s .badContent []) ∧
    (s.mode = .run → Answers (.modeSet h 2) s h 2 s .done [2]) ∧
    (s.mode = .config → s.arbiter.queue = [] → Answers (.modeSet h 2) s h 2 { s with mode := .run } .done [2]) ∧
    (s.mode = .config → Answers (.modeSet h 1) s h 2 s .done [1]) ∧
    (s.mode = .run → (∀ st : Fin 6, (s.station st).state = .offline) →
      Answers (.modeSet h 1) s h 2 { s with mode := .config } .done [1]) ∧
    (∀ st : Fin 6, s.mode = .run → (s.station st).state ≠ .offline → Answers (.modeSet h 1) s h 2 s .state [2])

/-! ### Requests: the tables -/

/-- ENTRY_READ of the eight tables: the entry as it stands, in every mode and state; an index out of range is BAD_INDEX (R2, R28, R32, R84,
R97, R122, R157, R172). The widths of the fields are those of R190 and of log entry 8; the owned flag of an absent entry written with a role
above 5 is log entry 40. -/
def Obligations.EntryReadsAnswerTheEntry : Prop :=
  ∀ (h : ReqHeader) (s : State), Served s h →
    (∀ e : Fin 32, Answers (.entryReadRoute h e.val) s h 4 s .done
      (put8 (if (s.port.routes[e]).present then 1 else 0) ++ put8 (s.port.routes[e]).address ++ put8 (s.port.routes[e]).role ++
        put8 (s.port.routes[e]).station ++
        put8 (if (s.port.routes[e]).role = 1 ∨ (s.port.routes[e]).role = 2 ∨ (s.port.routes[e]).role = 3 ∨
          (s.port.routes[e]).role = 4 then 1 else 0) ++ put32 (s.port.routes[e]).silence)) ∧
    (∀ st : Fin 6, Answers (.entryReadStation h st.val) s h 4 s .done
      (putSettings (s.station st).settings (s.station st).boundRecipe.val)) ∧
    (∀ (st : Fin 6) (z : Fin 16), Answers (.entryReadZone h st.val z.val) s h 4 s .done
      (putZone ((s.station st).zones[z]).entry.write)) ∧
    (∀ n : Fin 16, Answers (.entryReadProfile h n.val 0) s h 4 s .done (putProfile s.profilesShadow[n]) ∧
      Answers (.entryReadProfile h n.val 1) s h 4 s .done (putProfile s.profilesLive[n])) ∧
    (∀ n : Fin 16, Answers (.entryReadRecipe h n.val) s h 4 s .done (putRecipe (s.recipes[n]).write)) ∧
    (∀ (x : Fin 4) (j : Fin 32), Answers (.entryReadRate h x.val j.val) s h 4 s .done (put16 (s.rates[x])[j])) ∧
    Answers (.entryReadWeigher h) s h 4 s .done (putWeigherSettings s.weigher.settings) ∧
    Answers (.entryReadHistory h) s h 4 s .done (putHistory s.store.settings.write) ∧
    (∀ n m : Nat,
      (32 ≤ n → Answers (.entryReadRoute h n) s h 4 s .badIndex []) ∧
      (6 ≤ n → Answers (.entryReadStation h n) s h 4 s .badIndex []) ∧
      (6 ≤ n ∨ 16 ≤ m → Answers (.entryReadZone h n m) s h 4 s .badIndex []) ∧
      (16 ≤ n ∨ 2 ≤ m → Answers (.entryReadProfile h n m) s h 4 s .badIndex []) ∧
      (16 ≤ n → Answers (.entryReadRecipe h n) s h 4 s .badIndex []) ∧
      (4 ≤ n ∨ 32 ≤ m → Answers (.entryReadRate h n m) s h 4 s .badIndex []))

/-- The entry a role and a station find, and its node address (R172). ENTRY_WRITE of a route, of station settings and of a zone entry (R172,
R173; R2; R28, R29): which refusal comes first, the checks spelled out, and what a taken write replaces; a zone write clears the lost flag
of a platen it leaves with a present zone that holds no fault (R78). STATE before BAD_CONTENT, and a flag byte other than 0 and 1 out of
range, are log entry 10. -/
def Obligations.StationTableWrites : Prop :=
  (∀ (s : State) (r : Role) (n : Nat),
    (∀ e, s.findEntry r n = some e ↔ EntryIs s r.code n e) ∧ (s.findEntry r n = none ↔ ∀ e, ¬EntryIs s r.code n e) ∧
    s.nodeOf r n = (s.findEntry r n).map fun e => BitVec.ofNat 8 (s.port.routes[e]).address) ∧
  ∀ (h : ReqHeader) (s : State), Served s h →
    (∀ (e : Fin 32) (w : RouteWrite),
      (RouteBusy s e w → Answers (.entryWriteRoute h e.val w) s h 5 s .state []) ∧
      (¬RouteBusy s e w → ¬RouteFits s e w → Answers (.entryWriteRoute h e.val w) s h 5 s .badContent []) ∧
      (¬RouteBusy s e w → RouteFits s e w →
        ∃ slate, Answers (.entryWriteRoute h e.val w) s h 5
          { s with port := { s.port with
              slate := slate,
              routes := s.port.routes.set e { toRouteFields := w.toRouteFields, present := w.present != 0 },
              silence := s.port.silence.set e
                (if w.present ≠ 0 ∧ (w.role = 0 ∨ w.role = 2 ∨ w.role = 3 ∨ w.role = 4) then .running s.now else .stopped) } }
          .done [] ∧
        let old := s.port.routes[e]
        let moved := w.present = 0 ∨ old.address ≠ w.address ∨ old.role ≠ w.role ∨ old.station ≠ w.station
        (old.present = false ∨ old.role = 0 ∨ 5 ≤ old.role ∨ ¬moved → slate = s.port.slate) ∧
        (∀ st : Fin 6, old.present = true → moved → old.station = st.val →
          (old.role = 1 → slate = s.port.slate.set (dutySlot st) none) ∧
          (old.role = 2 → slate = s.port.slate.set (permitSlot st) none) ∧
          (old.role = 3 → slate = s.port.slate.set (ejectSlot st) none)) ∧
        (old.present = true → moved → old.role = 4 → slate = s.port.slate.set gateSlot none))) ∧
    (∀ (st : Fin 6) (w : StationSettings) (b : Nat), let x := s.station st
      (x.state ≠ .offline → x.state ≠ .parked → Answers (.entryWriteStation h st.val w b) s h 5 s .state []) ∧
      (x.state = .offline ∨ x.state = .parked →
        (¬SettingsFit w → Answers (.entryWriteStation h st.val w b) s h 5 s .badContent []) ∧
        (SettingsFit w →
          Answers (.entryWriteStation h st.val w b) s h 5 (withStation s st { x with settings := w }) .done []))) ∧
    (∀ (st : Fin 6) (z : Fin 16) (w : ZoneWrite), let x := s.station st
      (x.state ≠ .offline → x.state ≠ .parked → Answers (.entryWriteZone h st.val z.val w) s h 5 s .state []) ∧
      (x.state = .offline ∨ x.state = .parked →
        (¬ZoneFits w → Answers (.entryWriteZone h st.val z.val w) s h 5 s .badContent []) ∧
        (ZoneFits w → ∃ (g : Fin 4) (zones : Vector Zone 16) (lost : Vector Bool 2), g.val = w.group ∧
          zones = x.zones.set z (zoneAfresh
            { toZoneFigures := w.toZoneFigures, present := w.present == 1, group := g, cureRef := w.cureRef == 1 }
            (if w.present = 1 then (x.zones[z]).fault else .none)) ∧
          ((∃ i : Fin 16, i.val / 8 = z.val / 8 ∧ (zones[i]).entry.present = true ∧ (zones[i]).fault = .none) →
            lost = x.lost.set (platenOf z) false) ∧
          ((∀ i : Fin 16, i.val / 8 = z.val / 8 → (zones[i]).entry.present = true → (zones[i]).fault ≠ .none) → lost = x.lost) ∧
          Answers (.entryWriteZone h st.val z.val w) s h 5 (withStation s st { x with lost := lost, zones := zones }) .done []))) ∧
    (∀ (n m : Nat) (wr : RouteWrite) (ws : StationSettings) (wz : ZoneWrite),
      (32 ≤ n → Answers (.entryWriteRoute h n wr) s h 5 s .badIndex []) ∧
      (6 ≤ n → Answers (.entryWriteStation h n ws m) s h 5 s .badIndex []) ∧
      (6 ≤ n ∨ 16 ≤ m → Answers (.entryWriteZone h n m wz) s h 5 s .badIndex []))

/-- ENTRY_WRITE of a profile, a recipe, a rate, the weigher settings and the history settings (R32, R122, R84, R97, R157), and
PROFILES_APPLY (R33): the live copies become the shadow ones, and a group of a station that is not OFFLINE re-reads its profile by its
source kind (R36), taking target, feed-forward and ramp as R37 gives (log entries 13 and 14). After a recipe write the READY stations bound
to it look at their calling condition (R10, R122), in station order (log entry 30). A history write makes the tests of BACKLOG and STORE_LOW
(R167; `StoreAppendRule` says what they do). STATE before BAD_CONTENT for the weigher settings, BAD_CONTENT before STATE for the history
settings, and a flag byte other than 0 and 1 out of range, are log entry 10. -/
def Obligations.CellTableWrites : Prop :=
  ∀ (h : ReqHeader) (s : State), Served s h →
    (∀ (n : Fin 16) (w : Profile),
      (ProfileFits w →
        Answers (.entryWriteProfile h n.val w) s h 5 { s with profilesShadow := s.profilesShadow.set n w } .done []) ∧
      (¬ProfileFits w → Answers (.entryWriteProfile h n.val w) s h 5 s .badContent [])) ∧
    (∃ t, Answers (.profilesApply h) s h 6 t .done [] ∧
      t = { s with profilesLive := s.profilesShadow, stations := t.stations } ∧
      ∀ st : Fin 6, let x := s.station st
        t.station st = { x with groups := (t.station st).groups } ∧ (x.state = .offline → t.station st = x) ∧
        (x.state ≠ .offline → ∀ g : Fin 4, let y := x.groups[g]
          (y.profile = none ∨ y.source = .none → (t.station st).groups[g] = y) ∧
          ∀ n temp ff len step, y.profile = some n →
            TargetIn s.profilesShadow[n] y.source (x.ctx.elim 0 fun c => c.cure.steps[g]) temp ff len step →
            (t.station st).groups[g] = retargeted y y.source n temp ff len step)) ∧
    (∀ (n : Fin 16) (w : RecipeWrite),
      (¬RecipeFits w → Answers (.entryWriteRecipe h n.val w) s h 5 s .badContent []) ∧
      (RecipeFits w →
        ∃ t r, Answers (.entryWriteRecipe h n.val w) s h 5 t .done (put16 ((s.recipes[n]).revision + 1).toNat) ∧
          r.toRecipeFigures = w.toRecipeFigures ∧ r.present = (w.present == 1) ∧ r.revision = (s.recipes[n]).revision + 1 ∧
          r.rateTable.val = w.rateTable ∧ (∀ g : Fin 4, (r.profiles[g]).elim 255 (·.val) = w.profiles[g]) ∧
          t = (List.finRange 6).foldl
            (fun (u : State) (st : Fin 6) =>
              if (u.station st).boundRecipe = n ∧ (u.station st).state = .ready ∧ (u.station st).runEnable = true ∧ r.present = true ∧
                  (u.station st).pressAuto = true then joined u st else u)
            { s with recipes := s.recipes.set n r } ∧
          t.recipes = s.recipes.set n r ∧
          ((∀ st : Fin 6, (s.station st).state ≠ .ready) → t = { s with recipes := s.recipes.set n r }))) ∧
    (∀ (x : Fin 4) (j : Fin 32) (f : Nat),
      (f ≤ 4095 → Answers (.entryWriteRate h x.val j.val f) s h 5
        { s with rates := s.rates.set x ((s.rates[x]).set j f) } .done []) ∧
      (4095 < f → Answers (.entryWriteRate h x.val j.val f) s h 5 s .badContent [])) ∧
    (∀ w : WeigherSettings,
      (s.weigher.state ≠ .idle → s.weigher.state ≠ .fault → Answers (.entryWriteWeigher h w) s h 5 s .state []) ∧
      (s.weigher.state = .idle ∨ s.weigher.state = .fault →
        (WeigherFits w → Answers (.entryWriteWeigher h w) s h 5
          { s with weigher := { s.weigher with settings := w, window := [] } } .done []) ∧
        (¬WeigherFits w → Answers (.entryWriteWeigher h w) s h 5 s .badContent []))) ∧
    (∀ w : HistoryWrite,
      (¬HistoryFits w → Answers (.entryWriteHistory h w) s h 5 s .badContent []) ∧
      (HistoryFits w → s.mode ≠ .config → w.policy ≠ s.store.settings.policy.code →
        Answers (.entryWriteHistory h w) s h 5 s .state []) ∧
      (HistoryFits w → s.mode = .config ∨ w.policy = s.store.settings.policy.code →
        ∃ policy : Policy, policy.code = w.policy ∧
          Answers (.entryWriteHistory h w) s h 5
            (State.testLow (State.testBacklog { s with store := { s.store with settings :=
              { policy := policy, backlog := w.backlog, lowWater := w.lowWater, autoSend := w.autoSend == 1 } } })) .done [])) ∧
    (∀ (n m f : Nat) (wp : Profile) (wr : RecipeWrite),
      (16 ≤ n → Answers (.entryWriteProfile h n wp) s h 5 s .badIndex []) ∧
      (16 ≤ n → Answers (.entryWriteRecipe h n wr) s h 5 s .badIndex []) ∧
      (4 ≤ n ∨ 32 ≤ m → Answers (.entryWriteRate h n m f) s h 5 s .badIndex []))

/-! ### Requests: the stations -/

/-- START, STOP and ABORT (R20, R21, R22): the states in which each is refused, and its effect in the others. A charge under way is one of a
weigher that is not IDLE (R105). -/
def Obligations.RunCommandsRule : Prop :=
  ∀ (h : ReqHeader) (s : State), Served s h →
    (∀ n, 6 ≤ n → Answers (.start h n) s h 7 s .badIndex [] ∧ Answers (.stop h n) s h 7 s .badIndex [] ∧
      Answers (.abort h n) s h 7 s .badIndex []) ∧
    ∀ st : Fin 6, let x := s.station st
      (x.state = .offline ∨ x.state = .latched → Answers (.start h st.val) s h 7 s .state []) ∧
      (x.state ≠ .offline → x.state ≠ .latched →
        x.state ≠ .ready ∨ (s.recipes[x.boundRecipe]).present = false ∨ x.pressAuto = false →
        Answers (.start h st.val) s h 7 (withStation s st { x with runEnable := true }) .done []) ∧
      (x.state = .ready → (s.recipes[x.boundRecipe]).present = true → x.pressAuto = true →
        Answers (.start h st.val) s h 7 (joined (withStation s st { x with runEnable := true }) st) .done []) ∧
      (x.state ≠ .calling → Answers (.stop h st.val) s h 7 (withStation s st { x with runEnable := false }) .done []) ∧
      (x.state = .calling → Answers (.stop h st.val) s h 7
        (left (announced s st { x with state := .ready, runEnable := false }) st) .done []) ∧
      (x.state = .opening ∨ x.state = .ejecting → Answers (.abort h st.val) s h 7 s .state []) ∧
      (x.state = .offline ∨ x.state = .warming ∨ x.state = .ready ∨ x.state = .parked ∨ x.state = .hold ∨ x.state = .latched →
        Answers (.abort h st.val) s h 7 (withStation s st { x with runEnable := false }) .done []) ∧
      (x.state = .calling → Answers (.abort h st.val) s h 7
        (left (announced s st { x with state := .ready, runEnable := false }) st) .done []) ∧
      (∀ c, x.state = .charging → s.ctx? st = some c → s.weigher.granted = some st → s.weigher.state ≠ .idle →
        ∃ t, Answers (.abort h st.val) s h 7 t .done [] ∧ WeighAborted s t st c ∧ (t.station st).state = .ready ∧
          (t.station st).runEnable = false ∧ (t.station st).cause = x.cause ∧
          Told s t .stationState st (put8 2 ++ put8 x.cause.code ++ putTime x.cycleNumber)) ∧
      (∀ c, s.ctx? st = some c →
        (x.state = .loading → Answers (.abort h st.val) s h 7
          (opened s st { x with runEnable := false } { c with aborted := true, loadTimer := .stopped }) .done []) ∧
        (x.state = .curing → Answers (.abort h st.val) s h 7
          (opened s st { x with runEnable := false } { c with
            aborted := true, cure := { c.cure with stop := some s.now, wallMin := .stopped, wallMax := .stopped } }) .done []))

/-- PARK, UNPARK, ONLINE, OFFLINE, BIND and CLEAR (R8, R19, R20, R23, R24): when each is refused, and its effect otherwise. PARK and OFFLINE
take a CALLING station out of the queue, the arbiter testing when the head changed (R125, R126). ONLINE starts zones and groups anew (R39,
R50, R66). OFFLINE leaves the groups (log entry 20), places an all-zero DUTY where there is a HEATER entry (R62, log entry 15) and raises
STATION_STATE (R26). CLEAR is refused while the cause persists, by R15 and R19 (`CausePersists`; the stop flag is log entry 12). BIND
resolves the groups of a READY or WARMING station, and a READY one then looks at its calling condition (R10). What a resolution gives rests
on log entries 13 and 14. -/
def Obligations.LineCommandsRule : Prop :=
  ∀ (h : ReqHeader) (s : State), Served s h →
    (∀ n m, 6 ≤ n → Answers (.park h n) s h 7 s .badIndex [] ∧ Answers (.unpark h n) s h 7 s .badIndex [] ∧
      Answers (.online h n) s h 7 s .badIndex [] ∧ Answers (.offline h n) s h 7 s .badIndex [] ∧
      Answers (.bind h n m) s h 7 s .badIndex [] ∧ Answers (.clear h n) s h 7 s .badIndex []) ∧
    ∀ st : Fin 6, let x := s.station st
      let parked := resolved s st { x with state := .parked }
      (x.state ≠ .ready → x.state ≠ .warming → x.state ≠ .calling → Answers (.park h st.val) s h 7 s .state []) ∧
      (x.state = .ready ∨ x.state = .warming → Answers (.park h st.val) s h 7 parked .done []) ∧
      (x.state = .calling → Answers (.park h st.val) s h 7 (left parked st) .done []) ∧
      (x.state ≠ .parked → Answers (.unpark h st.val) s h 7 s .state []) ∧
      (x.state = .parked → Answers (.unpark h st.val) s h 7
        (resolved s st { x with state := .warming, readyCount := 0, cause := .none }) .done []) ∧
      (x.state ≠ .offline ∨ s.mode = .config → Answers (.online h st.val) s h 7 s .state []) ∧
      (x.state = .offline → s.mode = .run → ¬ReadyForOnline s st → Answers (.online h st.val) s h 7 s .incomplete []) ∧
      (x.state = .offline → s.mode = .run → ReadyForOnline s st → Answers (.online h st.val) s h 7
        (resolved s st { x with
          state := .warming, cause := .none, readyCount := 0, lost := Vector.replicate 2 false,
          zones := Vector.ofFn fun i : Fin 16 => zoneAfresh (x.zones[i]).entry (x.zones[i]).fault,
          groups := Vector.ofFn fun g : Fin 4 => { x.groups[g] with s0 := 0, sg := 0, k := 0, len := 0, seeded := false },
          round := { x.round with firstRound := true, budgetLimited := false } }) .done []) ∧
      (x.state = .offline ∨ x.state = .charging ∨ x.state = .loading ∨ x.state = .curing ∨ x.state = .opening ∨
          x.state = .ejecting ∨ (x.state = .hold ∨ x.state = .latched) ∧ x.ctx ≠ none →
        Answers (.offline h st.val) s h 7 s .state []) ∧
      (x.state = .ready ∨ x.state = .warming ∨ x.state = .parked ∨ x.state = .calling ∨
          (x.state = .hold ∨ x.state = .latched) ∧ x.ctx = none →
        let y := { x with state := .offline, runEnable := false, cause := .none, holdTimer := .stopped, readyCount := 0 }
        let u : State := (s.nodeOf .heater st.val).elim (announced s st y) fun a =>
          announced { s with port := { s.port with slate := s.port.slate.set (dutySlot st) (some
            { dest := a, kind := 2, seq := none, payload := put16 (x.round.lastNode.getD 0).toNat ++ List.replicate 16 0 }) } } st
            { y with round := { y.round with lastSum := 0 },
                     zones := Vector.ofFn fun i : Fin 16 => { y.zones[i] with dutySent := 0 } }
        (x.state ≠ .calling → Answers (.offline h st.val) s h 7 u .done []) ∧
        (x.state = .calling → Answers (.offline h st.val) s h 7 (left u st) .done [])) ∧
      (∀ n, 16 ≤ n → Answers (.bind h st.val n) s h 7 s .badIndex []) ∧
      (∀ n : Fin 16, let bound := resolved s st { x with boundRecipe := n }
        (x.ctx ≠ none → Answers (.bind h st.val n.val) s h 7 s .state []) ∧
        (x.ctx = none → x.state ≠ .ready → x.state ≠ .warming →
          Answers (.bind h st.val n.val) s h 7 (withStation s st { x with boundRecipe := n }) .done []) ∧
        (x.ctx = none → x.state = .warming ∨ x.state = .ready ∧
            (x.runEnable = false ∨ (s.recipes[n]).present = false ∨ x.pressAuto = false) →
          Answers (.bind h st.val n.val) s h 7 bound .done []) ∧
        (x.ctx = none → x.state = .ready → x.runEnable = true → (s.recipes[n]).present = true → x.pressAuto = true →
          Answers (.bind h st.val n.val) s h 7 (joined bound st) .done [])) ∧
      (x.state ≠ .latched ∨ CausePersists s st → Answers (.clear h st.val) s h 7 s .state []) ∧
      (x.state = .latched → ¬CausePersists s st →
        (x.ctx = none → Answers (.clear h st.val) s h 7
          (resolved s st { x with state := .warming, readyCount := 0, cause := .none }) .done []) ∧
        (∀ c, x.ctx = some c → c.mouldOccupied = true → Answers (.clear h st.val) s h 7
          (opened s st { x with cause := .none } c) .done []))

/-- ZONE_CLEAR (R79): refused in CURING, taken otherwise; the fault, the runtime and, for a present zone, the platen's lost flag. -/
def Obligations.ZoneClearRule : Prop :=
  ∀ (h : ReqHeader) (s : State), Served s h →
    (∀ n m, 6 ≤ n ∨ 16 ≤ m → Answers (.zoneClear h n m) s h 8 s .badIndex []) ∧
    ∀ (st : Fin 6) (i : Fin 16), let x := s.station st
      (x.state = .curing → Answers (.zoneClear h st.val i.val) s h 8 s .state []) ∧
      (x.state ≠ .curing → Answers (.zoneClear h st.val i.val) s h 8
        (withStation s st { x with
          zones := x.zones.set i (zoneAfresh (x.zones[i]).entry .none),
          lost := if (x.zones[i]).entry.present then x.lost.set (platenOf i) false else x.lost }) .done [])

/-! ### Requests: the weigher, STATUS, the store, the notices -/

/-- TARE and RESET (R117, R119): TARE only in IDLE, to TARING with the window empty, the settle timer running and the request held; RESET
only in FAULT with a cause that does not persist by R119 (`WeigherPersists`, with log entry 41 for the gross), to CLEARING with DIVERT. -/
def Obligations.WeigherCommandsRule : Prop :=
  ∀ (h : ReqHeader) (s : State), Served s h →
    (s.weigher.state ≠ .idle → Answers (.tare h) s h 9 s .state []) ∧
    (s.weigher.state = .idle → exec (.tare h) s = .next (State.beginSend
      { s with weigher := { s.weigher with state := .taring, window := [], settle := .running s.now s.weigher.settings.settleTimeout },
               port := { s.port with buffer := .taring h.src h.seq } })) ∧
    (s.weigher.state ≠ .fault ∨ WeigherPersists s → Answers (.reset h) s h 9 s .state []) ∧
    (s.weigher.state = .fault → ¬WeigherPersists s →
      ∃ t, Answers (.reset h) s h 9 t .done [] ∧
        t.weigher = { s.weigher with cause := .none, state := .clearing, wantedGate := .divert, absentRun := 0,
                                     clear := .running s.now s.weigher.settings.clearTimeout } ∧
        t.stations = s.stations ∧ t.arbiter = s.arbiter ∧ t.store = s.store)

/-- STATUS (R180) changes nothing, and its answer begins with the first items of R26, R120, R168 and R180, in their order; the order of the
items is log entry 9, their widths log entry 8, the two bytes of a gate log entry 36, and whether an OVERLOAD persists log entry 41. -/
def Obligations.StatusAnswers : Prop :=
  ∀ (h : ReqHeader) (s : State), Served s h →
    (∃ rest, Answers (.statusDevice h) s h 10 s .done
      (put8 s.mode.code ++ [h.dest] ++ put16 s.port.lineErrors ++ put8 s.port.forward.length ++ put8 s.port.report.length ++ rest)) ∧
    (∀ n, 6 ≤ n → Answers (.statusStation h n) s h 10 s .badIndex []) ∧
    (∀ st : Fin 6, let x := s.station st
      ∃ rest, Answers (.statusStation h st.val) s h 10 s .done
        (put8 x.state.code ++ put8 x.cause.code ++ putFlag x.runEnable ++ putFlag x.pressAuto ++ put8 x.state.permission.code ++
          put8 x.echoedPermission.code ++ put8 x.readyCount ++ put8 x.holdCount ++ putFlag x.holdTimer.isRunning ++
          putTime x.cycleNumber ++ put8 x.boundRecipe.val ++ rest)) ∧
    (∃ (persists : Bool) (rest : List Byte), (persists = true ↔ WeigherPersists s) ∧ Answers (.statusWeigher h) s h 10 s .done
      (put8 s.weigher.state.code ++ put8 s.weigher.cause.code ++ putFlag persists ++ putGate s.weigher.wantedGate ++
        putGate s.weigher.lastGate ++ rest)) ∧
    (∃ rest, Answers (.statusStore h) s h 10 s .done
      (putTime s.store.oldest ++ putTime s.store.cursor ++ putTime s.store.autoPos ++ putTime s.store.next ++ put16 s.store.held ++
        rest))

/-- The history requests (R158, R159, R163 to R165, R162): refused with STATE while the sender is busy; the cursor's moves, with the test of
BACKLOG (R167); the records a release frees, with the test of STORE_LOW and, when bytes were freed, the arbiter's test (R126, R164); the
moves of the cursor stop on a lot mark just passed, at the end they come to, or on their count; a lot mark is appended as `StoreAppendRule`
says; every answer ends with the overrun flag, which it clears, and oldest, cursor and next. The flag of a LOT-MARK answer is set too when
its own append lost unread records (R156). The order of an answer's fields is log entry 23, their widths log entry 8, and the busy test
before direction and count log entry 10. -/
def Obligations.HistoryRequestsRule : Prop :=
  ∀ (h : ReqHeader) (s : State), Served s h →
    let pointers (x : Store) : List Byte := putFlag s.store.overrun ++ putTime x.oldest ++ putTime x.cursor ++ putTime x.next
    let busy := s.store.sender ≠ none ∨ s.store.autoPos ≠ s.store.cursor
    let seen : State := { s with store := { s.store with overrun := false } }
    (busy → Answers (.historyRead h) s h 11 seen .state (pointers s.store) ∧
      (∀ d n, Answers (.historySpace h d n) s h 12 seen .state (pointers s.store)) ∧
      Answers (.historyRewind h) s h 13 seen .state (pointers s.store) ∧
      Answers (.historyRelease h) s h 14 seen .state (pointers s.store)) ∧
    (¬busy → s.store.cursor = s.store.next → Answers (.historyRead h) s h 11 seen .endOfRecords (pointers s.store)) ∧
    (∀ r, ¬busy → s.store.cursor ≠ s.store.next → s.store.record? s.store.cursor = some r →
      Answers (.historyRead h) s h 11
        { s with store := { s.store with
            overrun := false,
            sender := some { seq := s.store.cursor, origin := .read, dest := h.src, index := 0, answered := false, cut := false } } }
        .done (putTime s.store.cursor ++ put8 (recordKind r) ++ put8 r.length ++ pointers s.store)) ∧
    (∀ d n, ¬busy → n = 0 ∨ 2 ≤ d → Answers (.historySpace h d n) s h 12 seen .badContent (pointers s.store)) ∧
    (∀ d n, ¬busy → n ≠ 0 → d ≤ 1 →
      let place (j : Nat) : Time := if d = 0 then s.store.cursor + BitVec.ofNat 32 j else s.store.cursor - BitVec.ofNat 32 j
      let bound : Time := if d = 0 then s.store.next else s.store.oldest
      let isMark (j : Nat) : Prop := ∃ r, s.store.record? (if d = 0 then place j else place (j + 1)) = some r ∧ recordKind r = 3
      ∃ t moved left reason, moved + left = n ∧ (∀ j, j < moved → place j ≠ bound) ∧ (∀ j, j + 1 < moved → ¬isMark j) ∧
        reason ≤ 3 ∧ (reason = 0 → left = 0) ∧ (reason = 1 ↔ 0 < moved ∧ isMark (moved - 1)) ∧
        (reason = 2 → d = 0 ∧ left ≠ 0 ∧ place moved = bound) ∧ (reason = 3 → d = 1 ∧ left ≠ 0 ∧ place moved = bound) ∧
        (∃ u, u = State.testBacklog { s with store := { s.store with cursor := place moved, autoPos := place moved } } ∧
          t = { u with store := { u.store with overrun := false } }) ∧
        Answers (.historySpace h d n) s h 12 t .done (put16 moved ++ put16 left ++ put8 reason ++ pointers t.store)) ∧
    (¬busy → ∃ t u, u = State.testBacklog { s with store := { s.store with cursor := s.store.oldest, autoPos := s.store.oldest } } ∧
      t = { u with store := { u.store with overrun := false } } ∧ t.store.cursor = s.store.oldest ∧ t.store.ring = s.store.ring ∧
      Answers (.historyRewind h) s h 13 t .done (put16 (s.store.cursor - s.store.oldest).toNat ++ pointers t.store)) ∧
    (¬busy →
      let n := (s.store.cursor - s.store.oldest).toNat
      let held := s.store.held - ((s.store.ring.take n).map List.length).sum
      let u := State.testLow { s with store := { s.store with ring := s.store.ring.drop n, oldest := s.store.cursor, held := held } }
      ∃ t v, v = (if held < s.store.held then u.consider else u) ∧ t = { v with store := { v.store with overrun := false } } ∧
        t.store.ring = s.store.ring.drop n ∧ t.store.oldest = s.store.cursor ∧ t.store.cursor = s.store.cursor ∧
        t.store.next = s.store.next ∧ t.store.held = held ∧
        Answers (.historyRelease h) s h 14 t .done (put16 n ++ put16 (s.store.held - held) ++ pointers t.store)) ∧
    (∀ l, s.store.settings.policy = .hold → s.store.room < 16 →
      Answers (.lotMark h l) s h 15 seen .full (pointers s.store)) ∧
    (∀ l, s.store.settings.policy = .overwrite ∨ 16 ≤ s.store.room →
      ∃ t u v mark,
        mark = put8 3 ++ put8 16 ++ [h.src] ++ put8 s.store.settings.policy.code ++ put32 l ++ putTime s.now ++ put16 t.store.held ++
          put16 (16384 - t.store.held - 168 * s.store.reservations) ∧
        u = (s.makeRoom 16).pushRecord mark true ∧ v = (if s.store.room < u.store.room then u.consider else u) ∧
        t = { v with store := { v.store with overrun := false } } ∧
        t.store.next = s.store.next + 1 ∧ t.store.ring.getLast? = some mark ∧
        ∃ flag : Bool, (s.store.ring.length < 4294967296 → (flag = true ↔ s.store.overrun = true ∨
            (s.store.cursor - s.store.oldest).toNat < (t.store.oldest - s.store.oldest).toNat ∨
            (s.store.autoPos - s.store.oldest).toNat < (t.store.oldest - s.store.oldest).toNat)) ∧
          Answers (.lotMark h l) s h 15 t .done
            (putTime s.store.next ++ putFlag flag ++ putTime t.store.oldest ++ putTime t.store.cursor ++ putTime t.store.next)) ∧
    (∀ o, o ≤ 1 → Answers (.auto h o) s h 16
      { s with store := { s.store with overrun := false, settings := { s.store.settings with autoSend := o == 1 } } } .done
      (pointers s.store)) ∧
    (∀ o, 2 ≤ o → Answers (.auto h o) s h 16 seen .badContent (pointers s.store))

/-! ### Frames of all the commands -/

/-- What no command but its own changes: the node address, the time base, the mode, every table, the notice mask and the weigher's
settings. A raw frame may carry any of the requests, and is left out where a request is the owner. -/
def Obligations.TablesChangeOnlyByTheirCommands : Prop :=
  ∀ (i : Instr) (s t : State), exec i s = .next t → (∀ k, i ≠ .powerOnReset k) →
    t.nodeAddress = s.nodeAddress ∧
    (i ≠ .transmissionEnd → i ≠ .restartTakeEffect → t.now = s.now) ∧
    ((∀ f, i ≠ .ringInFrame f) →
      (i ≠ .transmissionEnd → i ≠ .restartTakeEffect → (∀ h m, i ≠ .modeSet h m) → t.mode = s.mode) ∧
      ((∀ h n w, i ≠ .entryWriteRoute h n w) → t.port.routes = s.port.routes) ∧
      ((∀ h n w b, i ≠ .entryWriteStation h n w b) → ∀ st : Fin 6, (t.station st).settings = (s.station st).settings) ∧
      ((∀ h n b, i ≠ .bind h n b) → ∀ st : Fin 6, (t.station st).boundRecipe = (s.station st).boundRecipe) ∧
      ((∀ h n z w, i ≠ .entryWriteZone h n z w) →
        ∀ (st : Fin 6) (z : Fin 16), ((t.station st).zones[z]).entry = ((s.station st).zones[z]).entry) ∧
      ((∀ h n w, i ≠ .entryWriteProfile h n w) → t.profilesShadow = s.profilesShadow) ∧
      ((∀ h, i ≠ .profilesApply h) → t.profilesLive = s.profilesLive) ∧
      ((∀ h n w, i ≠ .entryWriteRecipe h n w) → t.recipes = s.recipes) ∧
      ((∀ h x j f, i ≠ .entryWriteRate h x j f) → t.rates = s.rates) ∧
      ((∀ h w, i ≠ .entryWriteWeigher h w) → t.weigher.settings = s.weigher.settings) ∧
      ((∀ h w, i ≠ .entryWriteHistory h w) → (∀ h o, i ≠ .auto h o) → t.store.settings = s.store.settings) ∧
      ((∀ h m, i ≠ .noticeMask h m) → t.port.mask = s.port.mask))
end

