-- ==== Sys2Proof/Laws/State.lean ====
section
/-! SUPPORT. One lemma per field and update of the state, all true by rfl, and reading back what an update wrote. -/

namespace Sys2Proof.Machine

variable (s : State)

/-! ### The fields an update leaves -/

@[simp] theorem State.setStation_pending (st : Fin 6) (x : Station) : (s.setStation st x).pending = s.pending := rfl

@[simp] theorem State.setStation_mode (st : Fin 6) (x : Station) : (s.setStation st x).mode = s.mode := rfl

@[simp] theorem State.setStation_nodeAddress (st : Fin 6) (x : Station) : (s.setStation st x).nodeAddress = s.nodeAddress := rfl

@[simp] theorem State.setStation_now (st : Fin 6) (x : Station) : (s.setStation st x).now = s.now := rfl

@[simp] theorem State.setStation_port (st : Fin 6) (x : Station) : (s.setStation st x).port = s.port := rfl

@[simp] theorem State.setStation_profilesShadow (st : Fin 6) (x : Station) : (s.setStation st x).profilesShadow = s.profilesShadow := rfl

@[simp] theorem State.setStation_profilesLive (st : Fin 6) (x : Station) : (s.setStation st x).profilesLive = s.profilesLive := rfl

@[simp] theorem State.setStation_recipes (st : Fin 6) (x : Station) : (s.setStation st x).recipes = s.recipes := rfl

@[simp] theorem State.setStation_rates (st : Fin 6) (x : Station) : (s.setStation st x).rates = s.rates := rfl

@[simp] theorem State.setStation_weigher (st : Fin 6) (x : Station) : (s.setStation st x).weigher = s.weigher := rfl

@[simp] theorem State.setStation_arbiter (st : Fin 6) (x : Station) : (s.setStation st x).arbiter = s.arbiter := rfl

@[simp] theorem State.setStation_store (st : Fin 6) (x : Station) : (s.setStation st x).store = s.store := rfl

@[simp] theorem State.modStation_pending (st : Fin 6) (f : Station → Station) : (s.modStation st f).pending = s.pending := rfl

@[simp] theorem State.modStation_mode (st : Fin 6) (f : Station → Station) : (s.modStation st f).mode = s.mode := rfl

@[simp] theorem State.modStation_nodeAddress (st : Fin 6) (f : Station → Station) : (s.modStation st f).nodeAddress = s.nodeAddress := rfl

@[simp] theorem State.modStation_now (st : Fin 6) (f : Station → Station) : (s.modStation st f).now = s.now := rfl

@[simp] theorem State.modStation_port (st : Fin 6) (f : Station → Station) : (s.modStation st f).port = s.port := rfl

@[simp] theorem State.modStation_profilesShadow (st : Fin 6) (f : Station → Station) : (s.modStation st f).profilesShadow = s.profilesShadow := rfl

@[simp] theorem State.modStation_profilesLive (st : Fin 6) (f : Station → Station) : (s.modStation st f).profilesLive = s.profilesLive := rfl

@[simp] theorem State.modStation_recipes (st : Fin 6) (f : Station → Station) : (s.modStation st f).recipes = s.recipes := rfl

@[simp] theorem State.modStation_rates (st : Fin 6) (f : Station → Station) : (s.modStation st f).rates = s.rates := rfl

@[simp] theorem State.modStation_weigher (st : Fin 6) (f : Station → Station) : (s.modStation st f).weigher = s.weigher := rfl

@[simp] theorem State.modStation_arbiter (st : Fin 6) (f : Station → Station) : (s.modStation st f).arbiter = s.arbiter := rfl

@[simp] theorem State.modStation_store (st : Fin 6) (f : Station → Station) : (s.modStation st f).store = s.store := rfl

@[simp] theorem State.modCtx_pending (st : Fin 6) (f : Context → Context) : (s.modCtx st f).pending = s.pending := rfl

@[simp] theorem State.modCtx_mode (st : Fin 6) (f : Context → Context) : (s.modCtx st f).mode = s.mode := rfl

@[simp] theorem State.modCtx_nodeAddress (st : Fin 6) (f : Context → Context) : (s.modCtx st f).nodeAddress = s.nodeAddress := rfl

@[simp] theorem State.modCtx_now (st : Fin 6) (f : Context → Context) : (s.modCtx st f).now = s.now := rfl

@[simp] theorem State.modCtx_port (st : Fin 6) (f : Context → Context) : (s.modCtx st f).port = s.port := rfl

@[simp] theorem State.modCtx_profilesShadow (st : Fin 6) (f : Context → Context) : (s.modCtx st f).profilesShadow = s.profilesShadow := rfl

@[simp] theorem State.modCtx_profilesLive (st : Fin 6) (f : Context → Context) : (s.modCtx st f).profilesLive = s.profilesLive := rfl

@[simp] theorem State.modCtx_recipes (st : Fin 6) (f : Context → Context) : (s.modCtx st f).recipes = s.recipes := rfl

@[simp] theorem State.modCtx_rates (st : Fin 6) (f : Context → Context) : (s.modCtx st f).rates = s.rates := rfl

@[simp] theorem State.modCtx_weigher (st : Fin 6) (f : Context → Context) : (s.modCtx st f).weigher = s.weigher := rfl

@[simp] theorem State.modCtx_arbiter (st : Fin 6) (f : Context → Context) : (s.modCtx st f).arbiter = s.arbiter := rfl

@[simp] theorem State.modCtx_store (st : Fin 6) (f : Context → Context) : (s.modCtx st f).store = s.store := rfl

@[simp] theorem State.modPort_pending (f : Port → Port) : (s.modPort f).pending = s.pending := rfl

@[simp] theorem State.modPort_mode (f : Port → Port) : (s.modPort f).mode = s.mode := rfl

@[simp] theorem State.modPort_nodeAddress (f : Port → Port) : (s.modPort f).nodeAddress = s.nodeAddress := rfl

@[simp] theorem State.modPort_now (f : Port → Port) : (s.modPort f).now = s.now := rfl

@[simp] theorem State.modPort_stations (f : Port → Port) : (s.modPort f).stations = s.stations := rfl

@[simp] theorem State.modPort_profilesShadow (f : Port → Port) : (s.modPort f).profilesShadow = s.profilesShadow := rfl

@[simp] theorem State.modPort_profilesLive (f : Port → Port) : (s.modPort f).profilesLive = s.profilesLive := rfl

@[simp] theorem State.modPort_recipes (f : Port → Port) : (s.modPort f).recipes = s.recipes := rfl

@[simp] theorem State.modPort_rates (f : Port → Port) : (s.modPort f).rates = s.rates := rfl

@[simp] theorem State.modPort_weigher (f : Port → Port) : (s.modPort f).weigher = s.weigher := rfl

@[simp] theorem State.modPort_arbiter (f : Port → Port) : (s.modPort f).arbiter = s.arbiter := rfl

@[simp] theorem State.modPort_store (f : Port → Port) : (s.modPort f).store = s.store := rfl

@[simp] theorem State.modWeigher_pending (f : Weigher → Weigher) : (s.modWeigher f).pending = s.pending := rfl

@[simp] theorem State.modWeigher_mode (f : Weigher → Weigher) : (s.modWeigher f).mode = s.mode := rfl

@[simp] theorem State.modWeigher_nodeAddress (f : Weigher → Weigher) : (s.modWeigher f).nodeAddress = s.nodeAddress := rfl

@[simp] theorem State.modWeigher_now (f : Weigher → Weigher) : (s.modWeigher f).now = s.now := rfl

@[simp] theorem State.modWeigher_port (f : Weigher → Weigher) : (s.modWeigher f).port = s.port := rfl

@[simp] theorem State.modWeigher_stations (f : Weigher → Weigher) : (s.modWeigher f).stations = s.stations := rfl

@[simp] theorem State.modWeigher_profilesShadow (f : Weigher → Weigher) : (s.modWeigher f).profilesShadow = s.profilesShadow := rfl

@[simp] theorem State.modWeigher_profilesLive (f : Weigher → Weigher) : (s.modWeigher f).profilesLive = s.profilesLive := rfl

@[simp] theorem State.modWeigher_recipes (f : Weigher → Weigher) : (s.modWeigher f).recipes = s.recipes := rfl

@[simp] theorem State.modWeigher_rates (f : Weigher → Weigher) : (s.modWeigher f).rates = s.rates := rfl

@[simp] theorem State.modWeigher_arbiter (f : Weigher → Weigher) : (s.modWeigher f).arbiter = s.arbiter := rfl

@[simp] theorem State.modWeigher_store (f : Weigher → Weigher) : (s.modWeigher f).store = s.store := rfl

@[simp] theorem State.modStore_pending (f : Store → Store) : (s.modStore f).pending = s.pending := rfl

@[simp] theorem State.modStore_mode (f : Store → Store) : (s.modStore f).mode = s.mode := rfl

@[simp] theorem State.modStore_nodeAddress (f : Store → Store) : (s.modStore f).nodeAddress = s.nodeAddress := rfl

@[simp] theorem State.modStore_now (f : Store → Store) : (s.modStore f).now = s.now := rfl

@[simp] theorem State.modStore_port (f : Store → Store) : (s.modStore f).port = s.port := rfl

@[simp] theorem State.modStore_stations (f : Store → Store) : (s.modStore f).stations = s.stations := rfl

@[simp] theorem State.modStore_profilesShadow (f : Store → Store) : (s.modStore f).profilesShadow = s.profilesShadow := rfl

@[simp] theorem State.modStore_profilesLive (f : Store → Store) : (s.modStore f).profilesLive = s.profilesLive := rfl

@[simp] theorem State.modStore_recipes (f : Store → Store) : (s.modStore f).recipes = s.recipes := rfl

@[simp] theorem State.modStore_rates (f : Store → Store) : (s.modStore f).rates = s.rates := rfl

@[simp] theorem State.modStore_weigher (f : Store → Store) : (s.modStore f).weigher = s.weigher := rfl

@[simp] theorem State.modStore_arbiter (f : Store → Store) : (s.modStore f).arbiter = s.arbiter := rfl


/-! ### The field an update writes -/

@[simp] theorem State.modPort_port (f : Port → Port) : (s.modPort f).port = f s.port := rfl

@[simp] theorem State.modWeigher_weigher (f : Weigher → Weigher) : (s.modWeigher f).weigher = f s.weigher := rfl

@[simp] theorem State.modStore_store (f : Store → Store) : (s.modStore f).store = f s.store := rfl

/-! ### Stations -/

@[simp] theorem State.station_modPort (f : Port → Port) (st : Fin 6) : (s.modPort f).station st = s.station st := rfl

@[simp] theorem State.station_modWeigher (f : Weigher → Weigher) (st : Fin 6) : (s.modWeigher f).station st = s.station st := rfl

@[simp] theorem State.station_modStore (f : Store → Store) (st : Fin 6) : (s.modStore f).station st = s.station st := rfl

@[simp] theorem State.ctx?_modPort (f : Port → Port) (st : Fin 6) : (s.modPort f).ctx? st = s.ctx? st := rfl

@[simp] theorem State.ctx?_modWeigher (f : Weigher → Weigher) (st : Fin 6) : (s.modWeigher f).ctx? st = s.ctx? st := rfl

@[simp] theorem State.ctx?_modStore (f : Store → Store) (st : Fin 6) : (s.modStore f).ctx? st = s.ctx? st := rfl

/-- Reading a station after a write of a station. -/
theorem State.station_setStation (st sx : Fin 6) (x : Station) :
    (s.setStation st x).station sx = if sx = st then x else s.station sx := by
  unfold State.station State.setStation
  by_cases h : sx = st
  · subst h; simp
  · have h' : st.val ≠ sx.val := fun e => h (Fin.ext e.symm)
    simp [h, Vector.getElem_set_ne _ _ h']

@[simp] theorem State.station_setStation_self (st : Fin 6) (x : Station) : (s.setStation st x).station st = x := by
  simp [State.station_setStation]

@[simp] theorem State.station_modStation_self (st : Fin 6) (f : Station → Station) :
    (s.modStation st f).station st = f (s.station st) := by
  simp [State.modStation]

/-- An update of a station leaves the other stations. -/
theorem State.station_modStation_of_ne {st sx : Fin 6} (f : Station → Station) (h : sx ≠ st) :
    (s.modStation st f).station sx = s.station sx := by
  simp [State.modStation, State.station_setStation, h]

@[simp] theorem State.station_modCtx_self (st : Fin 6) (f : Context → Context) :
    (s.modCtx st f).station st = { s.station st with ctx := (s.station st).ctx.map f } := by
  simp [State.modCtx]

@[simp] theorem State.ctx?_modCtx_self (st : Fin 6) (f : Context → Context) : (s.modCtx st f).ctx? st = (s.ctx? st).map f := by
  simp [State.ctx?]

/-- An update of a context leaves the other stations. -/
theorem State.station_modCtx_of_ne {st sx : Fin 6} (f : Context → Context) (h : sx ≠ st) :
    (s.modCtx st f).station sx = s.station sx := State.station_modStation_of_ne s _ h

end Sys2Proof.Machine
end

