-- ==== Sys2Proof/Laws/Frames.lean ====
section
/-! SUPPORT. What the blocks leave alone. `State.line` gathers what no block changes: the queue, the mode, the address, the time base,
the tables, and of the line port all but the slate, the notices and the request buffer. Each operation of a block has one lemma:
it leaves `State.line` as it was. -/

set_option linter.unusedSimpArgs false
set_option linter.unusedTactic false
set_option linter.unreachableTactic false

namespace Sys2Proof.Machine

/-- What no block changes. -/
structure LineView where
  pending : List Instr
  mode : Mode
  nodeAddress : Option Byte
  now : Time
  profilesShadow : Vector Profile 16
  profilesLive : Vector Profile 16
  recipes : Vector Recipe 16
  rates : Vector (Vector Nat 32) 4
  lineErrors : Nat
  forward : List Frame
  lastSlot : Fin 19
  report : List OutFrame
  lastReport : ReportClaimant
  lastRing : RingClaimant
  seqCounter : Byte
  sending : Option Frame
  routes : Vector RouteEntry 32
  silence : Vector Silence 32
  mask : Vector Bool 11
  stray : Fin 77 → Bool

/-- A notice flag is pending although its kind is disabled (R183 leaves none). -/
def Port.stray (p : Port) (i : Fin 77) : Bool := (p.notices[i]).isSome && !p.mask[(⟨i.val / 7, by omega⟩ : Fin 11)]

/-- The view of a state. -/
def State.line (s : State) : LineView :=
  { pending := s.pending, mode := s.mode, nodeAddress := s.nodeAddress, now := s.now, profilesShadow := s.profilesShadow,
    profilesLive := s.profilesLive, recipes := s.recipes, rates := s.rates, lineErrors := s.port.lineErrors, forward := s.port.forward,
    lastSlot := s.port.lastSlot, report := s.port.report, lastReport := s.port.lastReport, lastRing := s.port.lastRing,
    seqCounter := s.port.seqCounter, sending := s.port.sending, routes := s.port.routes, silence := s.port.silence, mask := s.port.mask,
    stray := s.port.stray }

theorem State.pending_of_line {s t : State} (h : t.line = s.line) : t.pending = s.pending := congrArg LineView.pending h

theorem State.mode_of_line {s t : State} (h : t.line = s.line) : t.mode = s.mode := congrArg LineView.mode h

theorem State.nodeAddress_of_line {s t : State} (h : t.line = s.line) : t.nodeAddress = s.nodeAddress := congrArg LineView.nodeAddress h

theorem State.now_of_line {s t : State} (h : t.line = s.line) : t.now = s.now := congrArg LineView.now h

theorem State.profilesShadow_of_line {s t : State} (h : t.line = s.line) : t.profilesShadow = s.profilesShadow := congrArg LineView.profilesShadow h

theorem State.profilesLive_of_line {s t : State} (h : t.line = s.line) : t.profilesLive = s.profilesLive := congrArg LineView.profilesLive h

theorem State.recipes_of_line {s t : State} (h : t.line = s.line) : t.recipes = s.recipes := congrArg LineView.recipes h

theorem State.rates_of_line {s t : State} (h : t.line = s.line) : t.rates = s.rates := congrArg LineView.rates h

theorem State.stray_of_line {s t : State} (h : t.line = s.line) : t.port.stray = s.port.stray := congrArg LineView.stray h

theorem State.lineErrors_of_line {s t : State} (h : t.line = s.line) : t.port.lineErrors = s.port.lineErrors := congrArg LineView.lineErrors h

theorem State.forward_of_line {s t : State} (h : t.line = s.line) : t.port.forward = s.port.forward := congrArg LineView.forward h

theorem State.lastSlot_of_line {s t : State} (h : t.line = s.line) : t.port.lastSlot = s.port.lastSlot := congrArg LineView.lastSlot h

theorem State.report_of_line {s t : State} (h : t.line = s.line) : t.port.report = s.port.report := congrArg LineView.report h

theorem State.lastReport_of_line {s t : State} (h : t.line = s.line) : t.port.lastReport = s.port.lastReport := congrArg LineView.lastReport h

theorem State.lastRing_of_line {s t : State} (h : t.line = s.line) : t.port.lastRing = s.port.lastRing := congrArg LineView.lastRing h

theorem State.seqCounter_of_line {s t : State} (h : t.line = s.line) : t.port.seqCounter = s.port.seqCounter := congrArg LineView.seqCounter h

theorem State.sending_of_line {s t : State} (h : t.line = s.line) : t.port.sending = s.port.sending := congrArg LineView.sending h

theorem State.routes_of_line {s t : State} (h : t.line = s.line) : t.port.routes = s.port.routes := congrArg LineView.routes h

theorem State.silence_of_line {s t : State} (h : t.line = s.line) : t.port.silence = s.port.silence := congrArg LineView.silence h

theorem State.mask_of_line {s t : State} (h : t.line = s.line) : t.port.mask = s.port.mask := congrArg LineView.mask h

/-! ### The updates -/

@[simp] theorem State.line_setStation (s : State) (st : Fin 6) (x : Station) : (s.setStation st x).line = s.line := rfl

@[simp] theorem State.line_modStation (s : State) (st : Fin 6) (f : Station → Station) : (s.modStation st f).line = s.line := rfl

@[simp] theorem State.line_modCtx (s : State) (st : Fin 6) (f : Context → Context) : (s.modCtx st f).line = s.line := rfl

@[simp] theorem State.line_modWeigher (s : State) (f : Weigher → Weigher) : (s.modWeigher f).line = s.line := rfl

@[simp] theorem State.line_modStore (s : State) (f : Store → Store) : (s.modStore f).line = s.line := rfl

@[simp] theorem State.line_arbiter (s : State) (a : Arbiter) : ({ s with arbiter := a } : State).line = s.line := rfl

/-- A fold of operations that leave the view leaves it. -/
theorem State.line_foldl {α : Type} (f : State → α → State) (h : ∀ s a, (f s a).line = s.line) (l : List α) (s : State) :
    (l.foldl f s).line = s.line := by
  induction l generalizing s with
  | nil => rfl
  | cons a l ih => exact (ih (f s a)).trans (h s a)

/-! ### Ops -/

@[simp] theorem State.line_placeSlot (s : State) (slot : Fin 19) (f : OutFrame) : (s.placeSlot slot f).line = s.line := rfl

@[simp] theorem State.line_placeCommand (s : State) (slot : Fin 19) (r : Role) (station : Nat) (kind : Byte) (payload : List Byte) : (s.placeCommand slot r station kind payload).line = s.line := by
  unfold State.placeCommand
  (try dsimp only)
  repeat' split
  all_goals simp [apply_ite State.line]

@[simp] theorem State.line_placeDuty (s : State) (st : Fin 6) (nodeRound : Half) (duty : List Nat) : (s.placeDuty st nodeRound duty).line = s.line := by
  unfold State.placeDuty
  (try dsimp only)
  repeat' split
  all_goals simp [apply_ite State.line]

@[simp] theorem State.line_placePermit (s : State) (st : Fin 6) : (s.placePermit st).line = s.line := by
  unfold State.placePermit
  (try dsimp only)
  repeat' split
  all_goals simp [apply_ite State.line]

@[simp] theorem State.line_placeEject (s : State) (st : Fin 6) : (s.placeEject st).line = s.line := by
  unfold State.placeEject
  (try dsimp only)
  repeat' split
  all_goals simp [apply_ite State.line]

@[simp] theorem State.line_placeGate (s : State) : (s.placeGate).line = s.line := by
  unfold State.placeGate
  (try dsimp only)
  repeat' split
  all_goals simp [apply_ite State.line]

@[simp] theorem State.line_wantEject (s : State) (st : Fin 6) (w : EjectCmd) : (s.wantEject st w).line = s.line := by
  unfold State.wantEject
  (try dsimp only)
  repeat' split
  all_goals simp [apply_ite State.line]

@[simp] theorem State.line_wantGate (s : State) (g : Gate) : (s.wantGate g).line = s.line := by
  unfold State.wantGate
  (try dsimp only)
  repeat' split
  all_goals simp [apply_ite State.line]

/-! ### Flags -/

@[simp] theorem State.line_raise (s : State) (kind : NoticeKind) (key : Option (Fin 6)) (values : List Byte) : (s.raise kind key values).line = s.line := by
  unfold State.raise
  split
  · rename_i hm
    have hs : (fun i => Port.stray { s.port with
        notices := s.port.notices.set (noticeSlot kind key)
          (some { count := satAdd 255 ((s.port.notices[noticeSlot kind key]).elim 0 (·.count)) 1, time := s.now, values := values }) } i)
        = s.port.stray := by
      funext i
      unfold Port.stray
      by_cases h : noticeSlot kind key = i
      · subst h
        have hk : (⟨(noticeSlot kind key).val / 7, by omega⟩ : Fin 11) = kind.index := by
          apply Fin.ext
          have := (keyIndex key).isLt
          simp only [noticeSlot]
          omega
        simp [hk, hm]
      · have h' : (noticeSlot kind key).val ≠ i.val := fun e => h (Fin.ext e)
        simp [Vector.getElem_set_ne _ _ h']
    simp only [State.line, State.modPort]
    congr 1
  · rfl

@[simp] theorem State.line_raiseStationState (s : State) (st : Fin 6) : (s.raiseStationState st).line = s.line := by
  unfold State.raiseStationState
  (try dsimp only)
  repeat' split
  all_goals simp [apply_ite State.line]

/-! ### Groups -/

@[simp] theorem State.line_resolveAfresh (s : State) (st : Fin 6) : (s.resolveAfresh st).line = s.line := by
  unfold State.resolveAfresh
  (try dsimp only)
  repeat' split
  all_goals simp [apply_ite State.line]

@[simp] theorem State.line_resolveOne (s : State) (st : Fin 6) (g : Fin 4) : (s.resolveOne st g).line = s.line := by
  unfold State.resolveOne
  (try dsimp only)
  repeat' split
  all_goals simp [apply_ite State.line]

@[simp] theorem State.line_rereadGroups (s : State) (st : Fin 6) : (s.rereadGroups st).line = s.line := by
  unfold State.rereadGroups
  (try dsimp only)
  repeat' split
  all_goals simp [apply_ite State.line]

/-! ### Store -/

@[simp] theorem State.line_testBacklog (s : State) : (s.testBacklog).line = s.line := by
  unfold State.testBacklog
  (try dsimp only)
  repeat' split
  all_goals simp [apply_ite State.line]

@[simp] theorem State.line_testLow (s : State) : (s.testLow).line = s.line := by
  unfold State.testLow
  (try dsimp only)
  repeat' split
  all_goals simp [apply_ite State.line]

@[simp] theorem State.line_makeRoom (s : State) (size : Nat) : (s.makeRoom size).line = s.line := by
  unfold State.makeRoom
  dsimp only
  split
  · rfl
  · split <;> simp [show ∀ x : Store, ({ s with store := x } : State).line = s.line from fun _ => rfl]

@[simp] theorem State.line_pushRecord (s : State) (bytes : List Byte) (pass : Bool) : (s.pushRecord bytes pass).line = s.line := by
  unfold State.pushRecord
  (try dsimp only)
  repeat' split
  all_goals simp [apply_ite State.line]

@[simp] theorem State.line_reserve (s : State) : (s.reserve).line = s.line := by
  unfold State.reserve
  (try dsimp only)
  repeat' split
  all_goals simp [apply_ite State.line]

@[simp] theorem State.line_useReservation (s : State) (r : Reservation) : (s.useReservation r).line = s.line := by
  unfold State.useReservation
  (try dsimp only)
  repeat' split
  all_goals simp [apply_ite State.line]

/-! ### Calls -/

@[simp] theorem State.line_setState (s : State) (st : Fin 6) (new : StationState) : (s.setState st new).line = s.line := by
  unfold State.setState
  (try dsimp only)
  repeat' split
  all_goals simp [apply_ite State.line]

@[simp] theorem State.line_createContext (s : State) (st : Fin 6) (res : Reservation) : (s.createContext st res).line = s.line := by
  unfold State.createContext
  (try dsimp only)
  repeat' split
  all_goals simp [apply_ite State.line]

@[simp] theorem State.line_armWeigher (s : State) (st : Fin 6) : (s.armWeigher st).line = s.line := by
  unfold State.armWeigher
  (try dsimp only)
  repeat' split
  all_goals simp [apply_ite State.line]

@[simp] theorem State.line_removeCall (s : State) (st : Fin 6) : (s.removeCall st).line = s.line := by
  unfold State.removeCall
  (try dsimp only)
  repeat' split
  all_goals simp [apply_ite State.line]

@[simp] theorem State.line_grant (s : State) (st : Fin 6) : (s.grant st).line = s.line := by
  unfold State.grant
  (try dsimp only)
  repeat' split
  all_goals simp [apply_ite State.line]

@[simp] theorem State.line_recipeMissing (s : State) (st : Fin 6) : (s.recipeMissing st).line = s.line := by
  unfold State.recipeMissing
  (try dsimp only)
  repeat' split
  all_goals simp [apply_ite State.line]

@[simp] theorem State.line_considerFrom (l : List (Fin 6)) (s : State) : (State.considerFrom l s).line = s.line := by
  induction l generalizing s with
  | nil => rfl
  | cons st l ih =>
    unfold State.considerFrom
    repeat' split
    all_goals simp [ih]

@[simp] theorem State.line_consider (s : State) : (s.consider).line = s.line := by
  unfold State.consider
  (try dsimp only)
  repeat' split
  all_goals simp [apply_ite State.line]

@[simp] theorem State.line_leaveQueue (s : State) (st : Fin 6) : (s.leaveQueue st).line = s.line := by
  unfold State.leaveQueue
  (try dsimp only)
  repeat' split
  all_goals simp [apply_ite State.line]

@[simp] theorem State.line_enterCalling (s : State) (st : Fin 6) (atHead : Bool) : (s.enterCalling st atHead).line = s.line := by
  unfold State.enterCalling
  (try dsimp only)
  repeat' split
  all_goals simp [apply_ite State.line]

@[simp] theorem State.line_lookCalling (s : State) (st : Fin 6) : (s.lookCalling st).line = s.line := by
  unfold State.lookCalling
  (try dsimp only)
  repeat' split
  all_goals simp [apply_ite State.line]

@[simp] theorem State.line_enterReady (s : State) (st : Fin 6) : (s.enterReady st).line = s.line := by
  unfold State.enterReady
  (try dsimp only)
  repeat' split
  all_goals simp [apply_ite State.line]

@[simp] theorem State.line_pushAndReport (s : State) (before : Nat) (bytes : List Byte) : (s.pushAndReport before bytes).line = s.line := by
  unfold State.pushAndReport
  (try dsimp only)
  repeat' split
  all_goals simp [apply_ite State.line]

@[simp] theorem State.line_appendCycle (s : State) (r : Reservation) (bytes : List Byte) : (s.appendCycle r bytes).line = s.line := by
  unfold State.appendCycle
  (try dsimp only)
  repeat' split
  all_goals simp [apply_ite State.line]

@[simp] theorem State.line_releaseContext (s : State) (st : Fin 6) : (s.releaseContext st).line = s.line := by
  unfold State.releaseContext
  (try dsimp only)
  repeat' split
  all_goals simp [apply_ite State.line]

/-! ### Holds -/

@[simp] theorem State.line_enterClearing (s : State) (g : Gate) : (s.enterClearing g).line = s.line := by
  unfold State.enterClearing
  (try dsimp only)
  repeat' split
  all_goals simp [apply_ite State.line]

@[simp] theorem State.line_endGrant (s : State) : (s.endGrant).line = s.line := rfl

@[simp] theorem State.line_rejectCycle (s : State) (st : Fin 6) (reason : RejectReason) (total : Int) (time : Time) : (s.rejectCycle st reason total time).line = s.line := by
  unfold State.rejectCycle
  (try dsimp only)
  repeat' split
  all_goals simp [apply_ite State.line]

@[simp] theorem State.line_abortWeigh (s : State) (st : Fin 6) : (s.abortWeigh st).line = s.line := by
  unfold State.abortWeigh
  (try dsimp only)
  repeat' split
  all_goals simp [apply_ite State.line]

@[simp] theorem State.line_stopWork (s : State) (st : Fin 6) : (s.stopWork st).line = s.line := by
  unfold State.stopWork
  (try dsimp only)
  repeat' split
  all_goals simp [apply_ite State.line]

@[simp] theorem State.line_enterLatched (s : State) (st : Fin 6) (cause : Cause) : (s.enterLatched st cause).line = s.line := by
  unfold State.enterLatched
  (try dsimp only)
  repeat' split
  all_goals simp [apply_ite State.line]

@[simp] theorem State.line_takePlatenLost (s : State) (st : Fin 6) : (s.takePlatenLost st).line = s.line := by
  unfold State.takePlatenLost
  (try dsimp only)
  repeat' split
  all_goals simp [apply_ite State.line]

@[simp] theorem State.line_enterHold (s : State) (st : Fin 6) (cause : Cause) : (s.enterHold st cause).line = s.line := by
  unfold State.enterHold
  (try dsimp only)
  repeat' split
  all_goals simp [apply_ite State.line]

@[simp] theorem State.line_replaceHold (s : State) (st : Fin 6) (cause : Cause) : (s.replaceHold st cause).line = s.line := by
  unfold State.replaceHold
  (try dsimp only)
  repeat' split
  all_goals simp [apply_ite State.line]

@[simp] theorem State.line_takeCause (s : State) (st : Fin 6) (cause : Cause) : (s.takeCause st cause).line = s.line := by
  unfold State.takeCause
  (try dsimp only)
  repeat' split
  all_goals simp [apply_ite State.line]

@[simp] theorem State.line_startOpening (s : State) (st : Fin 6) : (s.startOpening st).line = s.line := by
  unfold State.startOpening
  (try dsimp only)
  repeat' split
  all_goals simp [apply_ite State.line]

@[simp] theorem State.line_enterWarming (s : State) (st : Fin 6) : (s.enterWarming st).line = s.line := by
  unfold State.enterWarming
  (try dsimp only)
  repeat' split
  all_goals simp [apply_ite State.line]

@[simp] theorem State.line_recover (s : State) (st : Fin 6) : (s.recover st).line = s.line := by
  unfold State.recover
  (try dsimp only)
  repeat' split
  all_goals simp [apply_ite State.line]

/-! ### Demould -/

@[simp] theorem State.line_startAttempt (s : State) (st : Fin 6) (j : Nat) : (s.startAttempt st j).line = s.line := by
  unfold State.startAttempt
  (try dsimp only)
  repeat' split
  all_goals simp [apply_ite State.line]

@[simp] theorem State.line_pressOpen (s : State) (st : Fin 6) : (s.pressOpen st).line = s.line := by
  unfold State.pressOpen
  (try dsimp only)
  repeat' split
  all_goals simp [apply_ite State.line]

@[simp] theorem State.line_endCycle (s : State) (st : Fin 6) (e : Ending) (t : Time) : (s.endCycle st e t).line = s.line := by
  unfold State.endCycle
  (try dsimp only)
  repeat' split
  all_goals simp [apply_ite State.line]

@[simp] theorem State.line_takeOutcome (s : State) (st : Fin 6) (o : AttemptOutcome) : (s.takeOutcome st o).line = s.line := by
  unfold State.takeOutcome
  (try dsimp only)
  repeat' split
  all_goals simp [apply_ite State.line]

@[simp] theorem State.line_retractComplete (s : State) (st : Fin 6) (c : Context) : (s.retractComplete st c).line = s.line := by
  unfold State.retractComplete
  (try dsimp only)
  repeat' split
  all_goals simp [apply_ite State.line]

@[simp] theorem State.line_judgeEject (s : State) (st : Fin 6) (m : EjectSample) : (s.judgeEject st m).line = s.line := by
  unfold State.judgeEject
  (try dsimp only)
  repeat' split
  all_goals simp [apply_ite State.line]

@[simp] theorem State.line_ejectWork (s : State) (st : Fin 6) (m : EjectSample) : (s.ejectWork st m).line = s.line := by
  unfold State.ejectWork
  (try dsimp only)
  repeat' split
  all_goals simp [apply_ite State.line]

@[simp] theorem State.line_openExpired (s : State) (st : Fin 6) (t : Time) : (s.openExpired st t).line = s.line := by
  unfold State.openExpired
  (try dsimp only)
  repeat' split
  all_goals simp [apply_ite State.line]

@[simp] theorem State.line_attemptExpired (s : State) (st : Fin 6) (c : Context) (t : Time) : (s.attemptExpired st c t).line = s.line := by
  unfold State.attemptExpired
  (try dsimp only)
  repeat' split
  all_goals simp [apply_ite State.line]

/-! ### Cure -/

@[simp] theorem State.line_endCure (s : State) (st : Fin 6) (t : Time) : (s.endCure st t).line = s.line := by
  unfold State.endCure
  (try dsimp only)
  repeat' split
  all_goals simp [apply_ite State.line]

@[simp] theorem State.line_cureRound (s : State) (st : Fin 6) : (s.cureRound st).line = s.line := by
  unfold State.cureRound
  split
  · rfl
  · dsimp only
    split
    all_goals
      (try simp only [State.line_endCure])
      rw [State.line_foldl]
      · simp
      · intro t g
        simp [apply_ite State.line]

@[simp] theorem State.line_wallMinExpired (s : State) (st : Fin 6) (c : Context) (t : Time) : (s.wallMinExpired st c t).line = s.line := by
  unfold State.wallMinExpired
  (try dsimp only)
  repeat' split
  all_goals simp [apply_ite State.line]

@[simp] theorem State.line_wallMaxExpired (s : State) (st : Fin 6) (t : Time) : (s.wallMaxExpired st t).line = s.line := by
  unfold State.wallMaxExpired
  (try dsimp only)
  repeat' split
  all_goals simp [apply_ite State.line]

/-! ### Rounds -/

@[simp] theorem State.line_noteFault (s : State) (st : Fin 6) (start : StationState) (i : Fin 16) : (s.noteFault st start i).line = s.line := by
  unfold State.noteFault
  (try dsimp only)
  repeat' split
  all_goals simp [apply_ite State.line]

@[simp] theorem State.line_superviseFaults (s : State) (st : Fin 6) (start : StationState) : (s.superviseFaults st start).line = s.line := by
  unfold State.superviseFaults
  rw [State.line_foldl _ fun t i => State.line_noteFault t st start i]
  simp

@[simp] theorem State.line_supervisePlatens (s : State) (st : Fin 6) : (s.supervisePlatens st).line = s.line := by
  unfold State.supervisePlatens
  (try dsimp only)
  repeat' split
  all_goals simp [apply_ite State.line]

@[simp] theorem State.line_supervise (s : State) (st : Fin 6) (start : StationState) (ramping : Vector Bool 4) : (s.supervise st start ramping).line = s.line := by
  unfold State.supervise
  (try dsimp only)
  repeat' split
  all_goals simp [apply_ite State.line]

@[simp] theorem State.line_readyTest (s : State) (st : Fin 6) (ramping : Vector Bool 4) : (s.readyTest st ramping).line = s.line := by
  unfold State.readyTest
  (try dsimp only)
  repeat' split
  all_goals simp [apply_ite State.line]

@[simp] theorem State.line_zeroDuty (s : State) (st : Fin 6) (n : Half) : (s.zeroDuty st n).line = s.line := by
  unfold State.zeroDuty
  (try dsimp only)
  repeat' split
  all_goals simp [apply_ite State.line]

@[simp] theorem State.line_offlineRound (s : State) (st : Fin 6) (m : HeatSample) : (s.offlineRound st m).line = s.line := by
  unfold State.offlineRound
  (try dsimp only)
  repeat' split
  all_goals simp [apply_ite State.line]

@[simp] theorem State.line_fullRound (s : State) (st : Fin 6) (m : HeatSample) : (s.fullRound st m).line = s.line := by
  unfold State.fullRound
  (try dsimp only)
  repeat' split
  all_goals simp [apply_ite State.line]

@[simp] theorem State.line_heatWork (s : State) (st : Fin 6) (m : HeatSample) : (s.heatWork st m).line = s.line := by
  unfold State.heatWork
  (try dsimp only)
  repeat' split
  all_goals simp [apply_ite State.line]

/-! ### Answers -/

@[simp] theorem State.line_answer (s : State) (src seq kind : Byte) (code : Result) (body : List Byte) (restart : Bool) :
    (s.answer src seq kind code body restart).line = s.line := rfl

@[simp] theorem State.line_answerTare (s : State) (code : Result) (body : List Byte) : (s.answerTare code body).line = s.line := by
  unfold State.answerTare
  (try dsimp only)
  repeat' split
  all_goals simp [apply_ite State.line]

/-! ### Weigher -/

@[simp] theorem State.line_rejectCharge (s : State) (reason : RejectReason) (total : Int) (time : Time) : (s.rejectCharge reason total time).line = s.line := by
  unfold State.rejectCharge
  (try dsimp only)
  repeat' split
  all_goals simp [apply_ite State.line]

@[simp] theorem State.line_rejectWaited (s : State) (time : Time) : (s.rejectWaited time).line = s.line := by
  unfold State.rejectWaited
  (try dsimp only)
  repeat' split
  all_goals simp [apply_ite State.line]

@[simp] theorem State.line_acceptCharge (s : State) (v : Int) : (s.acceptCharge v).line = s.line := by
  unfold State.acceptCharge
  (try dsimp only)
  repeat' split
  all_goals simp [apply_ite State.line]

@[simp] theorem State.line_decidePiece (s : State) (v : Int) : (s.decidePiece v).line = s.line := by
  unfold State.decidePiece
  (try dsimp only)
  repeat' split
  all_goals simp [apply_ite State.line]

@[simp] theorem State.line_settleEnd (s : State) (v : Int) : (s.settleEnd v).line = s.line := by
  unfold State.settleEnd
  (try dsimp only)
  repeat' split
  all_goals simp [apply_ite State.line]

@[simp] theorem State.line_startSettle (s : State) (net : Int) : (s.startSettle net).line = s.line := by
  unfold State.startSettle
  (try dsimp only)
  repeat' split
  all_goals simp [apply_ite State.line]

@[simp] theorem State.line_finishClear (s : State) : (s.finishClear).line = s.line := by
  unfold State.finishClear
  (try dsimp only)
  repeat' split
  all_goals simp [apply_ite State.line]

@[simp] theorem State.line_clearSample (s : State) : (s.clearSample).line = s.line := by
  unfold State.clearSample
  (try dsimp only)
  repeat' split
  all_goals simp [apply_ite State.line]

@[simp] theorem State.line_endTaring (s : State) (tare : Int) (code : Result) (body : List Byte) : (s.endTaring tare code body).line = s.line := by
  unfold State.endTaring
  (try dsimp only)
  repeat' split
  all_goals simp [apply_ite State.line]

@[simp] theorem State.line_raiseWeigherFault (s : State) (c : WeigherCause) (left : WeigherState) (st : Option (Fin 6)) : (s.raiseWeigherFault c left st).line = s.line := by
  unfold State.raiseWeigherFault
  (try dsimp only)
  repeat' split
  all_goals simp [apply_ite State.line]

@[simp] theorem State.line_enterFault (s : State) (c : WeigherCause) (time : Time) : (s.enterFault c time).line = s.line := by
  unfold State.enterFault
  (try dsimp only)
  repeat' split
  all_goals simp [apply_ite State.line]

@[simp] theorem State.line_takeWeigherCause (s : State) (c : WeigherCause) (time : Time) : (s.takeWeigherCause c time).line = s.line := by
  unfold State.takeWeigherCause
  (try dsimp only)
  repeat' split
  all_goals simp [apply_ite State.line]

@[simp] theorem State.line_markSlow (s : State) : (s.markSlow).line = s.line := by
  unfold State.markSlow
  (try dsimp only)
  repeat' split
  all_goals simp [apply_ite State.line]

@[simp] theorem State.line_actOnNet (s : State) (net : Int) : (s.actOnNet net).line = s.line := by
  unfold State.actOnNet
  (try dsimp only)
  repeat' split
  all_goals simp [apply_ite State.line]

@[simp] theorem State.line_newWeighSample (s : State) (m : WeighSample) : (s.newWeighSample m).line = s.line := by
  unfold State.newWeighSample
  (try dsimp only)
  repeat' split
  all_goals simp [apply_ite State.line]

@[simp] theorem State.line_weighWork (s : State) (m : WeighSample) : (s.weighWork m).line = s.line := by
  unfold State.weighWork
  (try dsimp only)
  repeat' split
  all_goals simp [apply_ite State.line]

@[simp] theorem State.line_pieceWaitExpired (s : State) (t : Time) : (s.pieceWaitExpired t).line = s.line := by
  unfold State.pieceWaitExpired
  (try dsimp only)
  repeat' split
  all_goals simp [apply_ite State.line]

@[simp] theorem State.line_settleExpired (s : State) (t : Time) : (s.settleExpired t).line = s.line := by
  unfold State.settleExpired
  (try dsimp only)
  repeat' split
  all_goals simp [apply_ite State.line]

@[simp] theorem State.line_clearExpired (s : State) (t : Time) : (s.clearExpired t).line = s.line := by
  unfold State.clearExpired
  (try dsimp only)
  repeat' split
  all_goals simp [apply_ite State.line]

/-! ### Station -/

@[simp] theorem State.line_comparePermit (s : State) (st : Fin 6) (echo : Permission) : (s.comparePermit st echo).line = s.line := by
  unfold State.comparePermit
  (try dsimp only)
  repeat' split
  all_goals simp [apply_ite State.line]

@[simp] theorem State.line_callToReady (s : State) (st : Fin 6) : (s.callToReady st).line = s.line := by
  unfold State.callToReady
  (try dsimp only)
  repeat' split
  all_goals simp [apply_ite State.line]

@[simp] theorem State.line_closePress (s : State) (st : Fin 6) : (s.closePress st).line = s.line := by
  unfold State.closePress
  (try dsimp only)
  repeat' split
  all_goals simp [apply_ite State.line]

@[simp] theorem State.line_watchPressure (s : State) (st : Fin 6) (tonnage : Nat) : (s.watchPressure st tonnage).line = s.line := by
  unfold State.watchPressure
  (try dsimp only)
  repeat' split
  all_goals simp [apply_ite State.line]

@[simp] theorem State.line_watchOpening (s : State) (st : Fin 6) (ram : Nat) : (s.watchOpening st ram).line = s.line := by
  unfold State.watchOpening
  (try dsimp only)
  repeat' split
  all_goals simp [apply_ite State.line]

@[simp] theorem State.line_testPress (s : State) (st : Fin 6) (m : PressSample) : (s.testPress st m).line = s.line := by
  unfold State.testPress
  (try dsimp only)
  repeat' split
  all_goals simp [apply_ite State.line]

@[simp] theorem State.line_pressWork (s : State) (st : Fin 6) (m : PressSample) : (s.pressWork st m).line = s.line := by
  unfold State.pressWork
  (try dsimp only)
  repeat' split
  all_goals simp [apply_ite State.line]

@[simp] theorem State.line_holdExpired (s : State) (st : Fin 6) : (s.holdExpired st).line = s.line := by
  unfold State.holdExpired
  (try dsimp only)
  repeat' split
  all_goals simp [apply_ite State.line]

theorem State.line_startStation (s : State) (st : Fin 6) {t : State} (h : s.startStation st = .ok t) : t.line = s.line := by
  unfold State.startStation at h
  (try dsimp only at h)
  repeat' split at h
  all_goals (cases h <;> simp)

@[simp] theorem State.line_stopStation (s : State) (st : Fin 6) : (s.stopStation st).line = s.line := by
  unfold State.stopStation
  (try dsimp only)
  repeat' split
  all_goals simp [apply_ite State.line]

@[simp] theorem State.line_abortCycle (s : State) (st : Fin 6) : (s.abortCycle st).line = s.line := by
  unfold State.abortCycle
  (try dsimp only)
  repeat' split
  all_goals simp [apply_ite State.line]

theorem State.line_abortStation (s : State) (st : Fin 6) {t : State} (h : s.abortStation st = .ok t) : t.line = s.line := by
  unfold State.abortStation at h
  (try dsimp only at h)
  repeat' split at h
  all_goals (cases h <;> simp)

theorem State.line_parkStation (s : State) (st : Fin 6) {t : State} (h : s.parkStation st = .ok t) : t.line = s.line := by
  unfold State.parkStation at h
  (try dsimp only at h)
  repeat' split at h
  all_goals (cases h <;> simp)

theorem State.line_unparkStation (s : State) (st : Fin 6) {t : State} (h : s.unparkStation st = .ok t) : t.line = s.line := by
  unfold State.unparkStation at h
  (try dsimp only at h)
  repeat' split at h
  all_goals (cases h <;> simp)

theorem State.line_onlineStation (s : State) (st : Fin 6) {t : State} (h : s.onlineStation st = .ok t) : t.line = s.line := by
  unfold State.onlineStation at h
  (try dsimp only at h)
  repeat' split at h
  all_goals (cases h <;> simp)

@[simp] theorem State.line_enterOffline (s : State) (st : Fin 6) : (s.enterOffline st).line = s.line := by
  unfold State.enterOffline
  (try dsimp only)
  repeat' split
  all_goals simp [apply_ite State.line]

theorem State.line_offlineStation (s : State) (st : Fin 6) {t : State} (h : s.offlineStation st = .ok t) : t.line = s.line := by
  unfold State.offlineStation at h
  (try dsimp only at h)
  repeat' split at h
  all_goals (cases h <;> simp)

theorem State.line_bindStation (s : State) (st : Fin 6) (recipe : Fin 16) {t : State} (h : s.bindStation st recipe = .ok t) : t.line = s.line := by
  unfold State.bindStation at h
  (try dsimp only at h)
  repeat' split at h
  all_goals (cases h <;> simp)

theorem State.line_clearStation (s : State) (st : Fin 6) {t : State} (h : s.clearStation st = .ok t) : t.line = s.line := by
  unfold State.clearStation at h
  (try dsimp only at h)
  repeat' split at h
  all_goals (cases h <;> simp)

end Sys2Proof.Machine
end

