-- ==== Sys2Proof/Laws/Effects.lean ====
section
/-! SUPPORT. What each shared operation does to the blocks: the operations of the line port leave stations, weigher, arbiter and store
alone; a change of a station's state, the wanted gate, the wanted ejector command, the clearing, the store's append and the arbiter's
test each have one lemma per part of the state they touch. -/

set_option linter.unusedSimpArgs false

namespace Sys2Proof.Machine

variable (s : State)

/-! ### Operations of the line port -/

@[simp] theorem State.stations_raise (k : NoticeKind) (key : Option (Fin 6)) (v : List Byte) : (s.raise k key v).stations = s.stations := by
  unfold State.raise; split <;> rfl

@[simp] theorem State.weigher_raise (k : NoticeKind) (key : Option (Fin 6)) (v : List Byte) : (s.raise k key v).weigher = s.weigher := by
  unfold State.raise; split <;> rfl

@[simp] theorem State.arbiter_raise (k : NoticeKind) (key : Option (Fin 6)) (v : List Byte) : (s.raise k key v).arbiter = s.arbiter := by
  unfold State.raise; split <;> rfl

@[simp] theorem State.store_raise (k : NoticeKind) (key : Option (Fin 6)) (v : List Byte) : (s.raise k key v).store = s.store := by
  unfold State.raise; split <;> rfl

@[simp] theorem State.station_raise (k : NoticeKind) (key : Option (Fin 6)) (v : List Byte) (sx : Fin 6) : (s.raise k key v).station sx = s.station sx := by
  unfold State.station; rw [State.stations_raise]

@[simp] theorem State.ctx?_raise (k : NoticeKind) (key : Option (Fin 6)) (v : List Byte) (sx : Fin 6) : (s.raise k key v).ctx? sx = s.ctx? sx := by
  unfold State.ctx?; rw [State.station_raise]

@[simp] theorem State.stations_raiseStationState (st : Fin 6) : (s.raiseStationState st).stations = s.stations := by
  exact State.stations_raise s _ _ _

@[simp] theorem State.weigher_raiseStationState (st : Fin 6) : (s.raiseStationState st).weigher = s.weigher := by
  exact State.weigher_raise s _ _ _

@[simp] theorem State.arbiter_raiseStationState (st : Fin 6) : (s.raiseStationState st).arbiter = s.arbiter := by
  exact State.arbiter_raise s _ _ _

@[simp] theorem State.store_raiseStationState (st : Fin 6) : (s.raiseStationState st).store = s.store := by
  exact State.store_raise s _ _ _

@[simp] theorem State.station_raiseStationState (st : Fin 6) (sx : Fin 6) : (s.raiseStationState st).station sx = s.station sx := by
  unfold State.station; rw [State.stations_raiseStationState]

@[simp] theorem State.ctx?_raiseStationState (st : Fin 6) (sx : Fin 6) : (s.raiseStationState st).ctx? sx = s.ctx? sx := by
  unfold State.ctx?; rw [State.station_raiseStationState]

@[simp] theorem State.stations_placeSlot (i : Fin 19) (f : OutFrame) : (s.placeSlot i f).stations = s.stations := by
  rfl

@[simp] theorem State.weigher_placeSlot (i : Fin 19) (f : OutFrame) : (s.placeSlot i f).weigher = s.weigher := by
  rfl

@[simp] theorem State.arbiter_placeSlot (i : Fin 19) (f : OutFrame) : (s.placeSlot i f).arbiter = s.arbiter := by
  rfl

@[simp] theorem State.store_placeSlot (i : Fin 19) (f : OutFrame) : (s.placeSlot i f).store = s.store := by
  rfl

@[simp] theorem State.station_placeSlot (i : Fin 19) (f : OutFrame) (sx : Fin 6) : (s.placeSlot i f).station sx = s.station sx := by
  unfold State.station; rw [State.stations_placeSlot]

@[simp] theorem State.ctx?_placeSlot (i : Fin 19) (f : OutFrame) (sx : Fin 6) : (s.placeSlot i f).ctx? sx = s.ctx? sx := by
  unfold State.ctx?; rw [State.station_placeSlot]

@[simp] theorem State.stations_placeCommand (i : Fin 19) (r : Role) (n : Nat) (k : Byte) (b : List Byte) : (s.placeCommand i r n k b).stations = s.stations := by
  unfold State.placeCommand; split <;> rfl

@[simp] theorem State.weigher_placeCommand (i : Fin 19) (r : Role) (n : Nat) (k : Byte) (b : List Byte) : (s.placeCommand i r n k b).weigher = s.weigher := by
  unfold State.placeCommand; split <;> rfl

@[simp] theorem State.arbiter_placeCommand (i : Fin 19) (r : Role) (n : Nat) (k : Byte) (b : List Byte) : (s.placeCommand i r n k b).arbiter = s.arbiter := by
  unfold State.placeCommand; split <;> rfl

@[simp] theorem State.store_placeCommand (i : Fin 19) (r : Role) (n : Nat) (k : Byte) (b : List Byte) : (s.placeCommand i r n k b).store = s.store := by
  unfold State.placeCommand; split <;> rfl

@[simp] theorem State.station_placeCommand (i : Fin 19) (r : Role) (n : Nat) (k : Byte) (b : List Byte) (sx : Fin 6) : (s.placeCommand i r n k b).station sx = s.station sx := by
  unfold State.station; rw [State.stations_placeCommand]

@[simp] theorem State.ctx?_placeCommand (i : Fin 19) (r : Role) (n : Nat) (k : Byte) (b : List Byte) (sx : Fin 6) : (s.placeCommand i r n k b).ctx? sx = s.ctx? sx := by
  unfold State.ctx?; rw [State.station_placeCommand]

@[simp] theorem State.stations_placeDuty (st : Fin 6) (n : Half) (d : List Nat) : (s.placeDuty st n d).stations = s.stations := by
  exact State.stations_placeCommand s _ _ _ _ _

@[simp] theorem State.weigher_placeDuty (st : Fin 6) (n : Half) (d : List Nat) : (s.placeDuty st n d).weigher = s.weigher := by
  exact State.weigher_placeCommand s _ _ _ _ _

@[simp] theorem State.arbiter_placeDuty (st : Fin 6) (n : Half) (d : List Nat) : (s.placeDuty st n d).arbiter = s.arbiter := by
  exact State.arbiter_placeCommand s _ _ _ _ _

@[simp] theorem State.store_placeDuty (st : Fin 6) (n : Half) (d : List Nat) : (s.placeDuty st n d).store = s.store := by
  exact State.store_placeCommand s _ _ _ _ _

@[simp] theorem State.station_placeDuty (st : Fin 6) (n : Half) (d : List Nat) (sx : Fin 6) : (s.placeDuty st n d).station sx = s.station sx := by
  unfold State.station; rw [State.stations_placeDuty]

@[simp] theorem State.ctx?_placeDuty (st : Fin 6) (n : Half) (d : List Nat) (sx : Fin 6) : (s.placeDuty st n d).ctx? sx = s.ctx? sx := by
  unfold State.ctx?; rw [State.station_placeDuty]

@[simp] theorem State.stations_placePermit (st : Fin 6) : (s.placePermit st).stations = s.stations := by
  exact State.stations_placeCommand s _ _ _ _ _

@[simp] theorem State.weigher_placePermit (st : Fin 6) : (s.placePermit st).weigher = s.weigher := by
  exact State.weigher_placeCommand s _ _ _ _ _

@[simp] theorem State.arbiter_placePermit (st : Fin 6) : (s.placePermit st).arbiter = s.arbiter := by
  exact State.arbiter_placeCommand s _ _ _ _ _

@[simp] theorem State.store_placePermit (st : Fin 6) : (s.placePermit st).store = s.store := by
  exact State.store_placeCommand s _ _ _ _ _

@[simp] theorem State.station_placePermit (st : Fin 6) (sx : Fin 6) : (s.placePermit st).station sx = s.station sx := by
  unfold State.station; rw [State.stations_placePermit]

@[simp] theorem State.ctx?_placePermit (st : Fin 6) (sx : Fin 6) : (s.placePermit st).ctx? sx = s.ctx? sx := by
  unfold State.ctx?; rw [State.station_placePermit]

@[simp] theorem State.stations_placeEject (st : Fin 6) : (s.placeEject st).stations = s.stations := by
  exact State.stations_placeCommand s _ _ _ _ _

@[simp] theorem State.weigher_placeEject (st : Fin 6) : (s.placeEject st).weigher = s.weigher := by
  exact State.weigher_placeCommand s _ _ _ _ _

@[simp] theorem State.arbiter_placeEject (st : Fin 6) : (s.placeEject st).arbiter = s.arbiter := by
  exact State.arbiter_placeCommand s _ _ _ _ _

@[simp] theorem State.store_placeEject (st : Fin 6) : (s.placeEject st).store = s.store := by
  exact State.store_placeCommand s _ _ _ _ _

@[simp] theorem State.station_placeEject (st : Fin 6) (sx : Fin 6) : (s.placeEject st).station sx = s.station sx := by
  unfold State.station; rw [State.stations_placeEject]

@[simp] theorem State.ctx?_placeEject (st : Fin 6) (sx : Fin 6) : (s.placeEject st).ctx? sx = s.ctx? sx := by
  unfold State.ctx?; rw [State.station_placeEject]

@[simp] theorem State.stations_placeGate : (s.placeGate).stations = s.stations := by
  exact State.stations_placeCommand s _ _ _ _ _

@[simp] theorem State.weigher_placeGate : (s.placeGate).weigher = s.weigher := by
  exact State.weigher_placeCommand s _ _ _ _ _

@[simp] theorem State.arbiter_placeGate : (s.placeGate).arbiter = s.arbiter := by
  exact State.arbiter_placeCommand s _ _ _ _ _

@[simp] theorem State.store_placeGate : (s.placeGate).store = s.store := by
  exact State.store_placeCommand s _ _ _ _ _

@[simp] theorem State.station_placeGate (sx : Fin 6) : (s.placeGate).station sx = s.station sx := by
  unfold State.station; rw [State.stations_placeGate]

@[simp] theorem State.ctx?_placeGate (sx : Fin 6) : (s.placeGate).ctx? sx = s.ctx? sx := by
  unfold State.ctx?; rw [State.station_placeGate]

@[simp] theorem State.stations_countLineError : (s.countLineError).stations = s.stations := by
  rfl

@[simp] theorem State.weigher_countLineError : (s.countLineError).weigher = s.weigher := by
  rfl

@[simp] theorem State.arbiter_countLineError : (s.countLineError).arbiter = s.arbiter := by
  rfl

@[simp] theorem State.store_countLineError : (s.countLineError).store = s.store := by
  rfl

@[simp] theorem State.station_countLineError (sx : Fin 6) : (s.countLineError).station sx = s.station sx := by
  unfold State.station; rw [State.stations_countLineError]

@[simp] theorem State.ctx?_countLineError (sx : Fin 6) : (s.countLineError).ctx? sx = s.ctx? sx := by
  unfold State.ctx?; rw [State.station_countLineError]

@[simp] theorem State.stations_forward (f : Frame) : (s.forward f).stations = s.stations := by
  unfold State.forward; split <;> rfl

@[simp] theorem State.weigher_forward (f : Frame) : (s.forward f).weigher = s.weigher := by
  unfold State.forward; split <;> rfl

@[simp] theorem State.arbiter_forward (f : Frame) : (s.forward f).arbiter = s.arbiter := by
  unfold State.forward; split <;> rfl

@[simp] theorem State.store_forward (f : Frame) : (s.forward f).store = s.store := by
  unfold State.forward; split <;> rfl

@[simp] theorem State.station_forward (f : Frame) (sx : Fin 6) : (s.forward f).station sx = s.station sx := by
  unfold State.station; rw [State.stations_forward]

@[simp] theorem State.ctx?_forward (f : Frame) (sx : Fin 6) : (s.forward f).ctx? sx = s.ctx? sx := by
  unfold State.ctx?; rw [State.station_forward]

@[simp] theorem State.stations_hearNode (i : Fin 32) : (s.hearNode i).stations = s.stations := by
  rfl

@[simp] theorem State.weigher_hearNode (i : Fin 32) : (s.hearNode i).weigher = s.weigher := by
  rfl

@[simp] theorem State.arbiter_hearNode (i : Fin 32) : (s.hearNode i).arbiter = s.arbiter := by
  rfl

@[simp] theorem State.store_hearNode (i : Fin 32) : (s.hearNode i).store = s.store := by
  rfl

@[simp] theorem State.station_hearNode (i : Fin 32) (sx : Fin 6) : (s.hearNode i).station sx = s.station sx := by
  unfold State.station; rw [State.stations_hearNode]

@[simp] theorem State.ctx?_hearNode (i : Fin 32) (sx : Fin 6) : (s.hearNode i).ctx? sx = s.ctx? sx := by
  unfold State.ctx?; rw [State.station_hearNode]

@[simp] theorem State.stations_answer (a b k : Byte) (c : Result) (d : List Byte) (r : Bool) : (s.answer a b k c d r).stations = s.stations := by
  rfl

@[simp] theorem State.weigher_answer (a b k : Byte) (c : Result) (d : List Byte) (r : Bool) : (s.answer a b k c d r).weigher = s.weigher := by
  rfl

@[simp] theorem State.arbiter_answer (a b k : Byte) (c : Result) (d : List Byte) (r : Bool) : (s.answer a b k c d r).arbiter = s.arbiter := by
  rfl

@[simp] theorem State.store_answer (a b k : Byte) (c : Result) (d : List Byte) (r : Bool) : (s.answer a b k c d r).store = s.store := by
  rfl

@[simp] theorem State.station_answer (a b k : Byte) (c : Result) (d : List Byte) (r : Bool) (sx : Fin 6) : (s.answer a b k c d r).station sx = s.station sx := by
  unfold State.station; rw [State.stations_answer]

@[simp] theorem State.ctx?_answer (a b k : Byte) (c : Result) (d : List Byte) (r : Bool) (sx : Fin 6) : (s.answer a b k c d r).ctx? sx = s.ctx? sx := by
  unfold State.ctx?; rw [State.station_answer]

@[simp] theorem State.stations_answerTare (c : Result) (d : List Byte) : (s.answerTare c d).stations = s.stations := by
  unfold State.answerTare; split <;> rfl

@[simp] theorem State.weigher_answerTare (c : Result) (d : List Byte) : (s.answerTare c d).weigher = s.weigher := by
  unfold State.answerTare; split <;> rfl

@[simp] theorem State.arbiter_answerTare (c : Result) (d : List Byte) : (s.answerTare c d).arbiter = s.arbiter := by
  unfold State.answerTare; split <;> rfl

@[simp] theorem State.store_answerTare (c : Result) (d : List Byte) : (s.answerTare c d).store = s.store := by
  unfold State.answerTare; split <;> rfl

@[simp] theorem State.station_answerTare (c : Result) (d : List Byte) (sx : Fin 6) : (s.answerTare c d).station sx = s.station sx := by
  unfold State.station; rw [State.stations_answerTare]

@[simp] theorem State.ctx?_answerTare (c : Result) (d : List Byte) (sx : Fin 6) : (s.answerTare c d).ctx? sx = s.ctx? sx := by
  unfold State.ctx?; rw [State.station_answerTare]

@[simp] theorem State.stations_placeReport (c : ReportClaimant) (f : OutFrame) : (s.placeReport c f).stations = s.stations := by
  rfl

@[simp] theorem State.weigher_placeReport (c : ReportClaimant) (f : OutFrame) : (s.placeReport c f).weigher = s.weigher := by
  rfl

@[simp] theorem State.arbiter_placeReport (c : ReportClaimant) (f : OutFrame) : (s.placeReport c f).arbiter = s.arbiter := by
  rfl

@[simp] theorem State.store_placeReport (c : ReportClaimant) (f : OutFrame) : (s.placeReport c f).store = s.store := by
  rfl

@[simp] theorem State.station_placeReport (c : ReportClaimant) (f : OutFrame) (sx : Fin 6) : (s.placeReport c f).station sx = s.station sx := by
  unfold State.station; rw [State.stations_placeReport]

@[simp] theorem State.ctx?_placeReport (c : ReportClaimant) (f : OutFrame) (sx : Fin 6) : (s.placeReport c f).ctx? sx = s.ctx? sx := by
  unfold State.ctx?; rw [State.station_placeReport]

@[simp] theorem State.stations_beginSend : (s.beginSend).stations = s.stations := by
  unfold State.beginSend; split
  · rfl
  · split <;> rfl

@[simp] theorem State.weigher_beginSend : (s.beginSend).weigher = s.weigher := by
  unfold State.beginSend; split
  · rfl
  · split <;> rfl

@[simp] theorem State.arbiter_beginSend : (s.beginSend).arbiter = s.arbiter := by
  unfold State.beginSend; split
  · rfl
  · split <;> rfl

@[simp] theorem State.store_beginSend : (s.beginSend).store = s.store := by
  unfold State.beginSend; split
  · rfl
  · split <;> rfl

@[simp] theorem State.station_beginSend (sx : Fin 6) : (s.beginSend).station sx = s.station sx := by
  unfold State.station; rw [State.stations_beginSend]

@[simp] theorem State.ctx?_beginSend (sx : Fin 6) : (s.beginSend).ctx? sx = s.ctx? sx := by
  unfold State.ctx?; rw [State.station_beginSend]
/-! ### Groups and the state of a station -/

@[simp] theorem State.weigher_resolveAfresh (st : Fin 6) : (s.resolveAfresh st).weigher = s.weigher := rfl

@[simp] theorem State.arbiter_resolveAfresh (st : Fin 6) : (s.resolveAfresh st).arbiter = s.arbiter := rfl

@[simp] theorem State.store_resolveAfresh (st : Fin 6) : (s.resolveAfresh st).store = s.store := rfl

@[simp] theorem State.port_resolveAfresh (st : Fin 6) : (s.resolveAfresh st).port = s.port := rfl

/-- Resolving afresh changes nothing of a station but its groups. -/
@[simp] theorem State.station_resolveAfresh_self (st : Fin 6) :
    (s.resolveAfresh st).station st =
      { s.station st with
        groups := Vector.ofFn fun g => ((s.station st).groups[g]).resolve s.profilesLive (s.recipeOf st) (s.station st).state.source
          ((s.station st).stepIndex g) g } := by
  simp [State.resolveAfresh]

theorem State.station_resolveAfresh_of_ne {st sx : Fin 6} (h : sx ≠ st) : (s.resolveAfresh st).station sx = s.station sx :=
  State.station_modStation_of_ne s _ h

@[simp] theorem State.weigher_setState (st : Fin 6) (x : StationState) : (s.setState st x).weigher = s.weigher := by
  unfold State.setState; dsimp only; split <;> split <;> simp

@[simp] theorem State.arbiter_setState (st : Fin 6) (x : StationState) : (s.setState st x).arbiter = s.arbiter := by
  unfold State.setState; dsimp only; split <;> split <;> simp

@[simp] theorem State.store_setState (st : Fin 6) (x : StationState) : (s.setState st x).store = s.store := by
  unfold State.setState; dsimp only; split <;> split <;> simp

/-- A change of state changes nothing of the station but its state and its groups. -/
theorem State.station_setState_self (st : Fin 6) (x : StationState) :
    (s.setState st x).station st = { s.station st with state := x, groups := ((s.setState st x).station st).groups } := by
  unfold State.setState; dsimp only; split <;> split <;> simp

@[simp] theorem State.state_setState_self (st : Fin 6) (x : StationState) : ((s.setState st x).station st).state = x := by
  rw [State.station_setState_self]

theorem State.station_setState_of_ne {st sx : Fin 6} (x : StationState) (h : sx ≠ st) :
    (s.setState st x).station sx = s.station sx := by
  unfold State.setState; dsimp only; split <;> split <;>
    simp [State.station_resolveAfresh_of_ne, State.station_modStation_of_ne, h]

@[simp] theorem State.ctx?_setState_self (st : Fin 6) (x : StationState) : (s.setState st x).ctx? st = s.ctx? st := by
  unfold State.ctx?; rw [State.station_setState_self]

/-! ### The wanted gate and the wanted ejector command -/

@[simp] theorem State.stations_wantGate (g : Gate) : (s.wantGate g).stations = s.stations := by
  unfold State.wantGate; split <;> simp

@[simp] theorem State.arbiter_wantGate (g : Gate) : (s.wantGate g).arbiter = s.arbiter := by
  unfold State.wantGate; split <;> simp

@[simp] theorem State.store_wantGate (g : Gate) : (s.wantGate g).store = s.store := by
  unfold State.wantGate; split <;> simp

/-- Wanting a gate changes nothing of the weigher but its wanted gate. -/
@[simp] theorem State.weigher_wantGate (g : Gate) : (s.wantGate g).weigher = { s.weigher with wantedGate := g } := by
  unfold State.wantGate; split
  · next h => rw [← h]
  · simp

@[simp] theorem State.station_wantGate (g : Gate) (sx : Fin 6) : (s.wantGate g).station sx = s.station sx := by
  unfold State.station; rw [State.stations_wantGate]

@[simp] theorem State.ctx?_wantGate (g : Gate) (sx : Fin 6) : (s.wantGate g).ctx? sx = s.ctx? sx := by
  unfold State.ctx?; rw [State.station_wantGate]

@[simp] theorem State.weigher_wantEject (st : Fin 6) (c : EjectCmd) : (s.wantEject st c).weigher = s.weigher := by
  unfold State.wantEject; split <;> simp

@[simp] theorem State.arbiter_wantEject (st : Fin 6) (c : EjectCmd) : (s.wantEject st c).arbiter = s.arbiter := by
  unfold State.wantEject; split <;> simp

@[simp] theorem State.store_wantEject (st : Fin 6) (c : EjectCmd) : (s.wantEject st c).store = s.store := by
  unfold State.wantEject; split <;> simp

/-- Wanting an ejector command changes nothing of the station but its wanted command. -/
@[simp] theorem State.station_wantEject_self (st : Fin 6) (c : EjectCmd) :
    (s.wantEject st c).station st = { s.station st with demould := { (s.station st).demould with wanted := c } } := by
  unfold State.wantEject; split
  · next h => rw [← h]
  · simp

theorem State.station_wantEject_of_ne {st sx : Fin 6} (c : EjectCmd) (h : sx ≠ st) :
    (s.wantEject st c).station sx = s.station sx := by
  unfold State.wantEject; split <;> simp [State.station_modStation_of_ne, h]

@[simp] theorem State.ctx?_wantEject_self (st : Fin 6) (c : EjectCmd) : (s.wantEject st c).ctx? st = s.ctx? st := by
  unfold State.ctx?; rw [State.station_wantEject_self]

/-! ### The clearing and the end of a grant -/

@[simp] theorem State.stations_enterClearing (g : Gate) : (s.enterClearing g).stations = s.stations := by simp [State.enterClearing]

@[simp] theorem State.station_enterClearing (g : Gate) (sx : Fin 6) : (s.enterClearing g).station sx = s.station sx := by
  simp [State.enterClearing]

@[simp] theorem State.ctx?_enterClearing (g : Gate) (sx : Fin 6) : (s.enterClearing g).ctx? sx = s.ctx? sx := by
  simp [State.enterClearing]

@[simp] theorem State.arbiter_enterClearing (g : Gate) : (s.enterClearing g).arbiter = s.arbiter := by simp [State.enterClearing]

@[simp] theorem State.store_enterClearing (g : Gate) : (s.enterClearing g).store = s.store := by simp [State.enterClearing]

/-- Entry to CLEARING (R115). -/
@[simp] theorem State.weigher_enterClearing (g : Gate) :
    (s.enterClearing g).weigher =
      { s.weigher with state := .clearing, absentRun := 0, clear := .running s.now s.weigher.settings.clearTimeout, wantedGate := g } := by
  simp [State.enterClearing]

@[simp] theorem State.stations_endGrant : s.endGrant.stations = s.stations := rfl

@[simp] theorem State.station_endGrant (sx : Fin 6) : s.endGrant.station sx = s.station sx := rfl

@[simp] theorem State.ctx?_endGrant (sx : Fin 6) : s.endGrant.ctx? sx = s.ctx? sx := rfl

@[simp] theorem State.store_endGrant : s.endGrant.store = s.store := rfl

@[simp] theorem State.arbiter_endGrant : s.endGrant.arbiter = { s.arbiter with granted := none } := rfl

@[simp] theorem State.weigher_endGrant :
    s.endGrant.weigher = { s.weigher with granted := none, pieceWait := .stopped, settle := .stopped } := rfl

/-! ### The store -/

/-- The BACKLOG test changes nothing but the notices and its armed flag. -/
theorem State.testBacklog_eq : ∃ (p : Port) (b : Bool), s.testBacklog = { s with port := p, store := { s.store with backlogArmed := b } } := by
  unfold State.testBacklog State.raise
  dsimp only
  split
  · split
    · split
      · exact ⟨_, false, rfl⟩
      · exact ⟨s.port, false, rfl⟩
    · exact ⟨s.port, s.store.backlogArmed, rfl⟩
  · exact ⟨s.port, true, rfl⟩

/-- The STORE_LOW test changes nothing but the notices and its armed flag. -/
theorem State.testLow_eq : ∃ (p : Port) (b : Bool), s.testLow = { s with port := p, store := { s.store with storeLowArmed := b } } := by
  unfold State.testLow State.raise
  dsimp only
  split
  · split
    · split
      · exact ⟨_, false, rfl⟩
      · exact ⟨s.port, false, rfl⟩
    · exact ⟨s.port, s.store.storeLowArmed, rfl⟩
  · exact ⟨s.port, true, rfl⟩

/-- An append of a record: the ring, next and held grow, the cursor may pass with it, and the armed flags and notices are tested. -/
theorem State.pushRecord_eq (bytes : List Byte) (pass : Bool) :
    ∃ (p : Port) (c : Time) (b l : Bool), s.pushRecord bytes pass =
      { s with port := p, store := { s.store with
          ring := s.store.ring ++ [bytes], next := s.store.next + 1, held := s.store.held + bytes.length, cursor := c,
          backlogArmed := b, storeLowArmed := l } } := by
  unfold State.pushRecord
  dsimp only
  generalize ht : (s.modStore fun x => _) = t
  obtain ⟨p, b, hb⟩ := t.testBacklog_eq
  rw [hb]
  obtain ⟨q, l, hl⟩ := State.testLow_eq { t with port := p, store := { t.store with backlogArmed := b } }
  rw [hl]
  subst ht
  exact ⟨q, _, b, l, rfl⟩

/-- Dropping oldest records leaves next, the reservations and the settings. -/
theorem Store.dropFor_keeps (size : Nat) (l : List (List Byte)) (st : Store) :
    (Store.dropFor size l st).next = st.next ∧ (Store.dropFor size l st).reservations = st.reservations ∧
    (Store.dropFor size l st).settings = st.settings := by
  induction l generalizing st with
  | nil => exact ⟨rfl, rfl, rfl⟩
  | cons r rest ih =>
    unfold Store.dropFor
    split
    · exact ih _
    · exact ⟨rfl, rfl, rfl⟩

/-- Making room changes the notices and the store alone, and leaves next, the reservations and the settings. -/
theorem State.makeRoom_eq (size : Nat) : ∃ (p : Port) (x : Store), s.makeRoom size = { s with port := p, store := x } ∧
    x.next = s.store.next ∧ x.reservations = s.store.reservations ∧ x.settings = s.store.settings := by
  have k := Store.dropFor_keeps size s.store.ring s.store
  unfold State.makeRoom State.raise
  split
  · exact ⟨s.port, s.store, rfl, rfl, rfl, rfl⟩
  · dsimp only
    split
    · exact ⟨s.port, _, rfl, k⟩
    · split
      · exact ⟨_, _, rfl, k⟩
      · exact ⟨s.port, _, rfl, k⟩

/-! ### The arbiter's test -/

/-- With the weigher not IDLE the test grants nothing. -/
theorem State.consider_of_not_idle (h : s.weigher.state ≠ .idle) : s.consider = s := by
  unfold State.consider
  cases s.arbiter.queue with
  | nil => rfl
  | cons a l =>
    have : s.canGrant = false := by simp [State.canGrant, h]
    simp [State.considerFrom, this]

/-- With an empty call queue the test grants nothing. -/
theorem State.consider_of_empty (h : s.arbiter.queue = []) : s.consider = s := by
  unfold State.consider; rw [h]; rfl

/-- A call queue that stands considers its head first. -/
theorem State.consider_cons {st : Fin 6} {rest : List (Fin 6)} (h : s.arbiter.queue = st :: rest) (hg : s.canGrant = true)
    (hr : s.recipes[(s.station st).boundRecipe].present = true) : s.consider = s.grant st := by
  unfold State.consider; rw [h, State.considerFrom, if_pos hg, if_pos hr]

/-- A station that joins while the weigher is not IDLE waits in the queue. -/
theorem State.enterCalling_of_not_idle (st : Fin 6) (atHead : Bool) (h : s.weigher.state ≠ .idle) :
    s.enterCalling st atHead =
      { s.setState st .calling with arbiter := { s.arbiter with
          queue := if atHead then st :: s.arbiter.queue else s.arbiter.queue ++ [st] } } := by
  unfold State.enterCalling
  rw [State.consider_of_not_idle]
  · simp
  · simpa using h

/-- A station that leaves while the weigher is not IDLE only leaves. -/
theorem State.leaveQueue_of_not_idle (st : Fin 6) (h : s.weigher.state ≠ .idle) : s.leaveQueue st = s.removeCall st := by
  unfold State.leaveQueue
  dsimp only
  split
  · rfl
  · exact State.consider_of_not_idle _ h

end Sys2Proof.Machine
end

