-- ==== Sys2Proof/Laws/Cycles.lean ====
section
/-! SUPPORT. The append of a cycle's record, the release of its context and the end of a charge, while the weigher is not IDLE (so that
the arbiter's test grants nothing). -/

set_option linter.unusedSimpArgs false

namespace Sys2Proof.Machine

variable (s : State)

/-- Using a reservation changes the store's reservations alone. -/
theorem State.useReservation_eq (r : Reservation) :
    ∃ n, s.useReservation r = { s with store := { s.store with reservations := n } } := by
  unfold State.useReservation
  split
  · exact ⟨_, rfl⟩
  · exact ⟨s.store.reservations, rfl⟩

/-- The append of a record, with the arbiter unable to grant: the notices and the store, next one higher, the settings as they were. -/
theorem State.pushAndReport_of_not_idle (before : Nat) (b : List Byte) (h : s.weigher.state ≠ .idle) :
    ∃ (p : Port) (x : Store), s.pushAndReport before b = { s with port := p, store := x } ∧ x.next = s.store.next + 1 ∧
      x.settings = s.store.settings ∧ x.overrun = s.store.overrun := by
  obtain ⟨p, c, bl, l, e⟩ := s.pushRecord_eq b true
  unfold State.pushAndReport
  rw [e]
  dsimp only
  split
  · rw [State.consider_of_not_idle _ (by exact h)]; exact ⟨_, _, rfl, rfl, rfl, rfl⟩
  · exact ⟨_, _, rfl, rfl, rfl, rfl⟩

/-- The append of a cycle's record, with the arbiter unable to grant. -/
theorem State.appendCycle_of_not_idle (r : Reservation) (b : List Byte) (h : s.weigher.state ≠ .idle) :
    ∃ (p : Port) (x : Store), s.appendCycle r b = { s with port := p, store := x } ∧ x.next = s.store.next + 1 ∧
      x.settings = s.store.settings := by
  obtain ⟨n, e1⟩ := s.useReservation_eq r
  obtain ⟨p, x, e2, h1, -, h3⟩ := State.makeRoom_eq { s with store := { s.store with reservations := n } } b.length
  obtain ⟨q, y, e3, h4, h5, -⟩ := State.pushAndReport_of_not_idle
    { s with port := p, store := x } s.store.room b (by exact h)
  refine ⟨q, y, ?_, ?_, ?_⟩
  · unfold State.appendCycle; dsimp only; rw [e1, e2, e3]
  · rw [h4]; dsimp only; rw [h1]
  · rw [h5]; dsimp only; rw [h3]

/-- The release of a context: the context and the hold count of the station, and its groups (R7). -/
theorem State.station_releaseContext_self (st : Fin 6) :
    (s.releaseContext st).station st =
      { s.station st with ctx := none, holdCount := 0, groups := ((s.releaseContext st).station st).groups } := by
  simp [State.releaseContext]

theorem State.station_releaseContext_of_ne {st sx : Fin 6} (h : sx ≠ st) :
    (s.releaseContext st).station sx = s.station sx := by
  unfold State.releaseContext
  rw [State.station_resolveAfresh_of_ne _ h, State.station_modStation_of_ne _ _ h]

@[simp] theorem State.weigher_releaseContext (st : Fin 6) : (s.releaseContext st).weigher = s.weigher := rfl

@[simp] theorem State.arbiter_releaseContext (st : Fin 6) : (s.releaseContext st).arbiter = s.arbiter := rfl

@[simp] theorem State.store_releaseContext (st : Fin 6) : (s.releaseContext st).store = s.store := rfl

/-- What the end of a charge leaves (R113), with the arbiter unable to grant: the station without a context, one record more, the grant
ended with the weigher's timers, and nothing else of the blocks touched. -/
theorem State.rejectCycle_spec (st : Fin 6) (c : Context) (reason : RejectReason) (total : Int) (time : Time)
    (h : s.weigher.state ≠ .idle) (hc : s.ctx? st = some c) :
    let t := s.rejectCycle st reason total time
    t.station st = { s.station st with ctx := none, holdCount := 0, groups := (t.station st).groups } ∧
    (∀ sx, sx ≠ st → t.station sx = s.station sx) ∧
    t.weigher = { s.weigher with granted := none, pieceWait := .stopped, settle := .stopped } ∧
    t.arbiter = { s.arbiter with granted := none } ∧ t.store.next = s.store.next + 1 ∧ t.store.settings = s.store.settings ∧
    t.now = s.now := by
  obtain ⟨p, x, e, h1, h2⟩ := s.appendCycle_of_not_idle c.reservation (rejectRecord st c reason total s.weigher.pieces time) h
  have hr : s.rejectCycle st reason total time = ((({ s with port := p, store := x } : State).releaseContext st).endGrant).raise
      .chargeReject (some st) (put8 reason.code ++ putTime c.cycle ++ putS32 total ++ put8 s.weigher.pieces.length) := by
    unfold State.rejectCycle; rw [hc]; dsimp only; rw [e]
  intro t
  show (s.rejectCycle st reason total time).station st = { s.station st with
    ctx := none, holdCount := 0, groups := ((s.rejectCycle st reason total time).station st).groups } ∧ _
  subst t
  rw [hr]
  refine ⟨?_, ?_, ?_, ?_, ?_, ?_, ?_⟩
  · rw [State.station_raise, State.station_endGrant, State.station_releaseContext_self]; rfl
  · intro sx hx
    rw [State.station_raise, State.station_endGrant, State.station_releaseContext_of_ne _ hx]; rfl
  · simp
  · simp
  · simp [h1]
  · simp [h2]
  · unfold State.raise; split <;> rfl

/-- A stopped station that enters READY stays there. -/
theorem State.enterReady_of_stopped (st : Fin 6) (h : (s.station st).runEnable = false) :
    s.enterReady st = (s.setState st .ready).raiseStationState st := by
  unfold State.enterReady State.lookCalling
  dsimp only
  rw [if_neg]
  rintro ⟨-, hr, -⟩
  rw [State.station_raiseStationState, State.station_setState_self, h] at hr
  exact absurd hr (by simp)

/-- The fresh start of an opening (R135): state, groups and the ejection fields of the context. -/
theorem State.station_startOpening_self (st : Fin 6) :
    (s.startOpening st).station st =
      { s.station st with
        state := .opening, groups := ((s.startOpening st).station st).groups,
        ctx := (s.station st).ctx.map fun c =>
          { c with eject := { Ejection.start with sub := .waitOpen, openTimer := .running s.now c.snapshot.openTimeout } } } := by
  unfold State.startOpening
  rw [State.station_setState_self]
  simp

/-- Stopping the work of a state leaves everything of a station but its context and its wanted ejector command. -/
theorem State.station_stopWork_self (st : Fin 6) :
    (s.stopWork st).station st =
      { s.station st with ctx := ((s.stopWork st).station st).ctx, demould := ((s.stopWork st).station st).demould } := by
  unfold State.stopWork
  split <;> simp

@[simp] theorem State.weigher_stopWork (st : Fin 6) : (s.stopWork st).weigher = s.weigher := by
  unfold State.stopWork
  split <;> simp

@[simp] theorem State.arbiter_stopWork (st : Fin 6) : (s.stopWork st).arbiter = s.arbiter := by
  unfold State.stopWork
  split <;> simp

@[simp] theorem State.store_stopWork (st : Fin 6) : (s.stopWork st).store = s.store := by
  unfold State.stopWork
  split <;> simp

end Sys2Proof.Machine
end

