-- ==== Sys2Proof/Laws/Port.lean ====
section
/-! SUPPORT. What the line port's own operations leave alone: ring-out's turn touches only the four stores it serves and the port's
counters, forwarding only the forward buffer, and placing only the report queue. -/

set_option linter.unusedSimpArgs false

namespace Sys2Proof.Machine

/-- What ring-out's turn never changes in the port, and the bounds it keeps. -/
structure Port.SameLine (p q : Port) : Prop where
  lineErrors : q.lineErrors = p.lineErrors
  routes : q.routes = p.routes
  silence : q.silence = p.silence
  buffer : q.buffer = p.buffer
  notices : q.notices = p.notices
  mask : q.mask = p.mask
  lastReport : q.lastReport = p.lastReport
  forward : q.forward.length ≤ p.forward.length
  report : q.report.length ≤ p.report.length

theorem Port.SameLine.refl (p : Port) : Port.SameLine p p := ⟨rfl, rfl, rfl, rfl, rfl, rfl, rfl, le_refl _, le_refl _⟩

theorem Port.sameLine_transmit (p : Port) (own : Byte) (f : OutFrame) : Port.SameLine p (p.transmit own f) := by
  unfold Port.transmit
  split <;> exact ⟨rfl, rfl, rfl, rfl, rfl, rfl, rfl, le_refl _, le_refl _⟩

/-- Serving a claimant. -/
theorem Port.sameLine_serve (p : Port) (own : Byte) (c : RingClaimant) : Port.SameLine p (p.serve own c) := by
  unfold Port.serve
  cases c with
  | forward =>
    dsimp only
    split
    · exact .refl p
    · next f rest h => exact ⟨rfl, rfl, rfl, rfl, rfl, rfl, rfl, by simp [h], le_refl _⟩
  | slate =>
    dsimp only
    split
    · exact .refl p
    · next i _ =>
      split
      · exact .refl p
      · next f _ =>
        have t := Port.sameLine_transmit { p with slate := p.slate.set i none, lastSlot := i, lastRing := .slate } own f
        exact ⟨t.1, t.2, t.3, t.4, t.5, t.6, t.7, t.8, t.9⟩
  | report =>
    dsimp only
    split
    · exact .refl p
    · next f rest h =>
      have t := Port.sameLine_transmit { p with report := rest, lastRing := .report } own f
      refine ⟨t.1, t.2, t.3, t.4, t.5, t.6, t.7, t.8, le_trans t.9 ?_⟩
      simp [h]

/-- Ring-out's turn changes the port alone, and of it only what `Port.SameLine` leaves open. -/
theorem State.beginSend_spec (s : State) :
    ∃ p, s.beginSend = { s with port := p } ∧ Port.SameLine s.port p := by
  unfold State.beginSend
  split
  · exact ⟨s.port, rfl, .refl _⟩
  · split
    · exact ⟨s.port, rfl, .refl _⟩
    · exact ⟨_, rfl, Port.sameLine_serve _ _ _⟩

@[simp] theorem State.pending_beginSend (s : State) : s.beginSend.pending = s.pending := by
  obtain ⟨p, h, -⟩ := s.beginSend_spec; rw [h]

@[simp] theorem State.mode_beginSend (s : State) : s.beginSend.mode = s.mode := by
  obtain ⟨p, h, -⟩ := s.beginSend_spec; rw [h]

@[simp] theorem State.nodeAddress_beginSend (s : State) : s.beginSend.nodeAddress = s.nodeAddress := by
  obtain ⟨p, h, -⟩ := s.beginSend_spec; rw [h]

@[simp] theorem State.now_beginSend (s : State) : s.beginSend.now = s.now := by
  obtain ⟨p, h, -⟩ := s.beginSend_spec; rw [h]

@[simp] theorem State.recipes_beginSend (s : State) : s.beginSend.recipes = s.recipes := by
  obtain ⟨p, h, -⟩ := s.beginSend_spec; rw [h]

@[simp] theorem State.rates_beginSend (s : State) : s.beginSend.rates = s.rates := by
  obtain ⟨p, h, -⟩ := s.beginSend_spec; rw [h]

@[simp] theorem State.profilesShadow_beginSend (s : State) : s.beginSend.profilesShadow = s.profilesShadow := by
  obtain ⟨p, h, -⟩ := s.beginSend_spec; rw [h]

@[simp] theorem State.profilesLive_beginSend (s : State) : s.beginSend.profilesLive = s.profilesLive := by
  obtain ⟨p, h, -⟩ := s.beginSend_spec; rw [h]

@[simp] theorem State.routes_beginSend (s : State) : s.beginSend.port.routes = s.port.routes := by
  obtain ⟨p, h, k⟩ := s.beginSend_spec; rw [h]; exact k.routes

@[simp] theorem State.silence_beginSend (s : State) : s.beginSend.port.silence = s.port.silence := by
  obtain ⟨p, h, k⟩ := s.beginSend_spec; rw [h]; exact k.silence

@[simp] theorem State.buffer_beginSend (s : State) : s.beginSend.port.buffer = s.port.buffer := by
  obtain ⟨p, h, k⟩ := s.beginSend_spec; rw [h]; exact k.buffer

@[simp] theorem State.notices_beginSend (s : State) : s.beginSend.port.notices = s.port.notices := by
  obtain ⟨p, h, k⟩ := s.beginSend_spec; rw [h]; exact k.notices

@[simp] theorem State.mask_beginSend (s : State) : s.beginSend.port.mask = s.port.mask := by
  obtain ⟨p, h, k⟩ := s.beginSend_spec; rw [h]; exact k.mask

@[simp] theorem State.lineErrors_beginSend (s : State) : s.beginSend.port.lineErrors = s.port.lineErrors := by
  obtain ⟨p, h, k⟩ := s.beginSend_spec; rw [h]; exact k.lineErrors

theorem State.forward_beginSend_le (s : State) : s.beginSend.port.forward.length ≤ s.port.forward.length := by
  obtain ⟨p, h, k⟩ := s.beginSend_spec; rw [h]; exact k.forward

theorem State.report_beginSend_le (s : State) : s.beginSend.port.report.length ≤ s.port.report.length := by
  obtain ⟨p, h, k⟩ := s.beginSend_spec; rw [h]; exact k.report

/-- While a frame is in transmission ring-out does nothing. -/
theorem State.beginSend_of_sending (s : State) (h : s.port.sending.isSome = true) : s.beginSend = s := by
  unfold State.beginSend; rw [if_pos h]

/-- Forwarding keeps the forward buffer within its four places. -/
theorem State.forward_length_le (s : State) (f : Frame) (h : s.port.forward.length ≤ 4) : (s.forward f).port.forward.length ≤ 4 := by
  unfold State.forward
  split
  · next hl => simpa [Config.forwardDepth] using hl
  · exact h

/-- A claimant is admitted only while the report queue has room (R177). -/
theorem State.report_lt_of_admitted (s : State) {c : ReportClaimant} (h : s.admitted = some c) : s.port.report.length < 4 := by
  unfold State.admitted at h
  split at h
  · next hl => exact hl
  · exact absurd h (by simp)

/-- A raise leaves no flag pending of a disabled kind that was not so before (R181). -/
theorem State.mask_raise (s : State) (k : NoticeKind) (key : Option (Fin 6)) (v : List Byte) :
    (s.raise k key v).port.mask = s.port.mask := by
  unfold State.raise; split <;> rfl

end Sys2Proof.Machine
end

