-- ==== Sys2Proof/Laws/Requests.lean ====
section
/-! SUPPORT. When a request reaches its owner's rule: the judgement of a request addressed to the part (R170), and the two tests of the
management handler before it serves (R178). -/

namespace Sys2Proof.Machine

/-- A request from another node to the part's own address, with hops left, is taken by the management handler. -/
theorem State.ringRequest_own (s : State) (h : ReqHeader) (r : Request) (hm : s.mode ≠ .isolated)
    (ha : s.nodeAddress = some h.dest) (hs : h.src ≠ h.dest) (hh : h.hops ≠ 0) : s.ringRequest h r = s.takeRequest h r := by
  simp only [State.ringRequest, State.ownAddress?, hm, ha, hs, hh, if_false, if_true, or_self]

/-- With no MASTER entry of another node the master rule lets the source in. -/
theorem State.foreignMaster_eq_false (s : State) (src : Byte)
    (h : ∀ i : Fin 32, s.port.routes[i].present = true → s.port.routes[i].role = 5 → s.port.routes[i].station = 255 →
      s.port.routes[i].address = src.toNat) : s.foreignMaster src = false := by
  unfold State.foreignMaster State.nodeOf
  cases e : s.findEntry .master noStation with
  | none => simp
  | some i =>
    have hi := List.find?_some e
    simp only [RouteEntry.is, Bool.and_eq_true, beq_iff_eq] at hi
    have := h i hi.1.1 hi.1.2 hi.2
    simp only [Option.map_some, Option.any_some, bne_eq_false_iff_eq, this, BitVec.ofNat_toNat, BitVec.setWidth_eq]

/-- A request taken with the buffer empty and no foreign MASTER is served. -/
theorem State.takeRequest_served (s : State) (h : ReqHeader) (r : Request) (hb : s.port.buffer = .empty)
    (hf : s.foreignMaster h.src = false) : s.takeRequest h r = s.serve h r := by
  simp [State.takeRequest, hb, hf, Buffer.isEmpty]

/-- A request that finds the buffer occupied is discarded. -/
theorem State.takeRequest_busy (s : State) (h : ReqHeader) (r : Request) (hb : s.port.buffer ≠ .empty) : s.takeRequest h r = s := by
  unfold State.takeRequest Buffer.isEmpty
  split <;> simp_all

/-- A request from a node that is not the MASTER entry's is answered NOT_MASTER. -/
theorem State.takeRequest_foreign (s : State) (h : ReqHeader) (r : Request) (hb : s.port.buffer = .empty)
    (hf : s.foreignMaster h.src = true) : s.takeRequest h r = s.answer h.src h.seq (requestKind r) .notMaster [] false := by
  simp [State.takeRequest, hb, hf, Buffer.isEmpty]

end Sys2Proof.Machine
end

