-- ==== Sys2Proof/Tests/Slice0.lean ====
section
/-! SUPPORT. The model's own tests: the ill-formed terms the check refuses, single steps of the worked examples of the spec, and for
every statement with hypotheses a state and operands that meet them, clause by clause. -/

namespace Sys2Proof.Test

set_option Elab.async false

open Sys2Proof.Machine Sys2Proof.Claim

/-! ### Well-formedness: each check refuses an ill-formed term -/

def hdr : ReqHeader := { dest := 12, src := 5, hops := 32, seq := 7 }

def zeroZone : ZoneWrite := ZoneEntry.reset.write

theorem test_wf_unsigned_one_byte : (Instr.modeSet hdr 256).wf = false ∧ (Instr.modeSet hdr 255).wf = true := by decide +kernel

theorem test_wf_unsigned_two_bytes : (Instr.historySpace hdr 0 65536).wf = false ∧ (Instr.historySpace hdr 0 65535).wf = true := by
  decide +kernel

theorem test_wf_unsigned_four_bytes : (Instr.lotMark hdr 4294967296).wf = false ∧ (Instr.lotMark hdr 4294967295).wf = true := by
  decide +kernel

theorem test_wf_signed_two_bytes :
    (Instr.entryWriteZone hdr 0 0 { zeroZone with trim := 32768 }).wf = false ∧
    (Instr.entryWriteZone hdr 0 0 { zeroZone with trim := -32769 }).wf = false ∧
    (Instr.entryWriteZone hdr 0 0 { zeroZone with trim := -32768 }).wf = true := by decide +kernel

theorem test_wf_signed_four_bytes :
    (Instr.entryWriteWeigher hdr { resetWeigherSettings with zero := 2147483648 }).wf = false ∧
    (Instr.entryWriteWeigher hdr { resetWeigherSettings with zero := -2147483648 }).wf = true := by decide +kernel

theorem test_wf_steps :
    (Instr.entryWriteProfile hdr 0 { resetProfile with steps := List.replicate 15 ⟨0, 0, 0, 0⟩ }).wf = false ∧
    (Instr.entryWriteProfile hdr 0 { resetProfile with steps := List.replicate 14 ⟨0, 0, 0, 0⟩ }).wf = true := by decide +kernel

theorem test_wf_unknown_station_command :
    (Instr.stationCommandUnknown hdr 9 0).wf = false ∧ (Instr.stationCommandUnknown hdr 1 0).wf = false ∧
    (Instr.stationCommandUnknown hdr 10 0).wf = true ∧ (Instr.stationCommandUnknown hdr 0 0).wf = true := by decide +kernel

theorem test_wf_unknown_weigher_command :
    (Instr.weigherCommandUnknown hdr 2).wf = false ∧ (Instr.weigherCommandUnknown hdr 3).wf = true := by decide +kernel

theorem test_wf_unknown_request :
    (Instr.unknownRequest hdr 17 []).wf = false ∧ (Instr.unknownRequest hdr 18 (List.replicate 120 0)).wf = false ∧
    (Instr.unknownRequest hdr 18 (List.replicate 119 0)).wf = true := by decide +kernel

theorem test_wf_mask : (Instr.noticeMask hdr (Vector.replicate 11 256)).wf = false ∧
    (Instr.noticeMask hdr (Vector.replicate 11 1)).wf = true := by decide +kernel

theorem test_wf_malformed : (Request.malformed 5).wf = false := by decide +kernel

/-! ### Single steps of the spec's worked examples -/

/-- The check word of the nine digits (R169's polynomial and preset). -/
theorem test_check_word : crc16 [0x31, 0x32, 0x33, 0x34, 0x35, 0x36, 0x37, 0x38, 0x39] = 0x29B1 := by decide +kernel

/-- The reversed phases of R58. -/
theorem test_bitrev : (List.range 8).map bitrev = [0, 4, 2, 6, 1, 5, 3, 7] := by decide +kernel

/-- One lost unit of a proportional term: floor(-40 / 16) = -3 (R57). -/
theorem test_demand_floor : demandOf 100 40 0 (-1) 0 = 97 := by decide +kernel

/-- Attempt limits 1500, 1900, 2000 under an absolute limit of 2000 (R138). -/
theorem test_attempt_limits :
    (List.map (attemptLimit { resetSettings with forceLimit := 2000 } { Recipe.reset with initialForce := 1500, forceStep := 400 })
      [1, 2, 3]) = [1500, 1900, 2000] := by decide +kernel

/-- Zone 2.5 of 3.13: conditioning, averaging, setpoint, integral, demand, dither and budget. -/
theorem test_worked_zone :
    conditioned { ZoneEntry.reset.toZoneFigures with offset := 240, gain := 3300 } 15400 = 1526 ∧
    average (feedWindow 4 [1517, 1520, 1522, 1525] 1526) = some 1523 ∧ zoneSetpoint 1520 5 = 1525 ∧
    demandOf 703 96 40 2 312 = 763 ∧ dither 763 2 = 96 ∧ budgeted 96 1200 1350 = 85 := by decide +kernel

/-- Group 0 of 2.6: seeded at 215, it steps to 375, 536 and 696; a group that falls from 1500 to 1400 steps to 1487. -/
theorem test_worked_ramp :
    let g := { Group.reset with target := 1500, len := 8 }.takeSeed 215
    g.rampStep.sg = 375 ∧ g.rampStep.rampStep.sg = 536 ∧ g.rampStep.rampStep.rampStep.sg = 696 ∧
    { Group.reset with target := 1400, s0 := 1500, sg := 1500, len := 8 }.rampStep.sg = 1487 := by decide +kernel

/-- The windows of 4.9: HIGH at 1521, still HIGH at 1508, IN again at 1500. -/
theorem test_worked_window :
    nextWindow .within 1515 1480 40 30 = .within ∧ nextWindow .within 1521 1480 40 30 = .high ∧
    nextWindow .high 1508 1480 40 30 = .high ∧ nextWindow .high 1500 1480 40 30 = .within := by decide +kernel

/-- The recipe figures of 5.10 and 6.11. -/
def worked : Recipe :=
  { Recipe.reset with nominalMass := 48000, lowerTol := 150, upperTol := 250, minPieces := 3, pieceLimit := 4, massCoeff := 96,
                      eBase := 180000, eMin := 120000, eMax := 240000 }

/-- The cure target of cycle 42 (5.10). -/
theorem test_worked_target : cureTarget worked 48240 = 181440 := by decide +kernel

/-- The weigh of 6.11: the gross of the deciding sample, the settled value, the decisions, and the tracked tare. -/
theorem test_worked_weigh :
    grossOf { resetWeigherSettings with zero := 120000, span := 2000 } 1701876 = 48275 ∧
    stableValue 20 [48232, 48236, 48240, 48244, 48238, 48246, 48244, 48240] = some 48240 ∧
    decideCharge worked 48240 3 = .accept ∧ decideCharge worked 48260 3 = .over ∧ decideCharge worked 47700 3 = .wait ∧
    windowValue [-3, -2, -4, -3, -2, -3, -4, -2] = some (-3) := by decide +kernel

/-- A request's payload, spelled out from 12.1: HISTORY-SPACE REVERSE 258, and BIND of recipe 5 to station 2. -/
theorem test_request_bytes :
    parseRequest [12, 1, 1, 2] = .historySpace 1 258 ∧ parseRequest [7, 8, 2, 5] = .bind 2 5 ∧ parseRequest [7, 8, 2] = .malformed 7 ∧
    parseRequest [99] = .unknown 99 [] := by decide +kernel

/-! ### Small states -/

def base : State := State.reset

def run : State := { base with mode := .run }

/-- `base` with the last station changed. -/
def stn (f : Station → Station) : State := base.modStation 5 f

def inState (x : StationState) : State := stn fun y => { y with state := x }

def ctx : Context := newContext 1 15 Recipe.reset 0 .none

def withCtx (x : StationState) (c : Context) : State := stn fun y => { y with state := x, ctx := some c }

def entry (role address station : Nat) : RouteEntry :=
  { address := address, role := role, station := station, silence := 50, present := true }

/-- `s` with a route entry in the last place. -/
def routed (e : RouteEntry) (s : State) : State := s.modPort fun p => { p with routes := p.routes.set 31 e }

/-- `s` some milliseconds on. -/
def later (n : Nat) (s : State) : State := { s with now := BitVec.ofNat 32 n }

def sample (k src : Byte) (p : List Byte) : SampleFrame :=
  let f : Frame :=
    { dest := 255, src := src, kind := k, hops := 1, seq := 0, length := BitVec.ofNat 8 p.length, payload := p, check := 0 }
  { dest := 255, src := src, hops := 1, seq := 0, length := BitVec.ofNat 8 p.length, payload := p, check := checkWord f }

def next (i : Instr) (s : State) : Option State :=
  match exec i s with
  | .next t => some t
  | _ => none

/-- A PING to a fresh part is answered with the identification of R189. -/
theorem test_ping :
    ((next (.ping hdr) base).map fun t => t.port.buffer) = some (.answering
      [{ dest := 5, kind := 10, seq := some 7,
         payload := [1, 0, 0, 1, 0x5A, 0x46, 0x01, 0xA0, 0, 3, 1, 12, 0, 0, 0, 0] }] false) := by decide +kernel

/-- A frame for another node leaves with one hop less. -/
theorem test_forwarded :
    ((next (.ringInFrame ((sample 10 5 []).frame 10)) base).bind fun t => t.port.sending).map (fun f => (f.hops, f.dest, f.src)) =
      some (0, 255, 5) := by decide +kernel

/-- A millisecond passes on an empty queue. -/
theorem test_idle : step base = .next (later 1 base) := by
  have h : base.ownSteps = [] := by decide +kernel
  show Host.Outcome.next base.idle = _
  rw [State.idle, h]
  rfl

/-- START of an OFFLINE station is refused with STATE, and the answer carries no body. -/
theorem test_start_offline :
    ((next (.start hdr 5) base).map fun t => t.port.buffer) = some (.answering
      [{ dest := 5, kind := 10, seq := some 7, payload := [7, 1, 0, 1] }] false) := by decide +kernel

/-! ### Hypotheses that are met: requests -/

theorem witness_Served : Served base hdr ∧ Served run hdr ∧ Served (routed (entry 5 5 255) base) hdr := by
  unfold Served; decide +kernel

/-- A foreign MASTER, and an occupied buffer (BusyAndForeignRequests). -/
theorem witness_BusyAndForeignRequests :
    let s := routed (entry 5 254 255) base;
    (Instr.ping hdr).request? = some (hdr, .ping) ∧ s.mode ≠ .isolated ∧ s.nodeAddress = some hdr.dest ∧ hdr.src ≠ hdr.dest ∧
    hdr.hops ≠ 0 ∧ s.port.buffer = .empty ∧ s.findEntry .master 255 = some 31 ∧
    BitVec.ofNat 8 (s.port.routes[31]).address ≠ hdr.src ∧ (s.modPort fun p => { p with buffer := .restarting }).port.buffer ≠ .empty := by
  decide +kernel

theorem witness_ModeSetRule :
    run.mode = .run ∧ base.mode = .config ∧ base.arbiter.queue = [] ∧ (∀ st : Fin 6, (run.station st).state = .offline) ∧
    Served { inState .parked with mode := .run } hdr ∧ ((inState .parked).station 5).state ≠ .offline := by
  unfold Served; decide +kernel

def ejectorWrite : RouteWrite := { present := 1, address := 254, role := 3, station := 5, silence := 10000, owned := 0 }

/-- A route write that fits, with every field at the end of its range. -/
theorem witness_StationTableWrites_routeTaken : ¬RouteBusy base 31 ejectorWrite ∧ RouteFits base 31 ejectorWrite :=
  ⟨by unfold RouteBusy; decide +kernel,
    .inr ⟨rfl, by decide, by decide, by decide, by decide, by decide, by decide, by decide +kernel, by decide +kernel⟩⟩

/-- One refused as busy, by the entry as written. -/
theorem witness_StationTableWrites_routeBusy : RouteBusy (inState .parked) 31 ejectorWrite ∧ Served (inState .parked) hdr := by
  unfold RouteBusy Served; decide +kernel

/-- One that does not fit, an address beyond its range. -/
theorem witness_StationTableWrites_routeUnfit :
    ¬RouteBusy base 31 { ejectorWrite with address := 255 } ∧ ¬RouteFits base 31 { ejectorWrite with address := 255 } :=
  ⟨by unfold RouteBusy; decide +kernel, fun h => h.elim (by decide) fun h => absurd h.2.2.1 (by decide)⟩

/-- The old entries whose slots a moving write empties, one of each owned role, and one that stays. -/
theorem witness_StationTableWrites_slots :
    ∀ role ∈ [1, 2, 3, 4], let s := routed (entry role 1 (if role = 4 then 255 else 5)) base
      Served s hdr ∧ (s.port.routes[31]).present = true ∧ (s.port.routes[31]).role = role ∧
      ¬RouteBusy s 31 { present := 0, address := 1, role := role, station := 5, silence := 0, owned := 0 } := by
  unfold RouteBusy Served; decide +kernel

theorem witness_StationTableWrites_station :
    SettingsFit resetSettings ∧ SettingsFit { resetSettings with budget := 4080, roundPeriod := 2000, readyDwell := 255, holdTime := 60000 } ∧
    ¬SettingsFit { resetSettings with budget := 4081 } := by
  unfold SettingsFit; refine ⟨?_, ?_, ?_⟩ <;> decide +kernel

theorem witness_StationTableWrites_states :
    ((inState .parked).station 5).state = .parked ∧
    ((inState .ready).station 5).state ≠ .offline ∧ ((inState .ready).station 5).state ≠ .parked ∧ Served (inState .ready) hdr := by
  unfold Served; decide +kernel

theorem witness_StationTableWrites_zone :
    ZoneFits zeroZone ∧ ZoneFits { zeroZone with present := 1, group := 3, trim := -500, depth := 8, runaway := 1000 } ∧
    ¬ZoneFits { zeroZone with depth := 3 } ∧ ¬ZoneFits { zeroZone with trim := 501 } := by
  unfold ZoneFits; refine ⟨?_, ?_, ?_, ?_⟩ <;> decide +kernel

/-- A zone write that leaves its platen served, and one that leaves it without a present zone (R78). -/
theorem witness_StationTableWrites_lost :
    let x := base.station 5;
    let served := x.zones.set 15 { Zone.reset with entry := { ZoneEntry.reset with present := true } };
    (∃ i : Fin 16, i.val / 8 = 1 ∧ (served[i]).entry.present = true ∧ (served[i]).fault = .none) ∧
    (∀ i : Fin 16, i.val / 8 = 1 → (x.zones[i]).entry.present = true → (x.zones[i]).fault ≠ .none) :=
  ⟨⟨15, by decide +kernel⟩, by decide +kernel⟩

/-- A group that PROFILES_APPLY re-reads, and one it leaves. -/
theorem witness_CellTableWrites_apply :
    let s := run.modStation 5 fun y =>
      { y with state := .parked, groups := y.groups.set 3 { Group.reset with profile := some 15, source := .park } };
    Served s hdr ∧ (s.station 5).state ≠ .offline ∧ ((s.station 5).groups[(3 : Fin 4)]).profile = some 15 ∧
    TargetIn s.profilesShadow[(15 : Fin 16)] ((s.station 5).groups[(3 : Fin 4)]).source 0 0 0 0 0 ∧
    ((s.station 5).groups[(2 : Fin 4)]).profile = none := by
  refine ⟨by unfold Served; decide +kernel, by decide +kernel, by decide +kernel, ?_, by decide +kernel⟩
  exact ⟨by decide +kernel, by decide +kernel, by decide +kernel, rfl⟩

theorem witness_CellTableWrites_profile :
    profileInRange { resetProfile with steps := [⟨4000, 255, 0, 2047⟩, ⟨0, 0, 255, 0⟩] } = true ∧
    profileInRange { resetProfile with steps := [] } = false ∧ resetProfile.steps ≠ [] := by decide +kernel

/-- The power-on profile fits, and an empty step list does not. -/
theorem witness_CellTableWrites_fits : ProfileFits resetProfile ∧ ¬ProfileFits { resetProfile with steps := [] } := by
  refine ⟨?_, by intro h; exact absurd h.2.2.1 (by decide)⟩
  unfold ProfileFits
  refine ⟨by decide +kernel, by decide, by decide, by decide, by decide +kernel, by decide +kernel, ?_⟩
  intro j a b _ hb
  have : resetProfile.steps[j + 1]? = none := by simp [resetProfile]
  rw [this] at hb
  exact absurd hb (by simp)

theorem witness_CellTableWrites_recipe :
    RecipeFits { Recipe.reset.write with present := 1, retryLimit := 3, wallMax := 3600000 } ∧
    ¬RecipeFits { Recipe.reset.write with wallMin := 1 } ∧ (∀ st : Fin 6, (base.station st).state ≠ .ready) := by
  refine ⟨?_, ?_, by decide +kernel⟩
  · unfold RecipeFits; repeat' apply And.intro
    all_goals decide +kernel
  · intro h; unfold RecipeFits at h; revert h; simp only [Recipe.reset, Recipe.write]; omega

/-- A READY station that a START makes call. -/
def caller : State :=
  { base.modStation 5 fun y => { y with state := .ready, pressAuto := true } with
    recipes := base.recipes.set 0 { Recipe.reset with present := true }, weigher := { Weigher.reset with state := .clearing } }

/-- A READY station bound to the written recipe, whose calling condition the write meets. -/
theorem witness_CellTableWrites_look :
    let s := caller.modStation 5 fun y => { y with runEnable := true }
    Served s hdr ∧ (s.station 5).boundRecipe = 0 ∧ (s.station 5).state = .ready ∧ (s.station 5).runEnable = true ∧
    (s.station 5).pressAuto = true := by unfold Served; decide +kernel

theorem witness_CellTableWrites_weigher :
    WeigherFits resetWeigherSettings ∧ ¬WeigherFits { resetWeigherSettings with presenceOff := 300 } ∧ base.weigher.state = .idle ∧
    Served (base.modWeigher fun w => { w with state := .clearing }) hdr := by
  unfold WeigherFits Served
  refine ⟨?_, ?_, by decide +kernel, by decide +kernel⟩
  · repeat' apply And.intro
    all_goals decide +kernel
  · intro h; exact absurd h.2.2.2.2.2.2.2.2.2.2.1 (by decide)

theorem witness_CellTableWrites_history :
    HistoryFits { policy := 1, backlog := 255, lowWater := 16384, autoSend := 1 } ∧
    ¬HistoryFits { policy := 1, backlog := 0, lowWater := 0, autoSend := 0 } ∧ run.mode ≠ .config ∧
    1 ≠ run.store.settings.policy.code ∧ 0 = run.store.settings.policy.code := by
  unfold HistoryFits; decide +kernel

/-- The boundary of every index of the tables. -/
theorem witness_indexes : ∀ n ∈ [4, 6, 16, 32], tableOf? n = none ∧ (6 ≤ n → stationOf? n = none) ∧ (16 ≤ n → zoneOf? n = none) ∧
    (32 ≤ n → entryOf? n = none) := by decide +kernel

theorem witness_RunCommandsRule :
    (Served caller hdr ∧ (caller.station 5).state = .ready ∧ (caller.recipes[(caller.station 5).boundRecipe]).present = true ∧
      (caller.station 5).pressAuto = true ∧ caller.weigher.state ≠ .idle) ∧
    (∀ x ∈ [StationState.offline, .warming, .ready, .calling, .opening, .ejecting, .hold, .latched, .parked],
      ((inState x).station 5).state = x ∧ Served (inState x) hdr) ∧
    (let s := (withCtx .charging ctx).modWeigher fun w => { w with granted := some 5, state := .armed };
      Served s hdr ∧ (s.station 5).state = .charging ∧ s.ctx? 5 = some ctx ∧ s.weigher.granted = some 5 ∧ s.weigher.state ≠ .idle) ∧
    (∀ x ∈ [StationState.loading, .curing], (withCtx x ctx).ctx? 5 = some ctx ∧ Served (withCtx x ctx) hdr) := by
  unfold Served; refine ⟨?_, ?_, ?_, ?_⟩ <;> decide +kernel

/-- A station that ONLINE takes: its four nodes, a zone on each platen, its recipe. -/
def complete : State :=
  let s := base.modPort fun p =>
    { p with routes := (((p.routes.set 28 (entry 0 28 5)).set 29 (entry 1 29 5)).set 30 (entry 2 30 5)).set 31 (entry 3 31 5) };
  let z : Zone := { Zone.reset with entry := { ZoneEntry.reset with present := true } };
  { s.modStation 5 fun x => { x with zones := (x.zones.set 7 z).set 8 z } with
    mode := .run, recipes := s.recipes.set 0 { Recipe.reset with present := true } }

theorem witness_LineCommandsRule_online :
    Served complete hdr ∧ (complete.station 5).state = .offline ∧ complete.mode = .run ∧ State.complete complete 5 = true ∧
    Served run hdr ∧ State.complete run 5 = false := by
  unfold Served; decide +kernel

theorem witness_LineCommandsRule_ready : ReadyForOnline complete 5 ∧ ¬ReadyForOnline run 5 := by
  constructor
  · exact ⟨⟨28, by decide +kernel, by decide +kernel⟩, by decide +kernel, ⟨30, by decide +kernel, by decide +kernel⟩,
      by decide +kernel, ⟨7, by decide +kernel⟩, ⟨8, by decide +kernel⟩, by decide +kernel⟩
  · intro h; exact absurd h.2.1 (by decide +kernel)

set_option synthInstance.maxSize 4000 in
theorem witness_LineCommandsRule_others :
    (∀ x ∈ [StationState.hold, .latched], ((inState x).station 5).ctx = none ∧ ((withCtx x ctx).station 5).ctx ≠ none ∧
      Served (withCtx x ctx) hdr) ∧
    ¬CausePersists (inState .latched) 5 ∧
    CausePersists (stn fun y => { y with state := .latched, cause := .pressStop, pressStop := true }) 5 ∧
    ((withCtx .latched { ctx with mouldOccupied := true }).ctx? 5).any (·.mouldOccupied) = true ∧
    ((inState .warming).station 5).ctx = none ∧ ((inState .ready).station 5).runEnable = false := by
  unfold Served CausePersists SilentEntry EntryIs RouteNames; decide +kernel

set_option synthInstance.maxSize 4000 in
/-- Each cause that can persist, persisting and not: a silence by the silence of its entry, PLATEN_LOST by the lost flag of the lower
platen. HOLD_REPEAT never persists. -/
theorem witness_CausePersists :
    (∀ x ∈ [(Cause.heatSilent, 0), (.pressSilent, 2), (.ejectorSilent, 3)], ∀ q ∈ [Silence.silent, .running 0],
      let s := (routed (entry x.2 254 5) (stn fun y => { y with cause := x.1 })).modPort fun p => { p with silence := p.silence.set 31 q };
      CausePersists s 5 ↔ q = .silent) ∧
    (∀ b ∈ [true, false], CausePersists (stn fun y => { y with cause := .platenLost, lost := y.lost.set 1 b }) 5 ↔ b = true) ∧
    ¬CausePersists (stn fun y => { y with cause := .holdRepeat, lost := y.lost.set 1 true, pressStop := true }) 5 := by
  unfold CausePersists SilentEntry EntryIs RouteNames; decide +kernel

/-- BIND in READY of a present recipe with run-enable and press auto set, and a CALLING station in the queue. -/
theorem witness_LineCommandsRule_calls :
    (let s := caller.modStation 5 fun y => { y with runEnable := true };
      Served s hdr ∧ (s.station 5).ctx = none ∧ (s.station 5).state = .ready ∧ (s.station 5).runEnable = true ∧
      (s.recipes[(0 : Fin 16)]).present = true ∧ (s.station 5).pressAuto = true) ∧
    (let s : State := { inState .calling with arbiter := { queue := [5, 4], granted := none } };
      Served s hdr ∧ (s.station 5).state = .calling ∧ s.weigher.state = .idle) := by unfold Served; decide +kernel

theorem witness_ZoneClearRule : ((inState .curing).station 5).state = .curing ∧ Served (inState .curing) hdr ∧
    ((inState .warming).station 5).state ≠ .curing := by unfold Served; decide +kernel

set_option synthInstance.maxSize 4000 in
/-- Each cause of the weigher, persisting and not; a gross at the capacity does not persist, one above it does. -/
theorem witness_WeigherCommandsRule :
    base.weigher.state = .idle ∧
    (let s := base.modWeigher fun w => { w with state := .fault, cause := .notCleared };
      Served s hdr ∧ s.weigher.state = .fault ∧ ¬WeigherPersists s) ∧
    WeigherPersists (base.modWeigher fun w => { w with state := .fault, cause := .notCleared, presence := .present }) ∧
    (∀ g ∈ [(100 : Int), 101], WeigherPersists (base.modWeigher fun w =>
      { w with cause := .overload, lastGross := some g, settings := { w.settings with capacity := 100 } }) ↔ g = 101) ∧
    (∀ x ∈ [WeighStatus.ok, .error, .overload],
      (WeigherPersists (base.modWeigher fun w => { w with cause := .overload, lastStatus := x }) ↔ x = .overload) ∧
      (WeigherPersists (base.modWeigher fun w => { w with cause := .nodeError, lastStatus := x }) ↔ x = .error)) ∧
    (∀ q ∈ [Silence.silent, .running 0], WeigherPersists ((routed (entry 4 254 255) (base.modWeigher fun w =>
      { w with cause := .silent })).modPort fun p => { p with silence := p.silence.set 31 q }) ↔ q = .silent) := by
  unfold Served WeigherPersists SilentEntry EntryIs RouteNames; decide +kernel

/-- One record in the store, the cursor before it. -/
def oneRecord : State := base.modStore fun x => { x with ring := [List.replicate 16 3], next := 1, held := 16 }

theorem witness_HistoryRequestsRule :
    (Served oneRecord hdr ∧ oneRecord.store.sender = none ∧ oneRecord.store.autoPos = oneRecord.store.cursor ∧
      oneRecord.store.cursor ≠ oneRecord.store.next ∧ oneRecord.store.record? oneRecord.store.cursor = some (List.replicate 16 3)) ∧
    base.store.cursor = base.store.next ∧
    (let s := base.modStore fun x => { x with cursor := 1 };
      Served s hdr ∧ s.store.autoPos ≠ s.store.cursor) ∧
    (let s := base.modStore fun x => { x with settings := { x.settings with policy := .hold }, held := 16369 };
      Served s hdr ∧ s.store.settings.policy = .hold ∧ s.store.room < 16) ∧
    (base.modStore fun x => { x with settings := { x.settings with policy := .hold }, held := 16368 }).store.room = 16 := by
  unfold Served; refine ⟨?_, ?_, ?_, ?_, ?_⟩ <;> decide +kernel

theorem witness_NoticeRules_mask :
    (∀ k : Fin 11, (Vector.replicate 11 1)[k] ≤ 1) ∧ ∃ k : Fin 11, 2 ≤ ((Vector.replicate 11 0).set 10 2)[k] := by
  exact ⟨by decide +kernel, 10, by decide +kernel⟩

/-! ### Hypotheses that are met: the ring -/

theorem witness_LineInvariantKept :
    (LineInvariant base ∧ LineInvariant { base with mode := .isolated, nodeAddress := none }) ∧
    step base = .next (later 1 base) := ⟨by unfold LineInvariant; decide +kernel, test_idle⟩

theorem run_station (st : Fin 6) : run.station st = Station.reset := by revert st; decide +kernel

/-- The cell's and the store's invariants hold of a part in RUN, which takes a step. -/
theorem witness_CellInvariantKept : CellInvariant run ∧ (step run = .next (later 1 run)) := by
  refine ⟨⟨fun st => ?_, .nil, rfl, by decide⟩, ?_⟩
  · rw [run_station]
    exact ⟨rfl, fun c h => (Option.some_ne_none c h.symm).elim, by decide +revert, by decide +revert, fun _ => rfl⟩
  · have h : run.ownSteps = [] := by decide +kernel
    show Host.Outcome.next run.idle = _
    rw [State.idle, h]
    rfl

/-- The part in RUN with a record in the ring. -/
def stored : State := { run with store := { Store.reset with ring := [List.replicate 16 3], next := 1, held := 16 } }

theorem witness_StoreInvariantKept : StoreInvariant stored := by
  refine ⟨by decide +kernel, by decide +kernel, by decide +kernel, by decide +kernel, by decide +kernel, by decide +kernel,
    by decide +kernel, by decide +kernel, fun y h => (Option.some_ne_none y h.symm).elim, ?_, ?_⟩
  · unfold CountsFit; decide +kernel
  · intro st c h
    have h2 : (run.station st).ctx = some c := h
    rw [run_station] at h2
    exact (Option.some_ne_none c h2.symm).elim

theorem witness_TypedRequestIsItsFrame :
    (Instr.unknownRequest hdr 255 (List.replicate 119 0)).request? = some (hdr, .unknown 255 (List.replicate 119 0)) ∧
    (Instr.unknownRequest hdr 255 (List.replicate 119 0)).wf = true ∧ (Instr.start hdr 255).wf = true := by decide +kernel

theorem witness_TablesChangeOnlyByTheirCommands : (next (.ping hdr) base).isSome = true ∧ Instr.ping hdr ≠ .powerOnReset 0 := by
  decide +kernel

theorem witness_RequestBodiesReadBack :
    (Request.entryWriteZone 255 255 { zeroZone with trim := -500 }).wf = true ∧ (Request.unknown 255 []).wf = true ∧
    (Request.entryWriteProfile 15 resetProfile).wf = true := by decide +kernel

theorem witness_EmptyQueueIdles :
    base.pending = [] ∧ base.ownSteps = [] ∧ (base.raise .backlog none []).pending = [] ∧ (base.raise .backlog none []).ownSteps ≠ [] := by
  decide +kernel

/-- A wrong check word, a length above 120, a length that is not the payload's. -/
theorem witness_FramesTurnedAway_bad :
    (let f := { sample 1 5 [] with check := 0 };
      (f.frame 1).check ≠ checkWord (f.frame 1)) ∧
    120 < (sample 3 5 (List.replicate 121 0)).length.toNat ∧
    (let f := { sample 5 5 [] with length := 1 };
      f.length.toNat ≠ f.payload.length) := by decide +kernel

theorem witness_FramesTurnedAway_others :
    let f := (sample 255 5 []).frame 255;
    (f.check = checkWord f ∧ f.length.toNat = f.payload.length ∧ f.payload.length ≤ 120) ∧ Arrives base f 12 ∧ 10 ≤ f.kind.toNat ∧
    Arrives base ((sample 0 5 []).frame 0) 12 ∧ ((sample 9 12 []).frame 9).src = 12 ∧
    (let g := { (sample 9 5 []).frame 9 with hops := 0, check := checkWord { (sample 9 5 []).frame 9 with hops := 0 } };
      g.check = checkWord g ∧ g.hops = 0) := by unfold Arrives; decide +kernel

/-- A frame to the part or to another node, of a kind and payload. -/
def plain (kind dest : Byte) (payload : List Byte) : Frame :=
  let g : Frame := { dest := dest, src := 5, kind := kind, hops := 1, seq := 0, length := BitVec.ofNat 8 payload.length,
                     payload := payload, check := 0 };
  { g with check := checkWord g }

set_option synthInstance.maxSize 4000 in
/-- A sample of no known node, a command to no owned node and to every node, a request to another node; and malformed requests: an empty
payload, a PING with a body, an ENTRY-READ of table 8, a STATUS of object 4, at an empty and an occupied buffer and with another MASTER. -/
theorem witness_FramesTurnedAway_passing :
    (∀ k ∈ [(1 : Byte), 2, 3, 4, 5, 6, 7, 8], Arrives base (plain k 12 []) 12 ∧ Arrives base (plain k 255 []) 12) ∧
    (∀ i : Fin 32, (base.port.routes[i]).present = false) ∧ Arrives base (plain 9 13 [1]) 12 ∧ (13 : Byte) ≠ 12 ∧
    (∀ p ∈ [[], [(1 : Byte), 0], [4, 8, 0], [10, 4]], Arrives base (plain 9 12 p) 12 ∧ ¬RequestFits p) ∧
    Served base { dest := 12, src := 5, hops := 1, seq := 0 } ∧
    (base.modPort fun p => { p with buffer := .restarting }).port.buffer ≠ .empty ∧
    (routed (entry 5 6 255) base).findEntry .master 255 = some 31 := by
  unfold Arrives RequestFits Served; decide +kernel

/-- A command frame to an owned node of each kind of key, and to every node. -/
theorem witness_ForeignCommandIsBlocked :
    let f (d : Byte) : Frame :=
      let g : Frame := { dest := d, src := 5, kind := 2, hops := 1, seq := 0, length := 0, payload := [], check := 0 };
      { g with check := checkWord g }
    let unique (s : State) (d : Nat) := ∀ j : Fin 32, (s.port.routes[j]).present = true → (s.port.routes[j]).address = d → j = 31;
    (let s := routed (entry 1 254 5) base;
      Arrives s (f 254) 12 ∧ (s.port.routes[31]).present = true ∧ (s.port.routes[31]).role = 1 ∧ (s.port.routes[31]).station = 5 ∧
      unique s 254 ∧ Arrives s (f 255) 12 ∧ unique s 255) ∧
    (let s := routed (entry 4 1 255) base;
      Arrives s (f 1) 12 ∧ (s.port.routes[31]).role = 4 ∧ unique s 1) := by unfold Arrives; decide +kernel

theorem witness_FramesTurnedAway_forward :
    base.port.forward.length < 4 ∧
    4 ≤ (base.modPort fun p => { p with forward := List.replicate 4 ((sample 9 5 []).frame 9) }).port.forward.length := by decide +kernel

/-- A good sample and one with a wrong length or an unknown code, of each kind: both arrive, and the entry of its node is found. -/
def SampleWitness (k : Byte) (r : Role) (station : Nat) (fits : List Byte → Bool) (good bad : List Byte) : Prop :=
  let s := routed (entry r.code 254 station) base;
  Arrives s ((sample k 254 good).frame k) 12 ∧ Arrives s ((sample k 254 bad).frame k) 12 ∧ s.findSource r 254 = some 31 ∧
  (s.port.routes[31]).station = station ∧ fits good = true ∧ fits bad = false

theorem witness_heatSample : SampleWitness 1 .heat 5 (fun p => (parseHeat p).isSome) (List.replicate 50 0) [] := by
  unfold SampleWitness Arrives; decide +kernel

theorem witness_pressSample :
    SampleWitness 3 .press 5 (fun p => (parsePress p).isSome) (List.replicate 6 0) [0, 0, 0, 0, 0, 3] := by
  unfold SampleWitness Arrives; decide +kernel

theorem witness_ejectSample : SampleWitness 5 .ejector 5 (fun p => (parseEject p).isSome) (List.replicate 7 0) [] := by
  unfold SampleWitness Arrives; decide +kernel

theorem witness_weighSample :
    SampleWitness 7 .weigher 255 (fun p => (parseWeigh p).isSome) (List.replicate 8 0) [0, 0, 0, 0, 0, 0, 1, 6] := by
  unfold SampleWitness Arrives; decide +kernel

/-- Payloads refused for one code just beyond its table, and the same payloads with the last code of it (R191). -/
theorem witness_WrongSampleIsCounted_codes :
    (let p (k : Byte) := List.replicate 47 0 ++ [k, 0, 0];
      parseHeat (p 4) = none ∧ (parseHeat (p 3)).isSome = true) ∧
    (parsePress [0, 0, 0, 0, 0, 3] = none ∧ (parsePress [0, 0, 0, 0, 0, 2]).isSome = true) ∧
    (parseEject [0, 0, 0, 0, 2, 0, 0] = none ∧ (parseEject [0, 0, 0, 0, 1, 0, 0]).isSome = true) ∧
    (parseWeigh [0, 0, 0, 0, 0, 3, 0, 0] = none ∧ parseWeigh [0, 0, 0, 0, 0, 0, 3, 0] = none ∧
      (parseWeigh [0, 0, 0x80, 0, 0, 2, 1, 5]).map (fun m => (m.raw, m.gate)) = some (-8388608, .pass 5)) := by decide +kernel

/-! ### Hypotheses that are met: heat -/

def heat0 : HeatSample := { nodeRound := 0, channels := Vector.replicate 16 (.ok, 0) }

theorem witness_HeatSampleRounds :
    ((stn fun x => { x with round := { x.round with lastNode := some 0 } }).station 5).round.lastNode = some heat0.nodeRound ∧
    (base.station 5).round.lastNode ≠ some heat0.nodeRound ∧ (base.station 5).state = .offline ∧
    complete.nodeOf .heater 5 = some 29 ∧ (complete.station 5).state = .offline ∧ base.nodeOf .heater 5 = none ∧
    (∀ x ∈ [StationState.warming, .curing, .parked],
      ((inState x).station 5).round.lastNode ≠ some heat0.nodeRound ∧ ((inState x).station 5).state ≠ .offline) := by decide +kernel

def driven : Zone :=
  { Zone.reset with entry := { ZoneEntry.reset with present := true }, kind := some .driven, tavg := some 4000, samples := [4000] }

/-- The ready test: held back by a ramping round of a faulted zone's group, by a window, and by neither, at the dwell and below it; and
at the dwell a station that calls and one that does not. -/
theorem witness_ReadyTestRule :
    (let s := inState .warming;
      (s.station 5).state = .warming ∧ (∀ i : Fin 16, ((s.station 5).zones[i]).entry.present = false) ∧
      min 255 ((s.station 5).readyCount + 1) < (s.station 5).settings.readyDwell) ∧
    (let s := { caller.modStation 5 fun y => { y with state := .warming, runEnable := true, readyCount := 255 } with
        recipes := caller.recipes };
      (s.station 5).settings.readyDwell ≤ min 255 ((s.station 5).readyCount + 1) ∧ Calls s 5) ∧
    ¬Calls caller 5 ∧
    (let z : Zone := { driven with fault := .overtemp, window := .high };
      z.entry.present = true ∧ ¬z.fault = .none ∧ z.window ≠ .within ∧ (Vector.replicate 4 true)[z.entry.group] = true) := by
  unfold Calls; decide +kernel

/-- DemandAndDither, ZoneRoundRule, WindowRule. -/
theorem witness_driven :
    driven.entry.present = true ∧ driven.fault = .none ∧ driven.kind = some .driven ∧ driven.tavg = some 4000 ∧
    (Zone.reset.entry.present = false) ∧ (0 + 0 + 10 ≤ 10 ∧ ¬(10 + 0 + 10 ≤ 0)) := by decide +kernel

theorem witness_FullRoundAccounts :
    Station.reset.round.firstRound = false ∧ (Station.startAnew Station.reset).round.firstRound = true ∧
    (Station.reset.zones[15]).entry.present = false := by decide +kernel

theorem witness_GroupRule :
    ({ Group.reset with k := 254, len := 255 } : Group).k < 255 ∧ Group.reset.len ≤ Group.reset.k ∧ Group.reset.seeded = false ∧
    ({ Group.reset with target := 1, len := 255 } : Group).len ≠ 0 ∧ StationState.curing.source ≠ StationState.opening.source := by
  decide +kernel

/-- A recipe in use: the bound one, the snapshot, and none; and a target of each source kind that has one. -/
theorem witness_GroupRule_resolve :
    RecipeInUse complete 5 complete.recipes[0] ∧ RecipeInUse (withCtx .curing ctx) 5 Recipe.reset ∧ (∀ r, ¬RecipeInUse base 5 r) ∧
    (∀ k ∈ [SourceKind.idle, .park, .hold, .opening, .step], TargetIn resetProfile k 5 0 0 0 0) := by
  refine ⟨.inr ⟨by decide +kernel, by decide +kernel, rfl⟩, .inl ⟨ctx, by decide +kernel, rfl⟩, ?_, ?_⟩
  · rintro r (⟨c, h, _⟩ | ⟨_, h, _⟩)
    · exact absurd h (by rw [show base.ctx? 5 = none by decide +kernel]; exact nofun)
    · exact absurd h (by decide +kernel)
  · intro k h
    simp only [List.mem_cons, List.not_mem_nil, or_false] at h
    rcases h with h | h | h | h | h <;> subst h
    all_goals unfold TargetIn
    all_goals first | exact ⟨rfl, rfl, rfl, rfl⟩ | exact ⟨rfl, _, rfl, rfl, rfl, rfl⟩

theorem witness_ZoneRoundRule :
    ({ driven with kind := some .unread, tavg := none, samples := [] } : Zone).kind = some .unread ∧ 1 ≤ driven.entry.depth ∧ ¬({ driven with fault := .tcOpen } : Zone).fault = .none ∧ (∀ n ∈ driven.samples, n ≤ 4000) ∧
    Zone.reset.samples = [] := by decide +kernel

/-- The run of HEATER_OPEN: not full, its first round, its sixteenth with a rise of 9 and of 10; and each fault at its threshold. -/
theorem witness_ZoneFaultRule :
    (let z : Zone := { driven with demand := 2047, heaterOpenCount := 15, heaterOpenRef := 3991 };
      z.entry.present = true ∧ z.fault = .none ∧ z.demand = 2047 ∧ (if z.kind = some .driven then z.tavg else none) = some 4000 ∧
      15 ≤ z.heaterOpenCount ∧ 4000 < z.heaterOpenRef + 10 ∧ z.judgeFault.fault = .overtemp ∧
      ({ z with entry := { z.entry with overTemp := 4001 } } : Zone).judgeFault.fault = .heaterOpen ∧
      ({ z with heaterOpenRef := 3990, entry := { z.entry with overTemp := 4001 } } : Zone).judgeFault.heaterOpenCount = 1) ∧
    ¬driven.demand = 2047 ∧ ({ driven with lastStatus := .absent, openCount := 1 } : Zone).judgeFault.fault = .tcOpen ∧
    ({ driven with lastStatus := .range, rangeCount := 1 } : Zone).judgeFault.fault = .tcRange ∧
    ({ driven with stuckCount := 7, entry := { driven.entry with overTemp := 4001 } } : Zone).judgeFault.fault = .heaterStuck := by
  decide +kernel

/-- A station whose lower platen is lost by a fault of its last zone. -/
def losing (x : StationState) (c : Option Context) : State :=
  stn fun y => { y with
    state := x, ctx := c,
    zones := y.zones.set 15 { driven with entry := { driven.entry with cureRef := true }, lastStatus := .openTc, openCount := 1 } }

theorem witness_SupervisorRule :
    (∀ x ∈ [StationState.offline, .latched, .curing, .parked, .hold, .calling], let s := losing x (if x = .curing then some ctx else none)
      (s.station 5).state = x ∧ ((s.station 5).zones[15]).fault ≠ (((s.station 5).zones[15]).judgeFault).fault ∧
      (∀ i : Fin 16, i.val / 8 = 1 → ((s.station 5).zones[i]).entry.present = true → i = 15) ∧
      (s.station 5).lost[1] = false ∧ s.port.mask[(1 : Fin 11)] = true) ∧
    (losing .curing (some ctx)).ctx? 5 = some ctx ∧ ctx.faults.length ≤ 16 ∧ (losing .opening (some ctx)).ctx? 5 = some ctx ∧
    (let s := (losing .charging (some ctx)).modWeigher fun w => { w with state := .stable, granted := some 5 };
      (s.station 5).state = .charging ∧ s.ctx? 5 = some ctx ∧ s.weigher.granted = some 5 ∧ s.weigher.state ≠ .idle) ∧
    (∀ i : Fin 16, ((base.station 5).zones[i]).fault = (((base.station 5).zones[i]).judgeFault).fault) := by decide +kernel

/-! ### Hypotheses that are met: the cycle -/

def pressed : PressSample := { ram := 0, tonnage := 65535, stop := false, auto := true, echo := .close }

set_option synthInstance.maxSize 4000 in
/-- Each test of a PRESS-SAMPLE at the value that meets it and at the next one that does not. -/
theorem witness_PressSampleTests :
    pressed.stop = false ∧
    (∀ x ∈ [StationState.offline, .warming, .charging, .ejecting, .hold, .latched, .parked], ((inState x).station 5).state = x) ∧
    (let s := caller.modStation 5 fun y => { y with runEnable := true };
      (s.station 5).state = .ready ∧ (s.station 5).runEnable = true ∧ (s.recipes[(s.station 5).boundRecipe]).present = true ∧
      pressed.auto = true ∧ s.weigher.state ≠ .idle ∧ (caller.station 5).runEnable = false) ∧
    (let s := caller.modStation 5 fun y => { y with state := .calling };
      (s.station 5).state = .calling ∧ { pressed with auto := false }.auto = false ∧ s.weigher.state ≠ .idle) ∧
    (let s := withCtx .loading ctx;
      (s.station 5).state = .loading ∧ s.ctx? 5 = some ctx ∧ pressed.ram ≤ (s.station 5).settings.closedThreshold ∧
      (s.station 5).settings.minTonnage ≤ pressed.tonnage ∧ (s.station 5).settings.closedThreshold < { pressed with ram := 1 }.ram) ∧
    (∀ n ∈ [1, 2], ∀ h ∈ [1, 2],
      let c := { ctx with lowTonnage := n };
      let s := stn fun y => { y with state := .curing, ctx := some c, holdCount := h, settings := { y.settings with minTonnage := 65535 } };
      (s.station 5).state = .curing ∧ s.ctx? 5 = some c ∧ { pressed with tonnage := 65534 }.tonnage < (s.station 5).settings.minTonnage ∧
      (3 ≤ c.lowTonnage + 1 ↔ n = 2) ∧ ((s.station 5).holdCount < 2 ↔ h = 1)) ∧
    (∀ h ∈ [1, 2], ∀ silent ∈ [true, false],
      let c := { ctx with eject := { ctx.eject with sub := .waitOpen } };
      let s := (routed (entry 3 254 5) (stn fun y => { y with state := .opening, ctx := some c, holdCount := h })).modPort fun p =>
        { p with silence := p.silence.set 31 (if silent then .silent else .stopped) };
      (s.station 5).state = .opening ∧ s.ctx? 5 = some c ∧ c.eject.sub = .waitOpen ∧ c.snapshot.openThreshold ≤ pressed.ram ∧
      (SilentEntry s 3 5 ↔ silent = true) ∧ pressed.ram < { c.snapshot with openThreshold := 1 }.openThreshold) ∧
    StationState.loading.permission ≠ StationState.charging.permission ∧ StationState.opening.permission = StationState.ejecting.permission := by
  unfold SilentEntry EntryIs RouteNames; decide +kernel

/-- The states in which a HOLD cause finds a station (CauseTaken), below its third hold and at it. -/
theorem witness_StopFlagHolds :
    { pressed with stop := true }.stop = true ∧
    (∀ x ∈ [StationState.offline, .parked, .latched, .warming, .ready], ((inState x).station 5).state = x ∧ ((inState x).station 5).ctx = none) ∧
    (let s := caller.modStation 5 fun y => { y with state := .calling };
      (s.station 5).state = .calling ∧ (s.station 5).ctx = none ∧ s.weigher.state ≠ .idle) ∧
    (let s := (withCtx .charging ctx).modWeigher fun w => { w with granted := some 5, state := .armed };
      (s.station 5).state = .charging ∧ s.ctx? 5 = some ctx ∧ s.weigher.granted = some 5 ∧ s.weigher.state ≠ .idle ∧
      (s.station 5).holdCount < 2) ∧
    (∀ x ∈ [StationState.loading, .curing, .opening, .ejecting], ∀ h ∈ [1, 2],
      let s := stn fun y => { y with state := x, ctx := some ctx, holdCount := h };
      (s.station 5).state = x ∧ s.ctx? 5 = some ctx ∧ ((s.station 5).holdCount < 2 ↔ h = 1)) ∧
    (∀ k ∈ [Cause.pressStop, .loadTimeout], let s := stn fun y => { y with state := .hold, cause := k };
      (s.station 5).state = .hold ∧ ((s.station 5).cause = .pressStop ↔ k = .pressStop)) := by decide +kernel

theorem witness_AttemptLimitRule : 1 ≤ 4 ∧ 4 ≤ ({ Recipe.reset with retryLimit := 3 } : Recipe).retryLimit + 1 ∧
    resetSettings.forceLimit ≤ Recipe.reset.initialForce ∧ resetSettings.forceLimit = 0 ∧ Recipe.reset.forceStep = 0 := by decide +kernel

/-- Every sub-state; the attempt's own echo and another; the retract at its threshold and beyond it; and each judgement at its edge. -/
theorem witness_JudgedSampleEndsAttempt :
    base.ctx? 5 = none ∧
    (∀ x ∈ [SubState.none, .waitOpen, .dwelling, .extending, .retracting],
      let c : Context := { ctx with eject := { ctx.eject with sub := x, limit := 65535 } };
      let s := withCtx .ejecting c;
      s.ctx? 5 = some c ∧ c.eject.sub = x ∧ EjectCmd.extend 65535 = .extend c.eject.limit ∧ EjectCmd.retract ≠ .extend c.eject.limit ∧
      (s.station 5).settings.retractThreshold < 1 ∧ ¬(s.station 5).settings.retractThreshold < 0) ∧
    (let r : Recipe := { Recipe.reset with ejectStroke := 10, releaseThreshold := 5 };
      (¬(5 : Nat) < 5 ∧ r.ejectStroke ≤ 10 ∧ 5 ≤ r.releaseThreshold ∧ ¬6 ≤ r.releaseThreshold ∧ ¬r.ejectStroke ≤ 9)) := by decide +kernel

/-- A retract that completes, released, with an attempt left, and with none left; and a released station that calls again, ahead of it no
other, or is READY. -/
theorem witness_CompleteRetract :
    ∀ o ∈ [AttemptOutcome.released, .timeout], ∀ n ∈ [3, 4],
      let c : Context :=
        { ctx with snapshot := { Recipe.reset with retryLimit := 3 },
                   eject := { ctx.eject with sub := .retracting, outcome := o, number := n } };
      let s := (withCtx .ejecting c).modWeigher fun w => { w with state := .clearing };
      (s.station 5).state = .ejecting ∧ s.ctx? 5 = some c ∧ c.eject.sub = .retracting ∧ 0 ≤ (s.station 5).settings.retractThreshold ∧
      s.weigher.state ≠ .idle ∧ s.arbiter.queue = [] ∧ (s.station 5).runEnable = false ∧
      ((s.modStation 5 fun y => { y with runEnable := true, pressAuto := true }).station 5).runEnable = true ∧
      ((s.modStation 5 fun y => { y with runEnable := true, pressAuto := true }).station 5).pressAuto = true ∧
      c.eject.outcome = o ∧ (c.eject.number < c.snapshot.retryLimit + 1 ↔ n = 3) ∧
      c.snapshot.settleDwell = 0 ∧ { c.snapshot with settleDwell := 60000 }.settleDwell ≠ 0 := by decide +kernel

theorem witness_CureAccrual :
    let c : Context := { ctx with cure := { ctx.cure with target := some 1000, start := some 0, acc := 256000 } };
    let s := withCtx .curing c;
    s.ctx? 5 = some c ∧ c.cure.target = some 1000 ∧ c.cure.start = some 0 ∧ (s.station 5).state = .curing ∧
    1000 * 256 ≤ (c.cure.accrue s.rates c.snapshot 0 none).acc ∧ c.snapshot.wallMin ≤ (s.now - 0).toNat ∧
    (Cure.begin.accrue s.rates c.snapshot 0 none).acc < 1000 * 256 ∧ (0 : Nat) < ({ Recipe.reset with baseTemp := 4000 } : Recipe).baseTemp ∧
    Recipe.reset.baseTemp ≤ 0 := by decide +kernel

/-- A group at step 0 whose profile gives step 1 from the progress of 256 on, the last one there is. -/
theorem witness_CureAccrual_steps :
    let p : Profile := { resetProfile with steps := [⟨0, 0, 0, 0⟩, ⟨1, 0, 255, 0⟩] };
    ({ Group.reset with profile := some 15 } : Group).profile = some 15 ∧ p.steps[1]? = some ⟨1, 0, 255, 0⟩ ∧
    ((⟨1, 0, 255, 0⟩ : CureStep).threshold ≤ 256) ∧ p.steps[2]? = none := by decide +kernel

/-- A full ring under OVERWRITE: a drop of one record, which the cursor stands on, and of none; and both edges of the two notices. -/
theorem witness_StoreAppendRule :
    (let s := base.modStore fun x => { x with ring := [List.replicate 16 3, List.replicate 16 3], next := 2, held := 16384 };
      s.store.settings.policy = .overwrite ∧ s.store.ring.length < 4294967296 ∧
      (16384 - (s.store.held - ((s.store.ring.take 0).map List.length).sum) < 16) ∧
      16 ≤ 16384 - (s.store.held - ((s.store.ring.take 1).map List.length).sum) ∧ (s.store.cursor - s.store.oldest).toNat < 1) ∧
    (oneRecord.store.settings.policy = .overwrite ∧ 168 ≤ 16384 - (oneRecord.store.held - ((oneRecord.store.ring.take 0).map List.length).sum)) ∧
    (oneRecord.store.settings.backlog ≤ (oneRecord.store.next - oneRecord.store.cursor).toNat ∧ oneRecord.store.backlogArmed = true ∧
      (base.store.next - base.store.cursor).toNat < base.store.settings.backlog) ∧
    (let s := oneRecord.modStore fun x => { x with settings := { x.settings with lowWater := 16369 } };
      s.store.room < s.store.settings.lowWater ∧ s.store.storeLowArmed = true ∧ base.store.settings.lowWater ≤ base.store.room) := by
  decide +kernel

theorem witness_AcceptFixesTarget :
    let s := (withCtx .charging ctx).modWeigher fun w => { w with granted := some 5 };
    s.weigher.granted = some 5 ∧ s.ctx? 5 = some ctx ∧ (s.station 5).state = .charging := by decide +kernel

/-- Every row of R109, at its boundary, for M = 100 with tolerances 0 and 1 to 1 pieces. -/
theorem witness_ChargeDecisionRule :
    decideCharge Recipe.reset 101 1 = .over ∧ decideCharge Recipe.reset 100 1 = .accept ∧ decideCharge Recipe.reset 99 1 = .under ∧
    decideCharge { Recipe.reset with minPieces := 8, pieceLimit := 8 } 100 7 = .wait ∧
    decideCharge { Recipe.reset with pieceLimit := 8 } 99 7 = .wait := by decide +kernel

def weighed : WeighSample := { counter := 65535, raw := 8388607, status := .ok, gate := .neutral }

/-- A weigher of a charging station in a state of the weigh, a net of 100 on the tray. -/
def weighing (x : WeigherState) (f : Weigher → Weigher) : State :=
  (withCtx .charging ctx).modWeigher fun w =>
    f { w with state := x, granted := some 5, window := List.replicate 8 100, settings := { w.settings with span := 65536 } }

theorem witness_WeighSampleIsFed :
    (base.modWeigher fun w => { w with lastCounter := some 65535 }).weigher.lastCounter = some weighed.counter ∧
    base.weigher.lastCounter ≠ some weighed.counter ∧ base.weigher.state = .idle ∧
    gross base.weigher.settings weighed = 127 ∧ gross base.weigher.settings weighed ≤ base.weigher.settings.capacity ∧
    (fed (sampled base.weigher weighed 0) 99).presence = .absent ∧ (fed (sampled base.weigher weighed 0) 300).presence = .present ∧
    ({ base.weigher.settings with capacity := 126 } : WeigherSettings).capacity < gross base.weigher.settings weighed ∧
    (∀ x ∈ [WeigherState.clearing, .fault], (base.modWeigher fun w => { w with state := x }).weigher.state = x) ∧
    ((base.modPort fun p => { p with buffer := .taring 5 7 }).port.buffer = .taring 5 7) ∧
    (∀ x ∈ [WeigherState.armed, .settling, .stable], let s := weighing x id
      s.weigher.state = x ∧ s.weigher.granted = some 5 ∧ s.ctx? 5 = some ctx ∧ (s.station 5).state = .charging ∧
      s.weigher.lastCounter ≠ some weighed.counter) := by decide +kernel

/-- The net of 100 against the total: within the threshold and one beyond it; and the ends of a settle, each at its boundary. -/
theorem witness_WeighSampleByState :
    let m : WeighSample := { counter := 65535, raw := 100, status := .ok, gate := .neutral };
    (∀ v ∈ [(50 : Int), 49, 150, 151], let s := weighing .stable fun w => { w with vPrev := v };
      s.weigher.lastCounter ≠ some m.counter ∧ gross s.weigher.settings m = 100 ∧ (100 : Int) ≤ s.weigher.settings.capacity ∧
      s.weigher.granted = some 5 ∧ s.ctx? 5 = some ctx ∧ (s.station 5).state = .charging ∧
      (s.weigher.settings.pieceThreshold < 100 - s.weigher.vPrev ∨ s.weigher.settings.pieceThreshold < s.weigher.vPrev - 100 ↔
        v = 49 ∨ v = 151)) ∧
    (∀ v ∈ [(-400 : Int), -399, 149, 150], let s := weighing .settling fun w => { w with vPrev := v };
      StableAt (fed (sampled s.weigher m 0) 100) 100 ∧ (s.weigher.settings.minPiece ≤ 100 - v ↔ v = -400) ∧
      (100 - v ≤ -s.weigher.settings.pieceThreshold ↔ v = 150)) ∧
    (∀ a, ¬StableAt (fed (weighing .settling fun w => { w with window := [] }).weigher 100) a) ∧
    (decideCharge Recipe.reset 101 1 = .over ∧ decideCharge Recipe.reset 100 1 = .accept ∧ decideCharge Recipe.reset 99 1 = .under ∧
      decideCharge { Recipe.reset with pieceLimit := 8 } 99 1 = .wait) ∧
    (∀ n ∈ [0, 8, 9], let s := base.modWeigher fun w => { w with state := .clearing, absentRun := n }
      s.weigher.state = .clearing ∧ (s.weigher.settings.runOn ≤ min 255 (s.weigher.absentRun + 1) ↔ n = 9)) := by
  refine ⟨by decide +kernel, by unfold StableAt; decide +kernel, fun a h => absurd h.1 (by decide +kernel), by decide +kernel,
    by decide +kernel⟩

/-- A head whose bound recipe is present and one whose is not, and each condition of the arbiter's test failing alone. -/
theorem witness_GrantCreatesContext :
    let s : State := { caller.modStation 5 fun y => { y with state := .calling } with
      mode := .run, weigher := Weigher.reset, arbiter := { queue := [5, 4], granted := none } }
    let held (n : Nat) : State := s.modStore fun x => { x with settings := { x.settings with policy := .hold }, held := n }
    (s.arbiter.queue = 5 :: [4] ∧ s.weigher.state = .idle ∧ s.mode = .run ∧ s.store.settings.policy = .overwrite ∧
      (s.recipes[(s.station 5).boundRecipe]).present = true ∧ (s.station 5).state = .calling ∧ 168 ≤ (held 16216).store.room) ∧
    (({ s with recipes := base.recipes } : State).recipes[(s.station 5).boundRecipe].present = false ∧ (5 : Fin 6) ∉ [4]) ∧
    base.arbiter.queue = [] ∧ caller.weigher.state ≠ .idle ∧ base.mode ≠ .run ∧
    (held 16217).store.settings.policy = .hold ∧ (held 16217).store.room < 168 := by decide +kernel

/-! ### Hypotheses that are met: timers, each due at its last millisecond -/

/-- A charge on the weigher whose WEIGHER entry falls silent. -/
theorem witness_SilenceExpiryMakesSilent_weigh :
    let s := later 50 ((routed (entry 4 254 255) (weighing .stable id)).modPort fun p => { p with silence := p.silence.set 31 (.running 0) });
    s.port.silence[(31 : Fin 32)] = .running 0 ∧ (s.port.routes[(31 : Fin 32)]).silence ≤ (s.now - 0).toNat ∧
    (s.port.routes[(31 : Fin 32)]).role = 4 ∧ s.port.mask[(6 : Fin 11)] = true ∧ s.weigher.state = .stable ∧ s.weigher.granted = some 5 ∧
    s.ctx? 5 = some ctx ∧ (s.station 5).state = .charging := by decide +kernel

theorem witness_SilenceExpiryMakesSilent :
    (∀ role ∈ [0, 2, 3, 4], let s := later 50 ((routed (entry role 254 (if role = 4 then 255 else 5)) base).modPort fun p =>
        { p with silence := p.silence.set 31 (.running 0) })
      s.port.silence[31] = .running 0 ∧ (s.port.routes[31]).silence ≤ (s.now - 0).toNat ∧ (s.port.routes[31]).role = role ∧
      (role ≠ 4 → (s.port.routes[31]).station = 5) ∧ s.port.mask[(6 : Fin 11)] = true) ∧
    complete.nodeOf .heater 5 = some 29 ∧ ((withCtx .ejecting ctx).station 5).state = .ejecting ∧
    (withCtx .ejecting ctx).ctx? 5 = some ctx := by decide +kernel

def timed : Timer := .running 0 1000

set_option synthInstance.maxSize 4000 in
theorem witness_StationTimersExpire_hold :
    (let s := later 1000 (stn fun y => { y with state := .hold, holdTimer := timed, cause := .pressStop, pressStop := true });
      (s.station 5).state = .hold ∧ (s.station 5).holdTimer = .running 0 1000 ∧ 1000 ≤ (s.now - 0).toNat ∧ CausePersists s 5) ∧
    (let s := later 1000 (stn fun y => { y with state := .hold, holdTimer := timed });
      ¬CausePersists s 5 ∧ (s.station 5).ctx = none) ∧
    (let c := { ctx with mouldOccupied := true };
      let s := later 1000 (stn fun y => { y with state := .hold, holdTimer := timed, ctx := some c });
      ¬CausePersists s 5 ∧ s.ctx? 5 = some c ∧ c.mouldOccupied = true) := by
  unfold CausePersists SilentEntry EntryIs RouteNames; decide +kernel

theorem witness_StationTimersExpire_cycle :
    (let c := { ctx with loadTimer := timed };
      let s := later 1000 (withCtx .loading c);
      s.ctx? 5 = some c ∧ 1000 ≤ (s.now - 0).toNat ∧ (s.station 5).state = .loading ∧ c.loadTimer = .running 0 1000 ∧
      (s.station 5).holdCount < 2) ∧
    2 ≤ ((stn fun y => { y with holdCount := 2 }).station 5).holdCount ∧
    (let c := { ctx with eject := { ctx.eject with openTimer := timed } };
      let s := later 1000 (withCtx .opening c);
      s.ctx? 5 = some c ∧ (s.station 5).state = .opening ∧ c.eject.openTimer = .running 0 1000) := by decide +kernel

theorem witness_WallTimersEndCure :
    let c := { ctx with cure := { ctx.cure with wallMin := timed, wallMax := timed, target := some 1000, acc := 255999 } };
    let s := later 1000 (withCtx .curing c);
    (s.station 5).state = .curing ∧ s.ctx? 5 = some c ∧ 1000 ≤ (s.now - 0).toNat ∧ c.cure.wallMin = .running 0 1000 ∧
    c.cure.targetMet = false ∧ { c.cure with targetMet := true }.targetMet = true ∧ c.cure.target = some 1000 ∧
    c.cure.wallMax = .running 0 1000 ∧ c.cure.acc < 1000 * 256 ∧ 1000 * 256 ≤ { c.cure with acc := 256000 }.acc := by decide +kernel

theorem witness_AttemptTimerExpires :
    ∀ x ∈ [SubState.extending, .retracting, .dwelling],
      let c := { ctx with eject := { ctx.eject with sub := x, attemptTimer := timed } };
      let s := later 1000 (withCtx .ejecting c);
      (s.station 5).state = .ejecting ∧ s.ctx? 5 = some c ∧ c.eject.attemptTimer = .running 0 1000 ∧ 1000 ≤ (s.now - 0).toNat ∧
      c.eject.sub = x := by decide +kernel

theorem witness_WeigherTimersExpire :
    (∀ x ∈ [WeigherState.settling, .armed, .stable],
      let s := later 1000 ((withCtx .charging ctx).modWeigher fun w =>
        { w with state := x, granted := some 5, pieceWait := timed, settle := timed });
      s.weigher.pieceWait = .running 0 1000 ∧ s.weigher.settle = .running 0 1000 ∧ 1000 ≤ (s.now - 0).toNat ∧ s.weigher.granted = some 5 ∧
      s.ctx? 5 = some ctx ∧ (s.station 5).state = .charging ∧ s.weigher.state = x) ∧
    (let s := later 1000 ((base.modWeigher fun w => { w with state := .taring, settle := timed }).modPort fun p =>
        { p with buffer := .taring 5 7 });
      s.weigher.settle = .running 0 1000 ∧ s.weigher.state = .taring ∧ s.port.buffer = .taring 5 7 ∧ s.arbiter.queue = []) ∧
    (let s := later 1000 (base.modWeigher fun w => { w with state := .clearing, clear := timed });
      s.weigher.clear = .running 0 1000 ∧ s.weigher.state = .clearing) := by decide +kernel

theorem not_due_stopped (now : Time) : ¬Due .stopped now := fun ⟨_, _, h, _⟩ => nomatch h

/-- A part right after reset: no step of its own is due. -/
theorem witness_CommandsBeforeTheirTime :
    (¬DueStep base (.silenceExpiry 31) ∧ ¬DueStep base (.holdExpiry 5) ∧ ¬DueStep base (.loadTimeout 5) ∧
      ¬DueStep base (.wallMinimumExpiry 5) ∧ ¬DueStep base (.wallMaximumExpiry 5) ∧ ¬DueStep base (.openTimeout 5) ∧
      ¬DueStep base (.attemptTimerExpiry 5)) ∧
    (¬DueStep base .pieceWaitExpiry ∧ ¬DueStep base .settleTimerExpiry ∧ ¬DueStep base .clearTimerExpiry) ∧
    (base.modPort fun p => { p with report := List.replicate 4 { dest := 0, kind := 0, seq := none, payload := [] } }).port.report.length = 4 := by
  have offline : (base.station 5).state = .offline := by decide +kernel
  have still : base.port.silence[(31 : Fin 32)] = .stopped := by decide +kernel
  refine ⟨⟨fun ⟨_, g, _⟩ => (nomatch still.symm.trans g), ?_⟩, ⟨not_due_stopped _, not_due_stopped _, not_due_stopped _⟩, rfl⟩
  simp [DueStep, offline]

/-- Right after reset no claimant waits, so none is admitted. -/
theorem witness_CommandsBeforeTheirTime_admits :
    ¬DueStep base .noticeEmit ∧ ¬DueStep base .segmentPlace ∧ ¬DueStep base .answerPartPlace := by
  refine ⟨fun g => ?_, fun g => ?_, fun g => ?_⟩
  · obtain ⟨_, ⟨i, hi⟩, _⟩ := g
    exact hi ((by decide +kernel : ∀ i : Fin 77, base.port.notices[i] = none) i)
  · obtain ⟨_, ⟨x, hx, _⟩, _⟩ := g
    exact nomatch hx
  · obtain ⟨_, ⟨f, r, q, hx⟩, _⟩ := g
    exact nomatch hx

/-! ### Hypotheses that are met: the line port -/

def out (q : Option Byte) : OutFrame := { dest := 254, kind := 10, seq := q, payload := [] }

theorem slate_empty : ¬∃ i : Fin 19, base.port.slate[i] ≠ none := by decide +kernel

theorem witness_BeginSendChoice_none :
    (let s := base.modPort fun p => { p with sending := some ((sample 9 5 []).frame 9) };
      s.port.sending = some ((sample 9 5 []).frame 9)) ∧ ∀ c, ¬RingHolds base.port c := by
  refine ⟨by decide +kernel, ?_⟩
  rintro (_ | _ | _)
  · exact fun h => h rfl
  · exact slate_empty
  · exact fun h => h rfl

/-- The forward buffer at 3 frames, whatever was served last. -/
theorem witness_BeginSendChoice_forward :
    let s := base.modPort fun p => { p with forward := List.replicate 3 ((sample 9 5 []).frame 9), lastRing := .forward };
    s.port.sending = none ∧ RingTurn s.port .forward ∧
    s.port.forward = (sample 9 5 []).frame 9 :: List.replicate 2 ((sample 9 5 []).frame 9) :=
  ⟨rfl, ⟨by simp [RingHolds, State.modPort], fun _ => rfl, fun h => absurd h (by decide +kernel)⟩, rfl⟩

/-- The slate's turn after FORWARD, its last slot the nearest, with two frames in the forward buffer. -/
theorem witness_BeginSendChoice_slate :
    let s := base.modPort fun p =>
      { p with slate := p.slate.set 18 (some (out none)), lastRing := .forward, forward := List.replicate 2 ((sample 9 5 []).frame 9) };
    s.port.sending = none ∧ RingTurn s.port .slate ∧ s.port.slate[(18 : Fin 19)] = some (out none) ∧
    (∀ j : Fin 19, j - s.port.lastSlot - 1 < 18 - s.port.lastSlot - 1 → s.port.slate[j] = none) := by
  refine ⟨rfl, ⟨⟨18, by decide +kernel⟩, fun h => absurd h (by decide +kernel), fun _ => ⟨nofun, nofun⟩⟩, by decide +kernel,
    by decide +kernel⟩

/-- The report queue's turn after FORWARD when the slate is empty, of a frame without a sequence number and of an answer. -/
theorem witness_BeginSendChoice_report :
    ∀ q : Option Byte, let s := base.modPort fun p => { p with report := [out q], lastRing := .forward };
    s.port.sending = none ∧ RingTurn s.port .report ∧ s.port.report = [out q] := by
  intro q
  refine ⟨rfl, ⟨List.cons_ne_nil _ _, fun h => absurd h (by simp [State.modPort, base, State.reset, State.powerOn, Port.reset]), fun _ => ⟨fun _ => ?_, nofun⟩⟩, rfl⟩
  show ¬∃ i : Fin 19, base.port.slate[i] ≠ none
  exact slate_empty

/-- The answer of a RESTART on its way out. -/
def restarting : State := base.modPort fun p =>
  { p with
    buffer := .restarting,
    sending := some { dest := 5, src := 12, kind := 10, hops := 32, seq := 7, length := 4, payload := [3, 0, 0, 1], check := 0 } }

/-- A RESTART without a cycle, and one with a cycle, at a part that wants CLOSE, EXTEND and DIVERT. -/
theorem witness_RestartAndTransmissionEnd :
    restarting.restartDue = true ∧ base.restartDue = false ∧ (∀ st : Fin 6, (restarting.station st).ctx = none) ∧
    (let s := restarting.modStation 5 fun y => { y with state := .curing, ctx := some ctx };
      s.restartDue = true ∧ (s.station 5).ctx ≠ none ∧ (s.station 5).state.permission ≠ .none ∧ (restartMarkRecord s 0 [(5, .curing, 1)]).length ≤ 16384 - s.store.held) ∧
    (let s := (routed (entry 3 254 5) restarting).modStation 5 fun y => { y with demould := { y.demould with wanted := .extend 65535 } };
      s.restartDue = true ∧ (s.station 5).demould.wanted ≠ .retract ∧ s.nodeOf .ejector 5 = some 254) ∧
    (let s := (routed (entry 4 254 255) restarting).modWeigher fun w => { w with wantedGate := .divert };
      s.restartDue = true ∧ s.weigher.wantedGate ≠ .neutral ∧ s.nodeOf .weigher 255 = some 254) := by decide +kernel

theorem witness_NoticeRules_first :
    let s := base.raise .stationState (some 0) [];
    s.admitted = some .emitter ∧ s.port.notices[0] = some { count := 1, time := 0, values := [] } ∧
    (∀ j : Fin 77, j < 0 → s.port.notices[j] = none) := by decide +kernel

theorem witness_NoticeRules_last :
    let s := base.raise .cursorOverrun none [];
    s.admitted = some .emitter ∧ s.port.notices[76] = some { count := 1, time := 0, values := [] } ∧
    (∀ j : Fin 77, j < 76 → s.port.notices[j] = none) := by decide +kernel

/-- A send whose next segment is whole, one whose next segment is the last, one that was cut. -/
theorem witness_HistorySends_segment :
    ∀ n ∈ [112, 111], ∀ cut ∈ [true, false], ∀ o ∈ [SendOrigin.read, .auto],
      let x : Sending := { seq := 0, origin := o, dest := 5, index := 0, answered := true, cut := cut };
      let s := base.modStore fun y => { y with ring := [List.replicate n 1], next := 1, held := n, sender := some x };
      s.admitted = some .sender ∧ s.store.sender = some x ∧ x.cut = cut ∧ x.origin = o ∧
      ((((s.store.record? x.seq).getD []).drop (112 * x.index)).take 112).length = n := by decide +kernel

theorem witness_HistorySends_auto :
    (let s := base.modStore fun x => { x with cursor := 1 };
      s.store.sender = none ∧ s.store.autoPos ≠ s.store.cursor) ∧ base.store.autoPos = base.store.cursor := by decide +kernel

theorem witness_AnswerParts :
    let s := base.modPort fun p => { p with buffer := .answering [out (some 7)] true, sending := some ((sample 9 5 []).frame 9) };
    s.admitted = some .handler ∧ s.port.buffer = .answering (out (some 7) :: []) true ∧
    s.port.sending = some ((sample 9 5 []).frame 9) := by decide +kernel

theorem witness_NoticeRules_raise :
    base.port.mask[NoticeKind.cursorOverrun.index] = true ∧
    (base.modPort fun p => { p with mask := Vector.replicate 11 false }).port.mask[NoticeKind.cursorOverrun.index] = false ∧
    base.port.notices[noticeSlot .cursorOverrun none] = none ∧
    (base.raise .cursorOverrun none []).port.notices[noticeSlot .cursorOverrun none] = some { count := 1, time := 0, values := [] } := by
  decide +kernel

end Sys2Proof.Test
end

section
/-! PROOFS. Demand and dither (R57, R58): the limit as a maximum and a minimum, the demand as the limited sum of floored terms, the reversed
phases and the eight rounds of a standing demand, and what a zone is sent. -/

namespace Sys2Proof.Machine

/-! ### The demand (R57) -/

theorem limit_eq_max_min {lo hi : Int} (h : lo ≤ hi) (x : Int) : limit lo hi x = max lo (min hi x) := by
  unfold limit
  split
  next hlo => omega
  next hlo =>
    split
    next hhi => omega
    next hhi => omega

/-- The model divides by `/`, which rounds as `Int.fdiv` does: the divisors 16 and 256 are positive. -/
theorem coe_demandOf (ff kp ki : Nat) (e i : Int) :
    (demandOf ff kp ki e i : Int) = max 0 (min 2047 ((ff : Int) + ((kp : Int) * e).fdiv 16 + ((ki : Int) * i).fdiv 256)) := by
  rw [demandOf, limit_eq_max_min (by decide), Int.toNat_of_nonneg (le_max_left _ _), Int.fdiv_eq_ediv_of_nonneg _ (by decide),
    Int.fdiv_eq_ediv_of_nonneg _ (by decide)]

theorem demandOf_le (ff kp ki : Nat) (e i : Int) : demandOf ff kp ki e i ≤ 2047 := by
  have h := coe_demandOf ff kp ki e i
  omega

/-- What a full round forms of a driven zone (R54 to R57, R60). -/
theorem Zone.regulate_of_driven {z : Zone} {t : Nat} (g : Group) (lim : Bool) (hp : z.entry.present = true) (hf : z.fault = .none)
    (hk : z.kind = some .driven) (ht : z.tavg = some t) :
    z.regulate g lim =
      let e : Int := (zoneSetpoint g.sg z.entry.trim : Int) - t
      let i := nextIntegral z lim e
      let d := demandOf g.ff z.entry.kp z.entry.ki e i
      { z with sz := zoneSetpoint g.sg z.entry.trim, err := e, integral := i, demand := d, prevDemand := prevDemandOf d } := by
  simp [Zone.regulate, hp, hf, hk, ht]

theorem Zone.demand_regulate_of_driven {z : Zone} {t : Nat} (g : Group) (lim : Bool) (hp : z.entry.present = true)
    (hf : z.fault = .none) (hk : z.kind = some .driven) (ht : z.tavg = some t) :
    (z.regulate g lim).demand = demandOf g.ff z.entry.kp z.entry.ki (z.regulate g lim).err (z.regulate g lim).integral := by
  rw [Zone.regulate_of_driven g lim hp hf hk ht]

/-! ### The dither (R58) -/

/-- In eight rounds the reversed phase takes each value 0 to 7 once, so `f` of them lie below `f`. -/
theorem sum_bitrev_lt : ∀ f < 8, ((List.range 8).map fun p => if bitrev p < f then 1 else 0).sum = f := by decide

theorem dither_le {d : Nat} (hd : d ≤ 2047) (p : Nat) : dither d p ≤ 255 := by
  unfold dither
  split
  next h => omega
  next h => omega

/-- Up to a demand of 2040 the ceiling of 255 keeps no extra unit back. -/
theorem dither_of_le {d : Nat} (hd : d ≤ 2040) (p : Nat) : dither d p = d / 8 + if bitrev p < d % 8 then 1 else 0 := by
  unfold dither
  by_cases hb : bitrev p < d % 8
  · have hn : d / 8 < 255 := by omega
    simp [hb, hn]
  · simp [hb]

theorem dither_of_ge {d : Nat} (hlo : 2040 ≤ d) (hhi : d ≤ 2047) (p : Nat) : dither d p = 255 := by
  have hn : d / 8 = 255 := by omega
  simp [dither, hn]

/-- A standing demand is met exactly by the eight rounds of a turn of the phase. -/
theorem sum_dither {d : Nat} (hd : d ≤ 2040) : ((List.range 8).map (dither d)).sum = d :=
  calc ((List.range 8).map (dither d)).sum
      = ((List.range 8).map fun p => d / 8 + if bitrev p < d % 8 then 1 else 0).sum := by
        rw [funext (dither_of_le hd)]
    _ = 8 * (d / 8) + ((List.range 8).map fun p => if bitrev p < d % 8 then 1 else 0).sum := by
        rw [List.sum_map_add, List.map_const', List.sum_replicate, List.length_range, smul_eq_mul]
    _ = 8 * (d / 8) + d % 8 := by rw [sum_bitrev_lt _ (Nat.mod_lt d (by decide))]
    _ = d := Nat.div_add_mod d 8

/-! ### What a zone is sent (R58, R59) -/

theorem Zone.nOut_of_driven {z : Zone} (p : Nat) (hp : z.entry.present = true) (hf : z.fault = .none) (hk : z.kind = some .driven) :
    z.nOut p = dither z.demand p :=
  if_pos ⟨hp, hf, hk⟩

theorem Zone.nOut_of_not_driven {z : Zone} (p : Nat) (h : z.entry.present = false ∨ z.fault ≠ .none ∨ z.kind ≠ some .driven) :
    z.nOut p = 0 := by
  refine if_neg ?_
  rintro ⟨hp, hf, hk⟩
  rcases h with habsent | hfault | hkind
  · exact Bool.false_ne_true (habsent.symm.trans hp)
  · exact hfault hf
  · exact hkind hk

@[simp] theorem budgeted_zero (budget sigma : Nat) : budgeted 0 budget sigma = 0 := by simp [budgeted]

@[simp] theorem Station.dutySent_applyBudget (x : Station) (p sigma : Nat) (i : Fin 16) :
    ((x.applyBudget p sigma).zones[i]).dutySent = budgeted ((x.zones[i]).nOut p) x.settings.budget sigma := by
  simp [Station.applyBudget]

/-- Settles O19: the demand is the limited sum of its floored terms, the dither of a standing demand adds up to it over eight phases, and
a zone with no n_out is sent 0. -/
theorem demandAndDither : Obligations.DemandAndDither := by
  refine ⟨fun ff kp ki e i => ?_, demandOf_le, fun z g lim t => Zone.demand_regulate_of_driven g lim, rfl,
    fun d p hd _ => ⟨rfl, dither_le hd p⟩, fun d => sum_dither, fun d p hlo hhi _ => dither_of_ge hlo hhi p,
    fun z p => Zone.nOut_of_not_driven p, fun z p => Zone.nOut_of_driven p, fun x p sigma i => ⟨x.dutySent_applyBudget p sigma i, ?_⟩⟩
  · have hd := coe_demandOf ff kp ki e i
    exact ⟨fun hneg => by omega, fun hlo hhi => by omega, fun hbig => by omega⟩
  · intro hn
    rw [Station.dutySent_applyBudget, hn, budgeted_zero]

end Sys2Proof.Machine
end

section
/-! PROOFS. Windows (R68, R69): the two conditions on a zone's temperature, the states that stand or return to IN between them, and when a
zone's window is judged and when it is held. -/

namespace Sys2Proof.Machine

/-! ### The table by state and condition (R68) -/

theorem window_conditions_exclusive (t sz low high : Nat) : ¬(sz + high + 10 ≤ t ∧ t + low + 10 ≤ sz) := by omega

theorem nextWindow_of_above {t sz low high : Nat} (h : sz + high + 10 ≤ t) (w : WindowState) : nextWindow w t sz low high = .high :=
  if_pos h

/-- The model tests the upper condition first, which the lower one excludes. -/
theorem nextWindow_of_below {t sz low high : Nat} (h : t + low + 10 ≤ sz) (w : WindowState) : nextWindow w t sz low high = .low := by
  have habove : ¬sz + high + 10 ≤ t := fun ha => window_conditions_exclusive t sz low high ⟨ha, h⟩
  unfold nextWindow
  rw [if_neg habove, if_pos h]

section Between
variable {t sz low high : Nat} (habove : ¬sz + high + 10 ≤ t) (hbelow : ¬t + low + 10 ≤ sz)
include habove hbelow

theorem nextWindow_within_of_between : nextWindow .within t sz low high = .within := by
  unfold nextWindow
  rw [if_neg habove, if_neg hbelow]

/-- The manual subtracts the hysteresis from the edge; the model, on naturals, adds it to the temperature. -/
theorem nextWindow_high_of_between :
    nextWindow .high t sz low high = if (t : Int) ≤ sz + high - 10 then .within else .high := by
  have hedge : (t : Int) ≤ sz + high - 10 ↔ t + 10 ≤ sz + high := by omega
  simp only [nextWindow, if_neg habove, if_neg hbelow, hedge]

theorem nextWindow_low_of_between :
    nextWindow .low t sz low high = if (sz : Int) - low + 10 ≤ t then .within else .low := by
  have hedge : (sz : Int) - low + 10 ≤ t ↔ sz + 10 ≤ t + low := by omega
  simp only [nextWindow, if_neg habove, if_neg hbelow, hedge]

end Between

/-! ### Judging a zone's window (R68, R69) -/

theorem Zone.inService_of_not_faulted {z : Zone} (hp : z.entry.present = true) (hf : z.fault = .none) : z.inService = true := by
  simp [Zone.inService, hp, hf]

theorem Zone.reading_of_driven {z : Zone} (hk : z.kind = some .driven) : z.reading = z.tavg :=
  if_pos hk

/-- A ramping round of its group holds a zone's window. -/
@[simp] theorem Zone.judgeWindow_ramping (z : Zone) : z.judgeWindow true = z := by
  simp [Zone.judgeWindow]

theorem Zone.judgeWindow_settled {z : Zone} {t : Nat} (hs : z.inService = true) (hr : z.reading = some t) :
    z.judgeWindow false = { z with window := nextWindow z.window t z.sz z.entry.bandLow z.entry.bandHigh } := by
  simp [Zone.judgeWindow, hs, hr]

/-- Settles O21: the table by state and condition, and the judged window of a driven zone in a settled and in a ramping round. -/
theorem windowRule : Obligations.WindowRule := by
  intro t sz low high
  refine ⟨window_conditions_exclusive t sz low high, nextWindow_of_above, nextWindow_of_below, fun habove hbelow => ?between, ?settled,
    fun z => congrArg Zone.window z.judgeWindow_ramping⟩
  case between =>
    exact ⟨nextWindow_within_of_between habove hbelow, nextWindow_high_of_between habove hbelow,
      nextWindow_low_of_between habove hbelow⟩
  case settled =>
    rintro z hp hf hk ht rfl rfl rfl
    have hr : z.reading = some t := (Zone.reading_of_driven hk).trans ht
    rw [Zone.judgeWindow_settled (Zone.inService_of_not_faulted hp hf) hr]

end Sys2Proof.Machine
end

section
/-! PROOFS. The force limit of an eject attempt (R138): the unbounded sum under the station's absolute limit, what a force step or an
absolute limit of 0 makes of it, and how a sample over it is judged (R140). -/

namespace Sys2Proof.Machine

theorem attemptLimit_le (x : StationSettings) (r : Recipe) (j : Nat) : attemptLimit x r j ≤ x.forceLimit :=
  min_le_left _ _

/-- Attempt 1 has the initial force limit, capped as every later attempt's. -/
theorem attemptLimit_one (x : StationSettings) (r : Recipe) : attemptLimit x r 1 = min x.forceLimit r.initialForce := by
  simp [attemptLimit]

theorem attemptLimit_of_forceStep_zero (x : StationSettings) {r : Recipe} (h : r.forceStep = 0) (j : Nat) :
    attemptLimit x r j = min x.forceLimit r.initialForce := by
  simp [attemptLimit, h]

/-- The steps only add to the initial force limit, so from there on the absolute limit stands. -/
theorem attemptLimit_of_forceLimit_le {x : StationSettings} {r : Recipe} (h : x.forceLimit ≤ r.initialForce) (j : Nat) :
    attemptLimit x r j = x.forceLimit :=
  min_eq_left (h.trans (Nat.le_add_right _ _))

theorem attemptLimit_of_forceLimit_zero {x : StationSettings} (r : Recipe) (h : x.forceLimit = 0) (j : Nat) :
    attemptLimit x r j = 0 :=
  Nat.eq_zero_of_le_zero (h ▸ attemptLimit_le x r j)

/-- The first row of R140 stands before the stroke is looked at. -/
theorem judge_of_lt {limit force : Nat} (r : Recipe) (position : Nat) (h : limit < force) : judge r limit position force = .overforce :=
  if_pos h

/-- Settles O28: the capped sum and its bound, the cases of a force step of 0, of an initial limit over the absolute one and of an absolute
limit of 0, under which the first row of R140 takes every sample with a force. -/
theorem attemptLimitRule : Obligations.AttemptLimitRule := by
  intro x r j _ _
  refine ⟨rfl, attemptLimit_le x r j, fun hstep => ?same, fun hcap => attemptLimit_of_forceLimit_le hcap j,
    fun hzero => attemptLimit_of_forceLimit_zero r hzero j, fun position force hzero hforce => ?judged⟩
  case same => rw [attemptLimit_of_forceStep_zero x hstep, attemptLimit_one]
  case judged =>
    have hlimit : attemptLimit x r j = 0 := attemptLimit_of_forceLimit_zero r hzero j
    exact judge_of_lt r position (hlimit ▸ hforce)

end Sys2Proof.Machine
end

section
/-! PROOFS. The work of a command: every command does its work and then gives ring-out its turn, and a management request does the work of
its header and its request, so that a statement about every command needs one case for all the requests. -/

namespace Sys2Proof.Machine

open Sys2Proof.Claim

/-- The work of a command before ring-out's turn (log entry 6). -/
def State.work (s : State) (i : Instr) : State :=
  match i with
  | .powerOnReset straps => { State.powerOn straps with pending := s.pending }
  | .ringInFrame f => s.ringIn f
  | .heatSample f => s.ringIn (f.frame kHeatSample)
  | .pressSample f => s.ringIn (f.frame kPressSample)
  | .ejectSample f => s.ringIn (f.frame kEjectSample)
  | .weighSample f => s.ringIn (f.frame kWeighSample)
  | .silenceExpiry e => (s.silenceDue? e).elim s (s.becomeSilent e)
  | .holdExpiry st => if s.holdDue st then s.holdExpired st else s
  | .loadTimeout st => s.onDue (s.loadTimer st) fun t _ => t.takeCause st .loadTimeout
  | .wallMinimumExpiry st => s.onDue (s.wallMinTimer st) fun t at_ => t.withCtx st fun c => t.wallMinExpired st c at_
  | .wallMaximumExpiry st => s.onDue (s.wallMaxTimer st) fun t at_ => t.wallMaxExpired st at_
  | .openTimeout st => s.onDue (s.openTimer st) fun t at_ => t.openExpired st at_
  | .attemptTimerExpiry st => s.onDue (s.attemptTimer st) fun t at_ => t.withCtx st fun c => t.attemptExpired st c at_
  | .pieceWaitExpiry => s.onDue s.weigher.pieceWait fun t at_ => t.pieceWaitExpired at_
  | .settleTimerExpiry => s.onDue s.weigher.settle fun t at_ => t.settleExpired at_
  | .clearTimerExpiry => s.onDue s.weigher.clear fun t at_ => t.clearExpired at_
  | .transmissionEnd => s.endTransmission
  | .restartTakeEffect => if s.restartDue then s.restart else s
  | .noticeEmit => if s.admitted = some .emitter then s.placeNotice else s
  | .segmentPlace => if s.admitted = some .sender then s.placeSegment else s
  | .autoSendStart => if s.store.autoReady then s.startAutoSend else s
  | .answerPartPlace => if s.admitted = some .handler then s.placeAnswer else s
  | i => i.request?.elim s fun x => s.ringRequest x.1 x.2

/-- Every command answers a next state: its work, and then ring-out's turn. -/
theorem exec_eq_work (i : Instr) (s : State) : exec i s = .next (s.work i).beginSend := by
  cases i <;> rfl

/-- A request command is the judgement of its request on ring-in. -/
theorem exec_of_request {i : Instr} {h : ReqHeader} {r : Request} (hi : i.request? = some (h, r)) (s : State) :
    exec i s = .next (s.ringRequest h r).beginSend := by
  cases i <;> first | cases hi; rfl | exact absurd hi (by simp [Instr.request?])

/-- A request command that is served, by its owner's rule. -/
theorem exec_of_served {i : Instr} {h : ReqHeader} {r : Request} (hi : i.request? = some (h, r)) {s : State} (hs : Served s h) :
    exec i s = .next (s.serve h r).beginSend := by
  obtain ⟨hm, ha, hsrc, hh, hb, hmaster⟩ := hs
  rw [exec_of_request hi, s.ringRequest_own h r hm ha hsrc hh, s.takeRequest_served h r hb (s.foreignMaster_eq_false _ hmaster)]

end Sys2Proof.Machine
end

section
/-! PROOFS. The requests and the line: which requests may change what `State.line` gathers, and that the others leave it. -/

namespace Sys2Proof

/-- Serving these requests may change the mode, a table of the line, or the notice mask. -/
def Request.ownsLine : Request → Bool
  | .modeSet _ | .entryWriteRoute _ _ | .entryWriteProfile _ _ | .entryWriteRecipe _ _ | .entryWriteRate _ _ _ | .profilesApply
  | .noticeMask _ => true
  | _ => false

namespace Machine

/-! ### Reads answer the state as it stands -/

@[simp] theorem State.state_readRouteEntry (s : State) (n : Nat) : (s.readRouteEntry n).state = s := by
  unfold State.readRouteEntry; split <;> rfl

@[simp] theorem State.state_readStation (s : State) (n : Nat) : (s.readStation n).state = s := by
  unfold State.readStation; split <;> rfl

@[simp] theorem State.state_readZoneEntry (s : State) (n z : Nat) : (s.readZoneEntry n z).state = s := by
  unfold State.readZoneEntry; split <;> rfl

@[simp] theorem State.state_readProfileCopy (s : State) (n c : Nat) : (s.readProfileCopy n c).state = s := by
  unfold State.readProfileCopy; split <;> rfl

@[simp] theorem State.state_readRecipeEntry (s : State) (n : Nat) : (s.readRecipeEntry n).state = s := by
  unfold State.readRecipeEntry; split <;> rfl

@[simp] theorem State.state_readRate (s : State) (t e : Nat) : (s.readRate t e).state = s := by
  unfold State.readRate; split <;> rfl

@[simp] theorem State.state_serveStatusStation (s : State) (n : Nat) : (s.serveStatusStation n).state = s := by
  unfold State.serveStatusStation; split <;> rfl

/-! ### Requests of the blocks leave the line -/

/-- A station command does what its rule gives for its station, or nothing. -/
theorem State.onStation_cases (s : State) (n : Nat) (f : Fin 6 → Except Result State) :
    (s.onStation n f).state = s ∨ ∃ st, f st = .ok (s.onStation n f).state := by
  unfold State.onStation State.settle
  split
  · exact .inl rfl
  · next st _ =>
    cases e : f st with
    | ok t => exact .inr ⟨st, e⟩
    | error c => exact .inl rfl

theorem State.line_onStation {s : State} (n : Nat) {f : Fin 6 → Except Result State} (h : ∀ st t, f st = .ok t → t.line = s.line) :
    (s.onStation n f).state.line = s.line := by
  obtain e | ⟨st, e⟩ := s.onStation_cases n f
  · rw [e]
  · exact h st _ e

@[simp] theorem State.line_historyReply (s : State) (c : Result) (b : List Byte) : (s.historyReply c b).state.line = s.line := rfl

@[simp] theorem State.line_releaseRecords (s : State) : s.releaseRecords.line = s.line := by
  unfold State.releaseRecords; dsimp only; split <;> simp

@[simp] theorem State.line_moveCursor (s : State) (p : Time) : (s.moveCursor p).line = s.line := by simp [State.moveCursor]

@[simp] theorem State.line_appendLotMark (s : State) (src : Byte) (l : Nat) : (s.appendLotMark src l).line = s.line := by
  simp [State.appendLotMark]

@[simp] theorem State.line_serveHistoryRead (s : State) (src : Byte) : (s.serveHistoryRead src).state.line = s.line := by
  simp [State.serveHistoryRead, apply_ite Reply.state, apply_ite State.line, State.startRead]

@[simp] theorem State.line_serveHistorySpace (s : State) (d n : Nat) : (s.serveHistorySpace d n).state.line = s.line := by
  unfold State.serveHistorySpace State.spaceTo
  split
  · simp
  · split
    · simp
    · split <;> simp

@[simp] theorem State.line_serveHistoryRewind (s : State) : s.serveHistoryRewind.state.line = s.line := by
  simp [State.serveHistoryRewind, apply_ite Reply.state, apply_ite State.line]

@[simp] theorem State.line_serveHistoryRelease (s : State) : s.serveHistoryRelease.state.line = s.line := by
  simp [State.serveHistoryRelease, apply_ite Reply.state, apply_ite State.line]

@[simp] theorem State.line_serveLotMark (s : State) (src : Byte) (l : Nat) : (s.serveLotMark src l).state.line = s.line := by
  simp [State.serveLotMark, apply_ite Reply.state, apply_ite State.line]

@[simp] theorem State.line_serveAuto (s : State) (o : Nat) : (s.serveAuto o).state.line = s.line := by
  simp [State.serveAuto, apply_ite Reply.state, apply_ite State.line]

@[simp] theorem State.line_writeStation (s : State) (n : Nat) (w : StationSettings) : (s.writeStation n w).state.line = s.line := by
  unfold State.writeStation
  split <;> simp [refuse, taken, apply_ite Reply.state, apply_ite State.line]

@[simp] theorem State.line_writeZone (s : State) (n z : Nat) (w : ZoneWrite) : (s.writeZone n z w).state.line = s.line := by
  unfold State.writeZone
  split
  · split
    · rfl
    · split <;> rfl
  · rfl

@[simp] theorem State.line_writeWeigher (s : State) (w : WeigherSettings) : (s.writeWeigher w).state.line = s.line := by
  simp [State.writeWeigher, refuse, taken, apply_ite Reply.state, apply_ite State.line]

@[simp] theorem State.line_writeHistory (s : State) (w : HistoryWrite) : (s.writeHistory w).state.line = s.line := by
  unfold State.writeHistory
  split <;> simp [refuse, taken, apply_ite Reply.state, apply_ite State.line]

@[simp] theorem State.line_serveZoneClear (s : State) (n z : Nat) : (s.serveZoneClear n z).state.line = s.line := by
  unfold State.serveZoneClear
  split <;> simp [refuse, taken, apply_ite Reply.state, apply_ite State.line]

@[simp] theorem State.line_serveReset (s : State) : s.serveReset.state.line = s.line := by
  simp [State.serveReset, State.resetWeigher, refuse, taken, apply_ite Reply.state, apply_ite State.line]

@[simp] theorem State.line_startTaring (s : State) (a b : Byte) : (s.startTaring a b).line = s.line := rfl

/-- Serving a request that does not own the line leaves it as it was. -/
theorem State.line_serve (s : State) (h : ReqHeader) {r : Request} (hr : r.ownsLine = false) : (s.serve h r).line = s.line := by
  cases r with
  | modeSet | entryWriteRoute | entryWriteProfile | entryWriteRecipe | entryWriteRate | profilesApply | noticeMask => cases hr
  | start n => exact State.line_onStation n fun st t => State.line_startStation s st
  | stop n => exact State.line_onStation n fun st t ht => by cases ht; exact State.line_stopStation s st
  | abort n => exact State.line_onStation n fun st t => State.line_abortStation s st
  | park n => exact State.line_onStation n fun st t => State.line_parkStation s st
  | unpark n => exact State.line_onStation n fun st t => State.line_unparkStation s st
  | online n => exact State.line_onStation n fun st t => State.line_onlineStation s st
  | offline n => exact State.line_onStation n fun st t => State.line_offlineStation s st
  | bind n b =>
    refine State.line_onStation n fun st t ht => ?_
    split at ht
    · cases ht
    · exact State.line_bindStation s st _ ht
  | clear n => exact State.line_onStation n fun st t => State.line_clearStation s st
  | stationCommandUnknown c n => exact State.line_onStation n fun st t ht => by cases ht
  | tare => simp only [State.serve]; split <;> rfl
  | entryWriteStation | entryWriteZone | entryWriteWeigher | entryWriteHistory | zoneClear | historyRead | historySpace | historyRewind
  | historyRelease | lotMark | auto | entryReadRoute | entryReadStation | entryReadZone | entryReadProfile | entryReadRecipe
  | entryReadRate | statusStation | reset => simp [State.serve]
  | ping | restart | entryReadWeigher | entryReadHistory | weigherCommandUnknown | statusDevice | statusWeigher | statusStore | unknown
  | malformed => rfl

end Machine
end Sys2Proof
end

section
/-! PROOFS. What a frame on ring-in can bring about (R170), said once for everything that every frame keeps. -/

namespace Sys2Proof.Machine

/-- What a block may make of a sample, the silence of its entry treated. -/
inductive SampleWork (s : State) : State → Prop where
  | none : SampleWork s s
  | heat (st : Fin 6) (m : HeatSample) : SampleWork s (s.heatWork st m)
  | press (st : Fin 6) (m : PressSample) : SampleWork s (s.pressWork st m)
  | eject (st : Fin 6) (m : EjectSample) : SampleWork s (s.ejectWork st m)
  | weigh (m : WeighSample) : SampleWork s (s.weighWork m)

/-- A sample of an entry is counted as wrong, or its node is heard and its block works on it. -/
theorem State.takeSample_cases (s : State) (r : Role) (i : Fin 32) (payload : List Byte) :
    s.takeSample r i payload = s ∨ s.takeSample r i payload = s.countLineError ∨ SampleWork (s.hearNode i) (s.takeSample r i payload) := by
  cases r with
  | heater | master => exact .inl rfl
  | heat | press | ejector =>
    unfold State.takeSample State.handOver
    dsimp only
    split
    · exact .inr (.inl rfl)
    · split
      · exact .inr (.inr (by constructor))
      · exact .inr (.inr .none)
  | weigher =>
    unfold State.takeSample
    dsimp only
    split
    · exact .inr (.inl rfl)
    · exact .inr (.inr (.weigh _))

section
variable {P : State → Prop} {s : State} {f : Frame} (hs : P s) (herror : P s.countLineError) (hforward : ∀ t, P t → P (t.forward f))
  (hraise : ∀ key, P (s.raise .foreignCommand key [f.src, f.dest, f.kind])) (hsample : ∀ i t, SampleWork (s.hearNode i) t → P t)
  (hrequest : f.kind = kRequest → ∀ h r, P (s.takeRequest h r))
include hs herror hforward hraise hsample hrequest

/-- What holds after each thing a frame can bring about holds after its judgement. -/
theorem State.ringIn_induction : P (s.ringIn f) := by
  have hpass : ∀ own t, P t → P (t.passOn own f) := fun own t ht => by
    unfold State.passOn
    split
    · exact ht
    · exact hforward t ht
  unfold State.ringIn
  split
  · exact herror
  · split
    · split
      · exact hs
      · exact hforward s hs
    · split
      · exact hs
      · unfold State.judgeFrame
        split
        · exact hraise _
        · split
          · next r i _ =>
            refine hpass _ _ ?_
            obtain e | e | w := s.takeSample_cases r i f.payload
            · rwa [e]
            · rwa [e]
            · exact hsample i _ w
          · split
            · next hk => exact hrequest hk.1 _ _
            · exact hpass _ _ hs

end

/-- The judgement of a request comes to nothing, to its forwarding, or to the management handler. -/
theorem State.ringRequest_cases (s : State) (h : ReqHeader) (r : Request) :
    s.ringRequest h r = s ∨ s.ringRequest h r = s.forward (requestFrame h r) ∨ s.ringRequest h r = s.takeRequest h r := by
  unfold State.ringRequest
  split
  · split
    · exact .inl rfl
    · exact .inr (.inl rfl)
  · split
    · exact .inl rfl
    · split
      · exact .inr (.inr rfl)
      · exact .inr (.inl rfl)

/-- The management handler discards a request, answers it NOT_MASTER, or serves it (R178). -/
theorem State.takeRequest_cases (s : State) (h : ReqHeader) (r : Request) :
    s.takeRequest h r = s ∨ s.takeRequest h r = s.answer h.src h.seq (requestKind r) .notMaster [] false ∨
      s.port.buffer = .empty ∧ s.takeRequest h r = s.serve h r := by
  by_cases hb : s.port.buffer = .empty
  · cases hf : s.foreignMaster h.src with
    | true => exact .inr (.inl (s.takeRequest_foreign h r hb hf))
    | false => exact .inr (.inr ⟨hb, s.takeRequest_served h r hb hf⟩)
  · exact .inl (s.takeRequest_busy h r hb)

theorem SampleWork.line {s t : State} (h : SampleWork s t) : t.line = s.line := by
  cases h <;> simp

/-- After a recipe write only the looks at the calling condition follow (R10, R122). -/
theorem State.line_replaceRecipe (s : State) (n : Fin 16) (r : Recipe) :
    (s.replaceRecipe n r).line = { s with recipes := s.recipes.set n r }.line :=
  State.line_foldl _ (fun t st => by simp [apply_ite State.line]) _ _

theorem State.line_applyProfiles (s : State) : s.applyProfiles.line = { s with profilesLive := s.profilesShadow }.line :=
  State.line_foldl _ (fun t st => State.line_rereadGroups t st) _ _

/-! ### Silence and RESTART -/

theorem State.line_withCtx {s : State} (st : Fin 6) {act : Context → State} (h : ∀ c, (act c).line = s.line) :
    (s.withCtx st act).line = s.line := by
  unfold State.withCtx
  cases s.ctx? st with
  | none => rfl
  | some c => exact h c

theorem State.line_onDue {s : State} (t : Timer) {act : State → Time → State} (h : ∀ a, (act s a).line = s.line) :
    (s.onDue t act).line = s.line := by
  unfold State.onDue
  split
  · exact h _
  · rfl

/-- The silence of an entry, and the report to its block. -/
theorem State.line_reportSilence (s : State) (e : RouteEntry) (t : Time) : (s.reportSilence e t).line = s.line := by
  unfold State.reportSilence
  split
  · simp
  · split
    · rfl
    · split
      · simp
      · split
        · simp
        · split
          · simp
          · rfl

@[simp] theorem State.line_announceRestart (x : Station) (s : State) (st : Fin 6) : (s.announceRestart x st).line = s.line := by
  simp [State.announceRestart, apply_ite State.line]

@[simp] theorem State.line_appendRestartMark (s : State) : s.appendRestartMark.line = s.line := by
  simp [State.appendRestartMark, apply_ite State.line]

/-- The announcements at the end of a restart leave the line. -/
theorem State.line_restart (s : State) : s.restart.line = s.appendRestartMark.clearRuntime.line := by
  unfold State.restart
  simp [apply_ite State.line, State.line_foldl _ fun u st => State.line_announceRestart (s.station st) u st]

/-- A part that a RESTART was sent to has an address (R186). -/
theorem State.nodeAddress_ne_none_of_restartDue {s : State} (h : s.restartDue = true) : s.nodeAddress ≠ none := by
  intro hnone
  simp [State.restartDue, hnone] at h

theorem State.buffer_restartDue {s : State} (h : s.restartDue = true) : s.port.buffer = .restarting := by
  simp only [State.restartDue, Bool.and_eq_true, beq_iff_eq] at h
  exact h.1

end Sys2Proof.Machine
end

section
/-! PROOFS. The line invariant: it is a property of `State.line`, so the blocks keep it; the line port's own operations keep its bounds. -/

namespace Sys2Proof.Claim

open Sys2Proof.Machine

theorem stray_eq_false_iff (p : Port) (i : Fin 77) :
    p.stray i = false ↔ ((p.notices[i]).isSome = true → p.mask[(⟨i.val / 7, by omega⟩ : Fin 11)] = true) := by
  unfold Port.stray
  cases (p.notices[i]).isSome <;> simp

/-- The line invariant, through the view of the line. -/
theorem lineInvariant_iff (s : State) :
    LineInvariant s ↔ (s.mode = .isolated ↔ s.nodeAddress = none) ∧ s.port.forward.length ≤ 4 ∧ s.port.report.length ≤ 4 ∧
      s.port.lineErrors ≤ 65535 ∧ ∀ i, s.port.stray i = false := by
  simp only [LineInvariant, stray_eq_false_iff]

/-- The blocks keep the line invariant. -/
theorem LineInvariant.of_line {s t : State} (h : t.line = s.line) (hs : LineInvariant s) : LineInvariant t := by
  rw [lineInvariant_iff] at hs ⊢
  rwa [State.mode_of_line h, State.nodeAddress_of_line h, State.forward_of_line h, State.report_of_line h, State.lineErrors_of_line h,
    State.stray_of_line h]

theorem LineInvariant.beginSend {s : State} (hs : LineInvariant s) : LineInvariant s.beginSend := by
  obtain ⟨hm, hf, hr, he, hn⟩ := hs
  refine ⟨by simpa using hm, s.forward_beginSend_le.trans hf, s.report_beginSend_le.trans hr, by simpa using he, ?_⟩
  simpa using hn

theorem LineInvariant.countLineError {s : State} (hs : LineInvariant s) : LineInvariant s.countLineError := by
  obtain ⟨hm, hf, hr, -, hn⟩ := hs
  exact ⟨hm, hf, hr, min_le_left _ _, hn⟩

theorem LineInvariant.forward {s : State} (f : Frame) (hs : LineInvariant s) : LineInvariant (s.forward f) := by
  obtain ⟨hm, hf, hr, he, hn⟩ := hs
  have hlen := s.forward_length_le f hf
  unfold State.forward at hlen ⊢
  split
  · next hroom => exact ⟨hm, by rwa [if_pos hroom] at hlen, hr, he, hn⟩
  · exact ⟨hm, hf, hr, he, hn⟩

theorem LineInvariant.setSilence {s : State} (x : Vector Silence 32) (hs : LineInvariant s) :
    LineInvariant (s.modPort fun p => { p with silence := x }) := hs

/-- An admitted claimant finds room for its frame (R177). -/
theorem LineInvariant.placeReport {s : State} {c : ReportClaimant} (f : OutFrame) (ha : s.admitted = some c) (hs : LineInvariant s) :
    LineInvariant (s.placeReport c f) := by
  obtain ⟨hm, hf, -, he, hn⟩ := hs
  have hroom := s.report_lt_of_admitted ha
  refine ⟨hm, hf, ?_, he, hn⟩
  simpa [State.placeReport] using hroom

theorem LineInvariant.clearNotice {s : State} (i : Fin 77) (hs : LineInvariant s) : LineInvariant (s.modPort (·.clearNotice i)) := by
  obtain ⟨hm, hf, hr, he, hn⟩ := hs
  refine ⟨hm, hf, hr, he, fun j hj => hn j ?_⟩
  by_cases hij : i.val = j.val
  · obtain rfl := Fin.ext hij
    simp [Port.clearNotice] at hj
  · simpa [Port.clearNotice, Vector.getElem_set_ne _ _ hij] using hj

/-- A new mask clears the pending flags of the kinds it disables (R183). -/
theorem mask_of_isSome_setMask (p : Port) (m : Vector Bool 11) (j : Fin 77) (hj : ((p.setMask m).notices[j]).isSome = true) :
    m[(⟨j.val / 7, by omega⟩ : Fin 11)] = true := by
  simp only [Port.setMask, Fin.getElem_fin, Vector.getElem_ofFn] at hj
  split at hj
  · assumption
  · exact absurd hj (by simp)

/-- A port that keeps the bounds makes a state that does. -/
theorem LineInvariant.withPort {s : State} (p : Port) (hs : LineInvariant s) (hforward : p.forward.length ≤ 4) (hreport : p.report.length ≤ 4)
    (herrors : p.lineErrors ≤ 65535) (hnotice : ∀ j : Fin 77, (p.notices[j]).isSome = true → p.mask[(⟨j.val / 7, by omega⟩ : Fin 11)] = true) :
    LineInvariant { s with port := p } :=
  ⟨hs.1, hforward, hreport, herrors, hnotice⟩

theorem LineInvariant.setMask {s : State} (m : Vector Bool 11) (hs : LineInvariant s) :
    LineInvariant { s with port := s.port.setMask m } := by
  obtain ⟨hm, hf, hr, he, -⟩ := id hs
  refine hs.withPort _ ?_ ?_ ?_ (mask_of_isSome_setMask s.port m)
  · simpa only [Port.setMask] using hf
  · simpa only [Port.setMask] using hr
  · simpa only [Port.setMask] using he

/-- A frame the port places keeps the line invariant (R177). -/
theorem LineInvariant.placeAnswer {s : State} (ha : s.admitted = some .handler) (hs : LineInvariant s) : LineInvariant s.placeAnswer := by
  unfold State.placeAnswer
  split
  · dsimp only
    split
    · exact hs.placeReport _ ha
    · exact hs.placeReport _ ha
  · exact hs

theorem LineInvariant.placeNotice {s : State} (ha : s.admitted = some .emitter) (hs : LineInvariant s) : LineInvariant s.placeNotice := by
  unfold State.placeNotice
  split
  · exact hs
  · split
    · exact hs
    · exact (hs.placeReport _ ha).clearNotice _

theorem LineInvariant.placeSegment {s : State} (ha : s.admitted = some .sender) (hs : LineInvariant s) : LineInvariant s.placeSegment := by
  unfold State.placeSegment
  split
  · exact hs
  · split
    · exact hs.placeReport _ ha
    · dsimp only
      split
      · refine LineInvariant.of_line (State.line_testBacklog _) ?_
        exact hs.placeReport _ ha
      · exact hs.placeReport _ ha

theorem LineInvariant.becomeSilent {s : State} (i : Fin 32) (t : Time) (hs : LineInvariant s) : LineInvariant (s.becomeSilent i t) := by
  refine LineInvariant.of_line ((State.line_reportSilence _ _ _).trans (State.line_raise _ _ _ _)) ?_
  exact hs.setSilence _

/-! ### RESTART -/

theorem LineInvariant.restart {s : State} (hdue : s.restartDue = true) (hs : LineInvariant s) : LineInvariant s.restart := by
  refine LineInvariant.of_line s.line_restart ?_
  have ha : s.appendRestartMark.nodeAddress = s.nodeAddress := State.nodeAddress_of_line s.line_appendRestartMark
  have he : s.appendRestartMark.port.lineErrors = s.port.lineErrors := State.lineErrors_of_line s.line_appendRestartMark
  obtain ⟨-, -, -, herr, -⟩ := hs
  refine ⟨?_, Nat.zero_le _, Nat.zero_le _, ?_, fun i hi => ?_⟩
  · have hne := State.nodeAddress_ne_none_of_restartDue hdue
    simp [State.clearRuntime, ha, hne]
  · show s.appendRestartMark.port.lineErrors ≤ 65535
    rwa [he]
  · simp [State.clearRuntime, Port.restarted, Port.reset] at hi

/-! ### Requests -/

/-- A state that differs in mode and tables alone, the mode neither before nor after ISOLATED. -/
theorem LineInvariant.of_port {s t : State} (hs : LineInvariant s) (hm : t.mode = .isolated ↔ s.mode = .isolated)
    (ha : t.nodeAddress = s.nodeAddress) (hp : t.port = s.port) : LineInvariant t := by
  obtain ⟨hmode, hrest⟩ := hs
  refine ⟨by rw [hm, ha, hmode], ?_⟩
  rwa [hp]

/-- Only a part with an address takes requests. -/
theorem LineInvariant.serve {s : State} (h : ReqHeader) (r : Request) (hs : LineInvariant s) (hm : s.mode ≠ .isolated) :
    LineInvariant (s.serve h r) := by
  cases hr : r.ownsLine with
  | false => exact hs.of_line (s.line_serve h hr)
  | true =>
    cases r with
    | modeSet m =>
      show LineInvariant (s.serveModeSet m).state
      unfold State.serveModeSet State.enterRun
      split
      · split
        · exact hs
        · exact hs.of_port (by simp [taken, hm]) rfl rfl
      · show LineInvariant (if s.mode = .run then s else _)
        split
        · exact hs
        · refine LineInvariant.of_line (State.line_consider _) ?_
          exact hs.of_port (by simp [hm]) rfl rfl
      · exact hs
    | entryWriteRoute n w =>
      show LineInvariant (s.writeRoute n w).state
      unfold State.writeRoute State.replaceRoute Port.dropCommands
      split
      · exact hs
      · split
        · exact hs
        · split
          · dsimp only [taken, State.modPort]
            split
            · split <;> exact hs
            · exact hs
          · exact hs
    | entryWriteProfile n w =>
      show LineInvariant (s.writeProfile n w).state
      unfold State.writeProfile
      split
      · exact hs
      · split
        · exact hs.of_port Iff.rfl rfl rfl
        · exact hs
    | entryWriteRecipe n w =>
      show LineInvariant (s.writeRecipe n w).state
      unfold State.writeRecipe
      split
      · exact hs
      · split
        · dsimp only [taken]
          exact LineInvariant.of_line (State.line_replaceRecipe _ _ _) (hs.of_port Iff.rfl rfl rfl)
        · exact hs
    | entryWriteRate t e f =>
      show LineInvariant (s.writeRate t e f).state
      unfold State.writeRate
      split
      · split
        · exact hs.of_port Iff.rfl rfl rfl
        · exact hs
      · exact hs
    | profilesApply => exact LineInvariant.of_line s.line_applyProfiles (hs.of_port Iff.rfl rfl rfl)
    | noticeMask m =>
      show LineInvariant (s.serveNoticeMask m).state
      unfold State.serveNoticeMask
      split
      · exact hs.setMask _
      · exact hs
    | _ => exact absurd hr (by simp [Request.ownsLine])

theorem LineInvariant.takeRequest {s : State} (h : ReqHeader) (r : Request) (hs : LineInvariant s) (hm : s.mode ≠ .isolated) :
    LineInvariant (s.takeRequest h r) := by
  obtain e | e | ⟨-, e⟩ := s.takeRequest_cases h r
  · rwa [e]
  · rw [e]; exact hs
  · rw [e]; exact hs.serve h r hm

/-! ### Every command -/

theorem LineInvariant.ringIn {s : State} (f : Frame) (hs : LineInvariant s) : LineInvariant (s.ringIn f) := by
  by_cases hm : s.mode = .isolated
  · have hfwd := hs.forward f
    unfold State.ringIn State.ownAddress?
    rw [if_pos hm]
    dsimp only
    split
    · exact hs.countLineError
    · split <;> assumption
  · exact State.ringIn_induction hs hs.countLineError (fun t ht => ht.forward f) (fun key => hs.of_line (State.line_raise s _ key _))
      (fun i t ht => LineInvariant.of_line ht.line (hs.setSilence _)) (fun _ h r => hs.takeRequest h r hm)

theorem LineInvariant.ringRequest {s : State} (h : ReqHeader) (r : Request) (hs : LineInvariant s) : LineInvariant (s.ringRequest h r) := by
  by_cases hm : s.mode = .isolated
  · have hfwd := hs.forward (requestFrame h r)
    unfold State.ringRequest State.ownAddress?
    rw [if_pos hm]
    dsimp only
    split <;> assumption
  · obtain e | e | e := s.ringRequest_cases h r
    · rwa [e]
    · rw [e]; exact hs.forward _
    · rw [e]; exact hs.takeRequest h r hm

theorem LineInvariant.endTransmission {s : State} (hs : LineInvariant s) : LineInvariant s.endTransmission := by
  unfold State.endTransmission
  split
  · next hdue => exact hs.restart hdue
  · exact hs

theorem lineInvariant_powerOn (k : BitVec 6) (l : List Instr) : LineInvariant { State.powerOn k with pending := l } := by
  refine ⟨?_, Nat.zero_le _, Nat.zero_le _, Nat.zero_le _, fun i hi => ?_⟩
  · by_cases hk : k = 0 <;> simp [State.powerOn, hk]
  · simp [State.powerOn, Port.reset] at hi

/-- The work of every command keeps the line invariant. -/
theorem LineInvariant.work {s : State} (i : Instr) (hs : LineInvariant s) : LineInvariant (s.work i) := by
  cases i with
  | powerOnReset k => exact lineInvariant_powerOn k s.pending
  | ringInFrame f => exact hs.ringIn f
  | heatSample f | pressSample f | ejectSample f | weighSample f => exact hs.ringIn _
  | silenceExpiry e =>
    show LineInvariant ((s.silenceDue? e).elim s (s.becomeSilent e))
    cases s.silenceDue? e with
    | none => exact hs
    | some t => exact hs.becomeSilent e t
  | holdExpiry st => exact hs.of_line (by simp [State.work, apply_ite State.line])
  | loadTimeout st => exact hs.of_line (State.line_onDue _ fun t => State.line_takeCause s st _)
  | wallMinimumExpiry st =>
    exact hs.of_line (State.line_onDue _ fun t => State.line_withCtx st fun c => State.line_wallMinExpired s st c t)
  | wallMaximumExpiry st => exact hs.of_line (State.line_onDue _ fun t => State.line_wallMaxExpired s st t)
  | openTimeout st => exact hs.of_line (State.line_onDue _ fun t => State.line_openExpired s st t)
  | attemptTimerExpiry st =>
    exact hs.of_line (State.line_onDue _ fun t => State.line_withCtx st fun c => State.line_attemptExpired s st c t)
  | pieceWaitExpiry => exact hs.of_line (State.line_onDue _ fun t => State.line_pieceWaitExpired s t)
  | settleTimerExpiry => exact hs.of_line (State.line_onDue _ fun t => State.line_settleExpired s t)
  | clearTimerExpiry => exact hs.of_line (State.line_onDue _ fun t => State.line_clearExpired s t)
  | transmissionEnd => exact hs.endTransmission
  | restartTakeEffect =>
    simp only [State.work]
    split
    · next hdue => exact hs.restart hdue
    · exact hs
  | noticeEmit =>
    simp only [State.work]
    split
    · next ha => exact hs.placeNotice ha
    · exact hs
  | segmentPlace =>
    simp only [State.work]
    split
    · next ha => exact hs.placeSegment ha
    · exact hs
  | autoSendStart => exact hs.of_line (by simp [State.work, State.startAutoSend, apply_ite State.line])
  | answerPartPlace =>
    simp only [State.work]
    split
    · next ha => exact hs.placeAnswer ha
    · exact hs
  | _ => exact hs.ringRequest _ _

/-- Settles O6: the work of the command at the front of the queue and ring-out's turn keep the line invariant, and so does an idle step. -/
theorem lineInvariantKept : Obligations.LineInvariantKept := by
  intro s t hs hstep
  unfold step at hstep
  split at hstep
  · cases hstep
    unfold State.idle
    split <;> exact hs
  · next i rest _ =>
    rw [exec_eq_work] at hstep
    cases hstep
    exact (LineInvariant.work i (s := { s with pending := rest }) hs).beginSend

end Sys2Proof.Claim
end

section
/-! PROOFS. The tables of stations, weigher and store. `State.tables` gathers them, as `State.line` gathers what no block changes: every
operation of a block leaves it as it was. -/

namespace Sys2Proof.Machine

/-- The tables of a station: settings (R2), bound recipe (R24) and zone entries (R27). -/
structure StationTables where
  settings : StationSettings
  boundRecipe : Fin 16
  entries : Fin 16 → ZoneEntry

def Station.tables (x : Station) : StationTables :=
  { settings := x.settings, boundRecipe := x.boundRecipe, entries := fun i => (x.zones[i]).entry }

/-- The tables of the cell: those of the stations, the weigher's settings (R97) and the store's (R157). -/
structure CellTables where
  station : Fin 6 → StationTables
  weigher : WeigherSettings
  store : HistorySettings

def State.tables (s : State) : CellTables :=
  { station := fun st => (s.station st).tables, weigher := s.weigher.settings, store := s.store.settings }

theorem State.stationTables_of_tables {s t : State} (h : t.tables = s.tables) (st : Fin 6) :
    (t.station st).tables = (s.station st).tables :=
  congrFun (congrArg CellTables.station h) st

theorem State.weigherSettings_of_tables {s t : State} (h : t.tables = s.tables) : t.weigher.settings = s.weigher.settings :=
  congrArg CellTables.weigher h

theorem State.storeSettings_of_tables {s t : State} (h : t.tables = s.tables) : t.store.settings = s.store.settings :=
  congrArg CellTables.store h

/-! ### The updates -/

theorem Station.tables_eq_iff {x y : Station} :
    y.tables = x.tables ↔
      y.settings = x.settings ∧ y.boundRecipe = x.boundRecipe ∧ ∀ i : Fin 16, (y.zones[i]).entry = (x.zones[i]).entry := by
  simp [Station.tables, funext_iff]

theorem State.tables_setStation {s : State} {st : Fin 6} {x : Station} (h : x.tables = (s.station st).tables) :
    (s.setStation st x).tables = s.tables := by
  have hall : ∀ sx, ((s.setStation st x).station sx).tables = (s.station sx).tables := fun sx => by
    rw [State.station_setStation]
    split
    · next e => rw [e, h]
    · rfl
  simp only [State.tables, hall, State.setStation_weigher, State.setStation_store]

@[simp] theorem State.tables_modStation {s : State} {st : Fin 6} {f : Station → Station}
    (h : (f (s.station st)).tables = (s.station st).tables) : (s.modStation st f).tables = s.tables := State.tables_setStation h

@[simp] theorem State.tables_modCtx (s : State) (st : Fin 6) (f : Context → Context) : (s.modCtx st f).tables = s.tables :=
  State.tables_modStation rfl

@[simp] theorem State.tables_modPort (s : State) (f : Port → Port) : (s.modPort f).tables = s.tables := rfl

@[simp] theorem State.tables_modWeigher {s : State} {f : Weigher → Weigher} (h : (f s.weigher).settings = s.weigher.settings) :
    (s.modWeigher f).tables = s.tables := by
  simp only [State.tables, State.modWeigher_weigher, h, State.station_modWeigher, State.modWeigher_store]

@[simp] theorem State.tables_modStore {s : State} {f : Store → Store} (h : (f s.store).settings = s.store.settings) :
    (s.modStore f).tables = s.tables := by
  simp only [State.tables, State.modStore_store, h, State.station_modStore, State.modStore_weigher]

@[simp] theorem State.tables_withArbiter (s : State) (a : Arbiter) : ({ s with arbiter := a } : State).tables = s.tables := rfl

theorem State.tables_foldl {α : Type} (f : State → α → State) (h : ∀ s a, (f s a).tables = s.tables) (l : List α) (s : State) :
    (l.foldl f s).tables = s.tables := by
  induction l generalizing s with
  | nil => rfl
  | cons a l ih => exact (ih (f s a)).trans (h s a)

/-! ### Zones: a round and the supervisor write no entry -/

@[simp] theorem Zone.entry_condition (z : Zone) (status : ChannelStatus) (raw : Nat) : (z.condition status raw).entry = z.entry := by
  unfold Zone.condition
  dsimp only
  split
  · rfl
  · rw [apply_ite Zone.entry, ite_self]

@[simp] theorem Zone.entry_regulate (z : Zone) (g : Group) (b : Bool) : (z.regulate g b).entry = z.entry := by
  unfold Zone.regulate
  split
  · rfl
  · dsimp only; split <;> rfl

@[simp] theorem Zone.entry_countStatus (z : Zone) : z.countStatus.entry = z.entry := by
  unfold Zone.countStatus; split <;> rfl

@[simp] theorem Zone.entry_countStuck (z : Zone) : z.countStuck.entry = z.entry := by
  unfold Zone.countStuck
  split
  · split <;> rfl
  · rfl

@[simp] theorem Zone.entry_countHeaterOpen (z : Zone) : z.countHeaterOpen.1.entry = z.entry := by
  unfold Zone.countHeaterOpen
  split
  · rfl
  · simp only [apply_ite Prod.fst, apply_ite Zone.entry, ite_self]

@[simp] theorem Zone.entry_judgeFault (z : Zone) : z.judgeFault.entry = z.entry := by
  unfold Zone.judgeFault
  split
  · rfl
  · dsimp only; split <;> simp [Zone.takeFault]

@[simp] theorem Zone.entry_judgeWindow (z : Zone) (b : Bool) : (z.judgeWindow b).entry = z.entry := by
  unfold Zone.judgeWindow
  split
  · rfl
  · split <;> rfl

@[simp] theorem Station.tables_fullRound (x : Station) (m : HeatSample) (now : Time) : (x.fullRound m now).tables = x.tables :=
  by
  simp [Station.tables_eq_iff, Station.fullRound, Station.applyBudget, Station.regulateAll, Station.stepGroups, Station.conditionAll]

@[simp] theorem Station.tables_judgeWindows (x : Station) (r : Vector Bool 4) : (x.judgeWindows r).tables = x.tables :=
  by
  simp [Station.tables_eq_iff, Station.judgeWindows]

@[simp] theorem Station.tables_zeroDuties (x : Station) : x.zeroDuties.tables = x.tables :=
  by
  simp [Station.tables_eq_iff, Station.zeroDuties]

@[simp] theorem Station.tables_startAnew (x : Station) : x.startAnew.tables = x.tables :=
  by
  simp [Station.tables_eq_iff, Station.startAnew, Zone.fresh]

/-! ### Ops -/

@[simp] theorem State.tables_placeSlot (s : State) (slot : Fin 19) (f : OutFrame) : (s.placeSlot slot f).tables = s.tables := by
  simp [State.placeSlot]

@[simp] theorem State.tables_placeCommand (s : State) (slot : Fin 19) (r : Role) (station : Nat) (kind : Byte) (payload : List Byte) :
    (s.placeCommand slot r station kind payload).tables = s.tables := by
  unfold State.placeCommand
  split <;> simp

@[simp] theorem State.tables_placeDuty (s : State) (st : Fin 6) (nodeRound : Half) (duty : List Nat) :
    (s.placeDuty st nodeRound duty).tables = s.tables := by
  simp [State.placeDuty]

@[simp] theorem State.tables_placePermit (s : State) (st : Fin 6) : (s.placePermit st).tables = s.tables := by
  simp [State.placePermit]

@[simp] theorem State.tables_placeEject (s : State) (st : Fin 6) : (s.placeEject st).tables = s.tables := by
  simp [State.placeEject]

@[simp] theorem State.tables_placeGate (s : State) : (s.placeGate).tables = s.tables := by
  simp [State.placeGate]

@[simp] theorem State.tables_wantEject (s : State) (st : Fin 6) (w : EjectCmd) : (s.wantEject st w).tables = s.tables := by
  simp [State.wantEject, apply_ite State.tables, Station.tables_eq_iff]

@[simp] theorem State.tables_wantGate (s : State) (g : Gate) : (s.wantGate g).tables = s.tables := by
  simp [State.wantGate, apply_ite State.tables]

/-! ### Flags -/

@[simp] theorem State.tables_raise (s : State) (kind : NoticeKind) (key : Option (Fin 6)) (values : List Byte) :
    (s.raise kind key values).tables = s.tables := by
  simp [State.raise, apply_ite State.tables]

@[simp] theorem State.tables_raiseStationState (s : State) (st : Fin 6) : (s.raiseStationState st).tables = s.tables := by
  simp [State.raiseStationState]

/-! ### Groups -/

@[simp] theorem State.tables_resolveAfresh (s : State) (st : Fin 6) : (s.resolveAfresh st).tables = s.tables := by
  simp [State.resolveAfresh, Station.tables_eq_iff]

@[simp] theorem State.tables_resolveOne (s : State) (st : Fin 6) (g : Fin 4) : (s.resolveOne st g).tables = s.tables := by
  simp [State.resolveOne, Station.tables_eq_iff]

@[simp] theorem State.tables_rereadGroups (s : State) (st : Fin 6) : (s.rereadGroups st).tables = s.tables := by
  unfold State.rereadGroups
  refine State.tables_modStation ?_
  split
  · rfl
  · rfl

/-! ### Store -/

@[simp] theorem State.tables_testBacklog (s : State) : (s.testBacklog).tables = s.tables := by
  simp [State.testBacklog, apply_ite State.tables]

@[simp] theorem State.tables_testLow (s : State) : (s.testLow).tables = s.tables := by
  simp [State.testLow, apply_ite State.tables]

@[simp] theorem State.tables_makeRoom (s : State) (size : Nat) : (s.makeRoom size).tables = s.tables := by
  obtain ⟨p, x, e, -, -, hs⟩ := s.makeRoom_eq size
  rw [e]
  simp only [State.tables, hs]
  rfl

@[simp] theorem State.tables_pushRecord (s : State) (bytes : List Byte) (pass : Bool) : (s.pushRecord bytes pass).tables = s.tables := by
  simp [State.pushRecord]

@[simp] theorem State.tables_reserve (s : State) : (s.reserve).tables = s.tables := by
  simp [State.reserve]

@[simp] theorem State.tables_useReservation (s : State) (r : Reservation) : (s.useReservation r).tables = s.tables := by
  simp [State.useReservation, apply_ite State.tables]

/-! ### Calls -/

@[simp] theorem State.tables_setState (s : State) (st : Fin 6) (new : StationState) : (s.setState st new).tables = s.tables := by
  simp [State.setState, apply_ite State.tables, Station.tables_eq_iff]

@[simp] theorem State.tables_createContext (s : State) (st : Fin 6) (res : Reservation) : (s.createContext st res).tables = s.tables := by
  simp [State.createContext, Station.tables_eq_iff]

@[simp] theorem State.tables_armWeigher (s : State) (st : Fin 6) : (s.armWeigher st).tables = s.tables := by
  simp [State.armWeigher]

@[simp] theorem State.tables_removeCall (s : State) (st : Fin 6) : (s.removeCall st).tables = s.tables := by
  simp [State.removeCall]

@[simp] theorem State.tables_grant (s : State) (st : Fin 6) : (s.grant st).tables = s.tables := by
  simp [State.grant, apply_ite State.tables]

@[simp] theorem State.tables_recipeMissing (s : State) (st : Fin 6) : (s.recipeMissing st).tables = s.tables := by
  simp [State.recipeMissing]

@[simp] theorem State.tables_considerFrom (l : List (Fin 6)) (s : State) : (State.considerFrom l s).tables = s.tables := by
  induction l generalizing s with
  | nil => rfl
  | cons st l ih => simp [State.considerFrom, apply_ite State.tables, ih]

@[simp] theorem State.tables_consider (s : State) : (s.consider).tables = s.tables := by
  simp [State.consider]

@[simp] theorem State.tables_leaveQueue (s : State) (st : Fin 6) : (s.leaveQueue st).tables = s.tables := by
  simp [State.leaveQueue, apply_ite State.tables]

@[simp] theorem State.tables_enterCalling (s : State) (st : Fin 6) (atHead : Bool) : (s.enterCalling st atHead).tables = s.tables := by
  unfold State.enterCalling
  dsimp only
  rw [State.tables_consider]
  exact State.tables_setState s st _

@[simp] theorem State.tables_lookCalling (s : State) (st : Fin 6) : (s.lookCalling st).tables = s.tables := by
  simp [State.lookCalling, apply_ite State.tables]

@[simp] theorem State.tables_enterReady (s : State) (st : Fin 6) : (s.enterReady st).tables = s.tables := by
  simp [State.enterReady]

@[simp] theorem State.tables_pushAndReport (s : State) (before : Nat) (bytes : List Byte) :
    (s.pushAndReport before bytes).tables = s.tables := by
  simp [State.pushAndReport, apply_ite State.tables]

@[simp] theorem State.tables_appendCycle (s : State) (r : Reservation) (bytes : List Byte) : (s.appendCycle r bytes).tables = s.tables := by
  simp [State.appendCycle]

@[simp] theorem State.tables_releaseContext (s : State) (st : Fin 6) : (s.releaseContext st).tables = s.tables := by
  simp [State.releaseContext, Station.tables_eq_iff]

/-! ### Holds -/

@[simp] theorem State.tables_enterClearing (s : State) (g : Gate) : (s.enterClearing g).tables = s.tables := by
  simp [State.enterClearing]

@[simp] theorem State.tables_endGrant (s : State) : (s.endGrant).tables = s.tables := by
  rfl

@[simp] theorem State.tables_rejectCycle (s : State) (st : Fin 6) (reason : RejectReason) (total : Int) (time : Time) :
    (s.rejectCycle st reason total time).tables = s.tables := by
  unfold State.rejectCycle
  split <;> simp

@[simp] theorem State.tables_abortWeigh (s : State) (st : Fin 6) : (s.abortWeigh st).tables = s.tables := by
  simp [State.abortWeigh]

@[simp] theorem State.tables_stopWork (s : State) (st : Fin 6) : (s.stopWork st).tables = s.tables := by
  unfold State.stopWork
  split <;> simp

@[simp] theorem State.tables_enterLatched (s : State) (st : Fin 6) (cause : Cause) : (s.enterLatched st cause).tables = s.tables := by
  simp [State.enterLatched, apply_ite State.tables, Station.tables_eq_iff]

@[simp] theorem State.tables_takePlatenLost (s : State) (st : Fin 6) : (s.takePlatenLost st).tables = s.tables := by
  unfold State.takePlatenLost
  split <;> simp [Station.tables_eq_iff]

@[simp] theorem State.tables_enterHold (s : State) (st : Fin 6) (cause : Cause) : (s.enterHold st cause).tables = s.tables := by
  simp [State.enterHold, apply_ite State.tables, Station.tables_eq_iff]

@[simp] theorem State.tables_replaceHold (s : State) (st : Fin 6) (cause : Cause) : (s.replaceHold st cause).tables = s.tables := by
  simp [State.replaceHold, apply_ite State.tables, Station.tables_eq_iff]

@[simp] theorem State.tables_takeCause (s : State) (st : Fin 6) (cause : Cause) : (s.takeCause st cause).tables = s.tables := by
  simp [State.takeCause, apply_ite State.tables]

@[simp] theorem State.tables_startOpening (s : State) (st : Fin 6) : (s.startOpening st).tables = s.tables := by
  simp [State.startOpening]

@[simp] theorem State.tables_enterWarming (s : State) (st : Fin 6) : (s.enterWarming st).tables = s.tables := by
  simp [State.enterWarming, Station.tables_eq_iff]

@[simp] theorem State.tables_recover (s : State) (st : Fin 6) : (s.recover st).tables = s.tables := by
  simp [State.recover, apply_ite State.tables, Station.tables_eq_iff]

/-! ### Demould -/

@[simp] theorem State.tables_startAttempt (s : State) (st : Fin 6) (j : Nat) : (s.startAttempt st j).tables = s.tables := by
  unfold State.startAttempt
  split <;> simp

@[simp] theorem State.tables_pressOpen (s : State) (st : Fin 6) : (s.pressOpen st).tables = s.tables := by
  simp [State.pressOpen, apply_ite State.tables]

@[simp] theorem State.tables_endCycle (s : State) (st : Fin 6) (e : Ending) (t : Time) : (s.endCycle st e t).tables = s.tables := by
  unfold State.endCycle
  split <;> simp [apply_ite State.tables]

@[simp] theorem State.tables_takeOutcome (s : State) (st : Fin 6) (o : AttemptOutcome) : (s.takeOutcome st o).tables = s.tables := by
  simp [State.takeOutcome]

@[simp] theorem State.tables_retractComplete (s : State) (st : Fin 6) (c : Context) : (s.retractComplete st c).tables = s.tables := by
  simp [State.retractComplete, apply_ite State.tables]

@[simp] theorem State.tables_judgeEject (s : State) (st : Fin 6) (m : EjectSample) : (s.judgeEject st m).tables = s.tables := by
  unfold State.judgeEject
  repeat' split
  all_goals simp

@[simp] theorem State.tables_ejectWork (s : State) (st : Fin 6) (m : EjectSample) : (s.ejectWork st m).tables = s.tables := by
  simp [State.ejectWork, apply_ite State.tables, Station.tables_eq_iff]

@[simp] theorem State.tables_openExpired (s : State) (st : Fin 6) (t : Time) : (s.openExpired st t).tables = s.tables := by
  simp [State.openExpired]

@[simp] theorem State.tables_attemptExpired (s : State) (st : Fin 6) (c : Context) (t : Time) :
    (s.attemptExpired st c t).tables = s.tables := by
  unfold State.attemptExpired
  split <;> simp

/-! ### Cure -/

@[simp] theorem State.tables_endCure (s : State) (st : Fin 6) (t : Time) : (s.endCure st t).tables = s.tables := by
  simp [State.endCure]

@[simp] theorem State.tables_cureRound (s : State) (st : Fin 6) : (s.cureRound st).tables = s.tables := by
  unfold State.cureRound
  split
  · rfl
  · dsimp only
    rw [apply_ite State.tables]
    simp only [State.tables_endCure, ite_self]
    refine (State.tables_foldl _ (fun u g => ?_) _ _).trans (State.tables_modCtx _ _ _)
    split
    · exact State.tables_resolveOne u st g
    · rfl

@[simp] theorem State.tables_wallMinExpired (s : State) (st : Fin 6) (c : Context) (t : Time) :
    (s.wallMinExpired st c t).tables = s.tables := by
  simp [State.wallMinExpired, apply_ite State.tables]

@[simp] theorem State.tables_wallMaxExpired (s : State) (st : Fin 6) (t : Time) : (s.wallMaxExpired st t).tables = s.tables := by
  simp [State.wallMaxExpired]

/-! ### Rounds -/

@[simp] theorem State.tables_noteFault (s : State) (st : Fin 6) (start : StationState) (i : Fin 16) :
    (s.noteFault st start i).tables = s.tables := by
  simp [State.noteFault, apply_ite State.tables]

@[simp] theorem State.tables_superviseFaults (s : State) (st : Fin 6) (start : StationState) :
    (s.superviseFaults st start).tables = s.tables := by
  unfold State.superviseFaults
  simp [State.tables_foldl _ fun u i => State.tables_noteFault u st start i, Station.tables_eq_iff]

@[simp] theorem State.tables_supervisePlatens (s : State) (st : Fin 6) : (s.supervisePlatens st).tables = s.tables := by
  simp [State.supervisePlatens, apply_ite State.tables, Station.tables_eq_iff]

@[simp] theorem State.tables_supervise (s : State) (st : Fin 6) (start : StationState) (ramping : Vector Bool 4) :
    (s.supervise st start ramping).tables = s.tables := by
  simp [State.supervise, apply_ite State.tables]

@[simp] theorem State.tables_readyTest (s : State) (st : Fin 6) (ramping : Vector Bool 4) : (s.readyTest st ramping).tables = s.tables := by
  simp [State.readyTest, apply_ite State.tables, Station.tables_eq_iff]

@[simp] theorem State.tables_zeroDuty (s : State) (st : Fin 6) (n : Half) : (s.zeroDuty st n).tables = s.tables := by
  simp [State.zeroDuty, apply_ite State.tables, Station.tables_eq_iff]

@[simp] theorem State.tables_offlineRound (s : State) (st : Fin 6) (m : HeatSample) : (s.offlineRound st m).tables = s.tables := by
  simp [State.offlineRound, apply_ite State.tables, Station.tables_eq_iff]

@[simp] theorem State.tables_fullRound (s : State) (st : Fin 6) (m : HeatSample) : (s.fullRound st m).tables = s.tables := by
  simp [State.fullRound, apply_ite State.tables]

@[simp] theorem State.tables_heatWork (s : State) (st : Fin 6) (m : HeatSample) : (s.heatWork st m).tables = s.tables := by
  simp [State.heatWork, apply_ite State.tables]

/-! ### Answers -/

@[simp] theorem State.tables_answerTare (s : State) (code : Result) (body : List Byte) : (s.answerTare code body).tables = s.tables := by
  unfold State.answerTare
  split
  · rfl
  · rfl

/-! ### Weigher -/

@[simp] theorem State.tables_rejectCharge (s : State) (reason : RejectReason) (total : Int) (time : Time) :
    (s.rejectCharge reason total time).tables = s.tables := by
  unfold State.rejectCharge
  split <;> simp

@[simp] theorem State.tables_rejectWaited (s : State) (time : Time) : (s.rejectWaited time).tables = s.tables := by
  simp [State.rejectWaited]

@[simp] theorem State.tables_acceptCharge (s : State) (v : Int) : (s.acceptCharge v).tables = s.tables := by
  unfold State.acceptCharge
  split <;> simp

@[simp] theorem State.tables_decidePiece (s : State) (v : Int) : (s.decidePiece v).tables = s.tables := by
  unfold State.decidePiece
  split <;> simp

@[simp] theorem State.tables_settleEnd (s : State) (v : Int) : (s.settleEnd v).tables = s.tables := by
  simp [State.settleEnd, apply_ite State.tables]

@[simp] theorem State.tables_startSettle (s : State) (net : Int) : (s.startSettle net).tables = s.tables := by
  simp [State.startSettle]

@[simp] theorem State.tables_finishClear (s : State) : (s.finishClear).tables = s.tables := by
  simp [State.finishClear]

@[simp] theorem State.tables_clearSample (s : State) : (s.clearSample).tables = s.tables := by
  unfold State.clearSample
  dsimp only
  split <;> simp

@[simp] theorem State.tables_endTaring (s : State) (tare : Int) (code : Result) (body : List Byte) :
    (s.endTaring tare code body).tables = s.tables := by
  simp [State.endTaring]

@[simp] theorem State.tables_raiseWeigherFault (s : State) (c : WeigherCause) (left : WeigherState) (st : Option (Fin 6)) :
    (s.raiseWeigherFault c left st).tables = s.tables := by
  simp [State.raiseWeigherFault]

@[simp] theorem State.tables_enterFault (s : State) (c : WeigherCause) (time : Time) : (s.enterFault c time).tables = s.tables := by
  unfold State.enterFault
  dsimp only
  split
  · split <;> simp [Weigher.enterFault]
  · simp [apply_ite State.tables, Weigher.enterFault]

@[simp] theorem State.tables_takeWeigherCause (s : State) (c : WeigherCause) (time : Time) :
    (s.takeWeigherCause c time).tables = s.tables := by
  simp [State.takeWeigherCause, apply_ite State.tables]

@[simp] theorem State.tables_markSlow (s : State) : (s.markSlow).tables = s.tables := by
  unfold State.markSlow
  split <;> simp

@[simp] theorem State.tables_actOnNet (s : State) (net : Int) : (s.actOnNet net).tables = s.tables := by
  unfold State.actOnNet
  dsimp only
  repeat' split
  all_goals simp

theorem Weigher.settings_note (w : Weigher) (m : WeighSample) (now : Time) : (w.note m now).settings = w.settings := by
  simp [Weigher.note, apply_ite Weigher.settings]

theorem Weigher.settings_feed (w : Weigher) (net : Int) : (w.feed net).settings = w.settings := rfl

@[simp] theorem State.tables_newWeighSample (s : State) (m : WeighSample) : (s.newWeighSample m).tables = s.tables := by
  unfold State.newWeighSample
  dsimp only
  split <;> simp [apply_ite State.tables, Weigher.settings_note, Weigher.settings_feed]

@[simp] theorem State.tables_weighWork (s : State) (m : WeighSample) : (s.weighWork m).tables = s.tables := by
  simp [State.weighWork, apply_ite State.tables]

@[simp] theorem State.tables_pieceWaitExpired (s : State) (t : Time) : (s.pieceWaitExpired t).tables = s.tables := by
  unfold State.pieceWaitExpired
  split <;> simp

@[simp] theorem State.tables_settleExpired (s : State) (t : Time) : (s.settleExpired t).tables = s.tables := by
  unfold State.settleExpired
  split <;> simp

@[simp] theorem State.tables_clearExpired (s : State) (t : Time) : (s.clearExpired t).tables = s.tables := by
  unfold State.clearExpired
  split <;> simp

/-! ### Station -/

@[simp] theorem State.tables_comparePermit (s : State) (st : Fin 6) (echo : Permission) : (s.comparePermit st echo).tables = s.tables := by
  simp [State.comparePermit, apply_ite State.tables]

@[simp] theorem State.tables_callToReady (s : State) (st : Fin 6) : (s.callToReady st).tables = s.tables := by
  simp [State.callToReady]

@[simp] theorem State.tables_closePress (s : State) (st : Fin 6) : (s.closePress st).tables = s.tables := by
  simp [State.closePress]

@[simp] theorem State.tables_watchPressure (s : State) (st : Fin 6) (tonnage : Nat) : (s.watchPressure st tonnage).tables = s.tables := by
  unfold State.watchPressure
  split <;> simp [apply_ite State.tables]

@[simp] theorem State.tables_watchOpening (s : State) (st : Fin 6) (ram : Nat) : (s.watchOpening st ram).tables = s.tables := by
  unfold State.watchOpening
  split <;> simp [apply_ite State.tables]

@[simp] theorem State.tables_testPress (s : State) (st : Fin 6) (m : PressSample) : (s.testPress st m).tables = s.tables := by
  unfold State.testPress
  split <;> simp [apply_ite State.tables]

@[simp] theorem State.tables_pressWork (s : State) (st : Fin 6) (m : PressSample) : (s.pressWork st m).tables = s.tables := by
  unfold State.pressWork
  simp [apply_ite State.tables, Station.tables_eq_iff, Station.notePress]

@[simp] theorem State.tables_holdExpired (s : State) (st : Fin 6) : (s.holdExpired st).tables = s.tables := by
  simp [State.holdExpired, apply_ite State.tables, Station.tables_eq_iff]

theorem State.tables_startStation (s : State) (st : Fin 6) {t : State} (h : s.startStation st = .ok t) : t.tables = s.tables := by
  unfold State.startStation at h
  split at h
  · cases h
  · cases h
  · cases h; simp [Station.tables_eq_iff]

@[simp] theorem State.tables_stopStation (s : State) (st : Fin 6) : (s.stopStation st).tables = s.tables := by
  simp [State.stopStation, apply_ite State.tables, Station.tables_eq_iff]

@[simp] theorem State.tables_abortCycle (s : State) (st : Fin 6) : (s.abortCycle st).tables = s.tables := by
  simp [State.abortCycle]

theorem State.tables_abortStation (s : State) (st : Fin 6) {t : State} (h : s.abortStation st = .ok t) : t.tables = s.tables := by
  unfold State.abortStation at h
  split at h
  case h_1 | h_2 => cases h
  all_goals cases h; simp [Station.tables_eq_iff]

theorem State.tables_parkStation (s : State) (st : Fin 6) {t : State} (h : s.parkStation st = .ok t) : t.tables = s.tables := by
  unfold State.parkStation at h
  split at h <;> cases h <;> simp

theorem State.tables_unparkStation (s : State) (st : Fin 6) {t : State} (h : s.unparkStation st = .ok t) : t.tables = s.tables := by
  unfold State.unparkStation at h
  split at h <;> cases h <;> simp

theorem State.tables_onlineStation (s : State) (st : Fin 6) {t : State} (h : s.onlineStation st = .ok t) : t.tables = s.tables := by
  unfold State.onlineStation at h
  split at h
  · cases h
  · split at h
    · cases h; simp
    · cases h

@[simp] theorem State.tables_enterOffline (s : State) (st : Fin 6) : (s.enterOffline st).tables = s.tables := by
  simp [State.enterOffline, apply_ite State.tables, Station.tables_eq_iff]

theorem State.tables_offlineStation (s : State) (st : Fin 6) {t : State} (h : s.offlineStation st = .ok t) : t.tables = s.tables := by
  unfold State.offlineStation at h
  split at h
  case h_5 | h_6 =>
    split at h
    · cases h
    · cases h; simp
  case h_7 => cases h
  all_goals cases h; simp

/-- BIND writes the bound recipe (R24). -/
theorem State.tables_bindStation (s : State) (st : Fin 6) (recipe : Fin 16) {t : State} (h : s.bindStation st recipe = .ok t) :
    t.tables = (s.modStation st fun x => { x with boundRecipe := recipe }).tables := by
  unfold State.bindStation at h
  dsimp only at h
  split at h
  · cases h
  · split at h
    · cases h; simp
    · split at h
      · cases h; simp
      · cases h; rfl

theorem State.tables_clearStation (s : State) (st : Fin 6) {t : State} (h : s.clearStation st = .ok t) : t.tables = s.tables := by
  unfold State.clearStation at h
  split at h <;> cases h <;> simp

end Sys2Proof.Machine
end

section
/-! PROOFS. What each command may change of the queue, the address, the time base, the mode, the tables and the mask: `Instr.owns` names the
items of each command, and a command leaves every other item as it was. -/

namespace Sys2Proof

/-- What only few commands change. -/
inductive Item where
  | queue | address | time | mode | routes | settings | bound | entries | shadow | live | recipes | rates | weigher | store | mask

open Machine

/-- The item is the same in two states. -/
def Item.Same (s t : State) : Item → Prop
  | .queue => t.pending = s.pending
  | .address => t.nodeAddress = s.nodeAddress
  | .time => t.now = s.now
  | .mode => t.mode = s.mode
  | .routes => t.port.routes = s.port.routes
  | .settings => ∀ st : Fin 6, (t.station st).settings = (s.station st).settings
  | .bound => ∀ st : Fin 6, (t.station st).boundRecipe = (s.station st).boundRecipe
  | .entries => ∀ (st : Fin 6) (z : Fin 16), ((t.station st).zones[z]).entry = ((s.station st).zones[z]).entry
  | .shadow => t.profilesShadow = s.profilesShadow
  | .live => t.profilesLive = s.profilesLive
  | .recipes => t.recipes = s.recipes
  | .rates => t.rates = s.rates
  | .weigher => t.weigher.settings = s.weigher.settings
  | .store => t.store.settings = s.store.settings
  | .mask => t.port.mask = s.port.mask

/-- The item a request writes. -/
def Request.owns : Request → Item → Prop
  | .modeSet _, .mode | .entryWriteRoute _ _, .routes | .entryWriteStation _ _ _, .settings | .bind _ _, .bound
  | .entryWriteZone _ _ _, .entries | .entryWriteProfile _ _, .shadow | .profilesApply, .live | .entryWriteRecipe _ _, .recipes
  | .entryWriteRate _ _ _, .rates | .entryWriteWeigher _, .weigher | .entryWriteHistory _, .store | .auto _, .store
  | .noticeMask _, .mask => True
  | _, _ => False

/-- The items a command may change. A raw frame may carry any request; a restart sets mode and time base. -/
def Instr.owns : Instr → Item → Prop
  | .powerOnReset _, x => x ≠ .queue
  | .ringInFrame _, x => x ≠ .queue ∧ x ≠ .address ∧ x ≠ .time
  | .transmissionEnd, .mode | .transmissionEnd, .time | .restartTakeEffect, .mode | .restartTakeEffect, .time => True
  | i, x => ∃ h r, i.request? = some (h, r) ∧ r.owns x

namespace Item

theorem Same.refl (s : State) (x : Item) : x.Same s s := by cases x <;> simp [Item.Same]

theorem Same.trans {s t u : State} {x : Item} (h₁ : x.Same s t) (h₂ : x.Same t u) : x.Same s u := by
  cases x with
  | settings | bound => exact fun st => (h₂ st).trans (h₁ st)
  | entries => exact fun st z => (h₂ st z).trans (h₁ st z)
  | _ => exact Eq.trans h₂ h₁

/-- The line and the tables of the cell are every item. -/
theorem same_of_line {s t : State} (hl : t.line = s.line) (ht : t.tables = s.tables) (x : Item) : x.Same s t := by
  have hst := fun st => Station.tables_eq_iff.mp (State.stationTables_of_tables ht st)
  cases x with
  | queue => exact State.pending_of_line hl
  | address => exact State.nodeAddress_of_line hl
  | time => exact State.now_of_line hl
  | mode => exact State.mode_of_line hl
  | routes => exact State.routes_of_line hl
  | settings => exact fun st => (hst st).1
  | bound => exact fun st => (hst st).2.1
  | entries => exact fun st => (hst st).2.2
  | shadow => exact State.profilesShadow_of_line hl
  | live => exact State.profilesLive_of_line hl
  | recipes => exact State.recipes_of_line hl
  | rates => exact State.rates_of_line hl
  | weigher => exact State.weigherSettings_of_tables ht
  | store => exact State.storeSettings_of_tables ht
  | mask => exact State.mask_of_line hl

/-- A change of the port that leaves routes and mask is no change of an item. -/
theorem same_of_port {s : State} {p : Port} (hr : p.routes = s.port.routes) (hm : p.mask = s.port.mask) (x : Item) :
    x.Same s { s with port := p } := by
  cases x with
  | settings | bound => exact fun _ => rfl
  | entries => exact fun _ _ => rfl
  | routes => exact hr
  | mask => exact hm
  | _ => rfl

theorem same_of_routes {s : State} {p : Port} {x : Item} (hx : x ≠ .routes) (hm : p.mask = s.port.mask) : x.Same s { s with port := p } := by
  cases x with
  | routes => exact absurd rfl hx
  | settings | bound => exact fun _ => rfl
  | entries => exact fun _ _ => rfl
  | mask => exact hm
  | _ => rfl

theorem same_of_mask {s : State} {p : Port} {x : Item} (hx : x ≠ .mask) (hr : p.routes = s.port.routes) : x.Same s { s with port := p } := by
  cases x with
  | mask => exact absurd rfl hx
  | settings | bound => exact fun _ => rfl
  | entries => exact fun _ _ => rfl
  | routes => exact hr
  | _ => rfl

/-- A write of a station's settings, bound recipe or zones leaves the items that are not of a station. -/
theorem same_of_modStation {s : State} {st : Fin 6} {f : Station → Station} {x : Item}
    (hs : x = .settings → (f (s.station st)).settings = (s.station st).settings)
    (hb : x = .bound → (f (s.station st)).boundRecipe = (s.station st).boundRecipe)
    (hz : x = .entries → ∀ z : Fin 16, ((f (s.station st)).zones[z]).entry = ((s.station st).zones[z]).entry) :
    x.Same s (s.modStation st f) := by
  have hread : ∀ sx, (s.modStation st f).station sx = if sx = st then f (s.station st) else s.station sx := fun sx =>
    State.station_setStation s st sx _
  cases x with
  | settings => intro sx; rw [hread]; split <;> simp_all
  | bound => intro sx; rw [hread]; split <;> simp_all
  | entries => intro sx; rw [hread]; split <;> simp_all
  | _ => rfl

/-! ### Writes of one table -/

theorem same_withMode (s : State) (k : Mode) {x : Item} (hx : x ≠ .mode) : x.Same s { s with mode := k } := by
  cases x with
  | mode => exact absurd rfl hx
  | settings | bound => exact fun _ => rfl
  | entries => exact fun _ _ => rfl
  | _ => rfl

theorem same_withShadow (s : State) (p : Vector Profile 16) {x : Item} (hx : x ≠ .shadow) : x.Same s { s with profilesShadow := p } := by
  cases x with
  | shadow => exact absurd rfl hx
  | settings | bound => exact fun _ => rfl
  | entries => exact fun _ _ => rfl
  | _ => rfl

theorem same_withLive (s : State) (p : Vector Profile 16) {x : Item} (hx : x ≠ .live) : x.Same s { s with profilesLive := p } := by
  cases x with
  | live => exact absurd rfl hx
  | settings | bound => exact fun _ => rfl
  | entries => exact fun _ _ => rfl
  | _ => rfl

theorem same_withRecipes (s : State) (r : Vector Recipe 16) {x : Item} (hx : x ≠ .recipes) : x.Same s { s with recipes := r } := by
  cases x with
  | recipes => exact absurd rfl hx
  | settings | bound => exact fun _ => rfl
  | entries => exact fun _ _ => rfl
  | _ => rfl

theorem same_withRates (s : State) (r : Vector (Vector Nat 32) 4) {x : Item} (hx : x ≠ .rates) : x.Same s { s with rates := r } := by
  cases x with
  | rates => exact absurd rfl hx
  | settings | bound => exact fun _ => rfl
  | entries => exact fun _ _ => rfl
  | _ => rfl

end Item

namespace Machine

/-! ### Requests -/

@[simp] theorem State.tables_answer (s : State) (a b k : Byte) (c : Result) (d : List Byte) (r : Bool) :
    (s.answer a b k c d r).tables = s.tables := rfl

theorem State.tables_onStation {s : State} (n : Nat) {f : Fin 6 → Except Result State} (h : ∀ st t, f st = .ok t → t.tables = s.tables) :
    (s.onStation n f).state.tables = s.tables := by
  obtain e | ⟨st, e⟩ := s.onStation_cases n f
  · rw [e]
  · exact h st _ e

theorem State.same_onStation {s : State} (n : Nat) {f : Fin 6 → Except Result State} (hl : ∀ st t, f st = .ok t → t.line = s.line)
    (ht : ∀ st t, f st = .ok t → t.tables = s.tables) (x : Item) : x.Same s (s.onStation n f).state :=
  Item.same_of_line (State.line_onStation n hl) (State.tables_onStation n ht) x

@[simp] theorem State.tables_moveCursor (s : State) (p : Time) : (s.moveCursor p).tables = s.tables := by simp [State.moveCursor]

@[simp] theorem State.tables_historyReply (s : State) (c : Result) (b : List Byte) : (s.historyReply c b).state.tables = s.tables := rfl

@[simp] theorem State.tables_releaseRecords (s : State) : s.releaseRecords.tables = s.tables := by
  simp [State.releaseRecords, apply_ite State.tables, Store.release]

@[simp] theorem State.tables_appendLotMark (s : State) (src : Byte) (l : Nat) : (s.appendLotMark src l).tables = s.tables := by
  simp [State.appendLotMark]

@[simp] theorem State.tables_serveHistoryRead (s : State) (src : Byte) : (s.serveHistoryRead src).state.tables = s.tables := by
  simp [State.serveHistoryRead, apply_ite Reply.state, apply_ite State.tables, State.startRead]

@[simp] theorem State.tables_serveHistorySpace (s : State) (d n : Nat) : (s.serveHistorySpace d n).state.tables = s.tables := by
  unfold State.serveHistorySpace State.spaceTo
  split
  · simp
  · split
    · simp
    · split <;> simp

@[simp] theorem State.tables_serveHistoryRewind (s : State) : s.serveHistoryRewind.state.tables = s.tables := by
  simp [State.serveHistoryRewind, apply_ite Reply.state, apply_ite State.tables]

@[simp] theorem State.tables_serveHistoryRelease (s : State) : s.serveHistoryRelease.state.tables = s.tables := by
  simp [State.serveHistoryRelease, apply_ite Reply.state, apply_ite State.tables]

@[simp] theorem State.tables_serveLotMark (s : State) (src : Byte) (l : Nat) : (s.serveLotMark src l).state.tables = s.tables := by
  simp [State.serveLotMark, apply_ite Reply.state, apply_ite State.tables]

@[simp] theorem State.tables_serveZoneClear (s : State) (n z : Nat) : (s.serveZoneClear n z).state.tables = s.tables := by
  unfold State.serveZoneClear
  split
  · next st i _ _ =>
    split
    · rfl
    · refine State.tables_modStation (Station.tables_eq_iff.mpr ?_)
      unfold Station.clearZone
      dsimp only
      refine ⟨by split <;> rfl, by split <;> rfl, fun j => ?_⟩
      rw [apply_ite Station.zones, ite_self]
      by_cases h : i.val = j.val <;> simp [h]
  · rfl

@[simp] theorem State.tables_serveReset (s : State) : s.serveReset.state.tables = s.tables := by
  simp [State.serveReset, State.resetWeigher, refuse, taken, apply_ite Reply.state, apply_ite State.tables]

/-- A write that sets one field, or is refused. -/
theorem Item.same_of_eq_or {s t u : State} {x : Item} (h : t = s ∨ t = u) (hu : x.Same s u) : x.Same s t := by
  obtain rfl | rfl := h
  · exact .refl _ x
  · exact hu

theorem State.same_serveModeSet (s : State) (m : Nat) {x : Item} (hx : x ≠ .mode) : x.Same s (s.serveModeSet m).state := by
  unfold State.serveModeSet
  split
  · split
    · exact .refl s x
    · exact Item.same_withMode s .config hx
  · show x.Same s (if s.mode = .run then s else _)
    split
    · exact .refl s x
    · exact (Item.same_withMode s .run hx).trans (Item.same_of_line (State.line_consider _) (State.tables_consider _) x)
  · exact .refl s x

/-- A route write changes routes, silence and slate of the port alone. -/
theorem State.replaceRoute_eq (s : State) (i : Fin 32) (e : RouteEntry) :
    ∃ slate, s.replaceRoute i e = { s with port := { s.port with
      slate := slate, routes := s.port.routes.set i e, silence := s.port.silence.set i (silenceOf e s.now) } } := by
  unfold State.replaceRoute Port.dropCommands State.modPort
  dsimp only
  split
  · split
    · exact ⟨_, rfl⟩
    · exact ⟨_, rfl⟩
  · exact ⟨_, rfl⟩

theorem State.same_writeRoute (s : State) (n : Nat) (w : RouteWrite) {x : Item} (hx : x ≠ .routes) : x.Same s (s.writeRoute n w).state := by
  unfold State.writeRoute
  split
  · exact .refl s x
  · next i _ =>
    split
    · exact .refl s x
    · split
      · obtain ⟨slate, e⟩ := s.replaceRoute_eq i (routeEntryOf w)
        show x.Same s (s.replaceRoute i (routeEntryOf w))
        rw [e]
        exact Item.same_of_routes hx rfl
      · exact .refl s x

theorem State.same_writeStation (s : State) (n : Nat) (w : StationSettings) {x : Item} (hx : x ≠ .settings) :
    x.Same s (s.writeStation n w).state := by
  unfold State.writeStation
  split
  · exact .refl s x
  · split
    · exact .refl s x
    · split
      · exact Item.same_of_modStation (fun h => absurd h hx) (fun _ => rfl) (fun _ _ => rfl)
      · exact .refl s x

/-- A zone write changes zones and lost flags of a station alone. -/
theorem Station.rewriteZone_eq (y : Station) (i : Fin 16) (e : ZoneEntry) :
    ∃ lost, y.rewriteZone i e = { y with zones := y.zones.set i ((y.zones[i]).rewrite e), lost := lost } := by
  unfold Station.rewriteZone
  dsimp only
  split
  · exact ⟨_, rfl⟩
  · exact ⟨_, rfl⟩

theorem State.same_writeZone (s : State) (n z : Nat) (w : ZoneWrite) {x : Item} (hx : x ≠ .entries) :
    x.Same s (s.writeZone n z w).state := by
  unfold State.writeZone
  split
  · next st i _ _ =>
    split
    · exact .refl s x
    · split
      · next e _ =>
        obtain ⟨lost, he⟩ := (s.station st).rewriteZone_eq i e
        exact Item.same_of_modStation (fun _ => by rw [he]) (fun _ => by rw [he]) (fun h => absurd h hx)
      · exact .refl s x
  · exact .refl s x

theorem State.same_serveBind (s : State) (n b : Nat) {x : Item} (hx : x ≠ .bound) : x.Same s (s.serveBind n b).state := by
  unfold State.serveBind State.onStation
  split
  · exact .refl s x
  · next st _ =>
    split
    · exact .refl s x
    · next k _ =>
      unfold State.settle
      split
      · next t e =>
        have hbound : x.Same s (s.modStation st fun y => { y with boundRecipe := k }) :=
          Item.same_of_modStation (fun _ => rfl) (fun h => absurd h hx) (fun _ _ => rfl)
        exact hbound.trans (Item.same_of_line (s := s.modStation st _) (State.line_bindStation s st k e) (State.tables_bindStation s st k e) x)
      · exact .refl s x

theorem State.same_writeProfile (s : State) (n : Nat) (w : Profile) {x : Item} (hx : x ≠ .shadow) :
    x.Same s (s.writeProfile n w).state := by
  unfold State.writeProfile
  split
  · exact .refl s x
  · split
    · exact Item.same_withShadow s _ hx
    · exact .refl s x

theorem State.tables_replaceRecipe (s : State) (n : Fin 16) (r : Recipe) : (s.replaceRecipe n r).tables = { s with recipes := s.recipes.set n r }.tables :=
  State.tables_foldl _ (fun t st => by simp [apply_ite State.tables]) _ _

theorem State.tables_applyProfiles (s : State) : s.applyProfiles.tables = s.tables :=
  State.tables_foldl _ (fun t st => State.tables_rereadGroups t st) _ _

theorem State.same_writeRecipe (s : State) (n : Nat) (w : RecipeWrite) {x : Item} (hx : x ≠ .recipes) :
    x.Same s (s.writeRecipe n w).state := by
  unfold State.writeRecipe
  split
  · exact .refl s x
  · next i _ =>
    split
    · next r _ =>
      dsimp only [taken]
      have hlooks : x.Same { s with recipes := s.recipes.set i r } (s.replaceRecipe i r) :=
        Item.same_of_line (s.line_replaceRecipe i r) (s.tables_replaceRecipe i r) x
      exact (Item.same_withRecipes s _ hx).trans hlooks
    · exact .refl s x

theorem State.same_writeRate (s : State) (t e f : Nat) {x : Item} (hx : x ≠ .rates) : x.Same s (s.writeRate t e f).state := by
  obtain ⟨rates, h⟩ : ∃ r, (s.writeRate t e f).state = { s with rates := r } := by
    unfold State.writeRate
    split
    · split
      · exact ⟨_, rfl⟩
      · exact ⟨s.rates, rfl⟩
    · exact ⟨s.rates, rfl⟩
  rw [h]
  exact Item.same_withRates s rates hx

theorem State.same_applyProfiles (s : State) {x : Item} (hx : x ≠ .live) : x.Same s s.applyProfiles :=
  (Item.same_withLive s _ hx).trans (Item.same_of_line s.line_applyProfiles s.tables_applyProfiles x)

theorem State.same_modWeigher (s : State) (f : Weigher → Weigher) {x : Item} (hx : x ≠ .weigher) : x.Same s (s.modWeigher f) := by
  cases x <;> simp [Item.Same] at hx ⊢

theorem State.same_modStore (s : State) (f : Store → Store) {x : Item} (hx : x ≠ .store) : x.Same s (s.modStore f) := by
  cases x <;> simp [Item.Same] at hx ⊢

theorem State.same_writeWeigher (s : State) (w : WeigherSettings) {x : Item} (hx : x ≠ .weigher) : x.Same s (s.writeWeigher w).state := by
  unfold State.writeWeigher
  split
  · split
    · exact s.same_modWeigher _ hx
    · exact .refl s x
  · exact .refl s x

theorem State.same_writeHistory (s : State) (w : HistoryWrite) {x : Item} (hx : x ≠ .store) : x.Same s (s.writeHistory w).state := by
  unfold State.writeHistory
  split
  · exact .refl s x
  · split
    · exact .refl s x
    · exact (s.same_modStore _ hx).trans (Item.same_of_line (s := s.modStore _) ((State.line_testLow _).trans (State.line_testBacklog _))
        ((State.tables_testLow _).trans (State.tables_testBacklog _)) x)

theorem State.same_serveAuto (s : State) (o : Nat) {x : Item} (hx : x ≠ .store) : x.Same s (s.serveAuto o).state := by
  unfold State.serveAuto
  split
  · exact (s.same_modStore _ hx).trans (State.same_modStore _ _ hx)
  · exact Item.same_of_line rfl rfl x

theorem State.same_serveNoticeMask (s : State) (m : Vector Nat 11) {x : Item} (hx : x ≠ .mask) :
    x.Same s (s.serveNoticeMask m).state := by
  unfold State.serveNoticeMask
  split
  · exact Item.same_of_mask hx (by simp only [Port.setMask])
  · exact .refl s x

/-- The answer of a request is no item. -/
theorem State.same_answer {s t : State} {x : Item} (a b k : Byte) (c : Result) (d : List Byte) (r : Bool) (h : x.Same s t) :
    x.Same s (t.answer a b k c d r) := h.trans (Item.same_of_port rfl rfl x)

/-- Serving a request leaves the items it does not own. -/
theorem State.same_serve (s : State) (h : ReqHeader) {r : Request} {x : Item} (hx : ¬r.owns x) : x.Same s (s.serve h r) := by
  have hne : ∀ {y}, r.owns y → x ≠ y := fun hy e => hx (e ▸ hy)
  cases r with
  | modeSet m => exact State.same_answer _ _ _ _ _ _ (s.same_serveModeSet m (hne trivial))
  | entryWriteRoute n w => exact State.same_answer _ _ _ _ _ _ (s.same_writeRoute n w (hne trivial))
  | entryWriteStation n w b => exact State.same_answer _ _ _ _ _ _ (s.same_writeStation n w (hne trivial))
  | entryWriteZone n z w => exact State.same_answer _ _ _ _ _ _ (s.same_writeZone n z w (hne trivial))
  | bind n b => exact State.same_answer _ _ _ _ _ _ (s.same_serveBind n b (hne trivial))
  | entryWriteProfile n w => exact State.same_answer _ _ _ _ _ _ (s.same_writeProfile n w (hne trivial))
  | entryWriteRecipe n w => exact State.same_answer _ _ _ _ _ _ (s.same_writeRecipe n w (hne trivial))
  | entryWriteRate t e f => exact State.same_answer _ _ _ _ _ _ (s.same_writeRate t e f (hne trivial))
  | profilesApply => exact State.same_answer _ _ _ _ _ _ (s.same_applyProfiles (hne trivial))
  | entryWriteWeigher w => exact State.same_answer _ _ _ _ _ _ (s.same_writeWeigher w (hne trivial))
  | entryWriteHistory w => exact State.same_answer _ _ _ _ _ _ (s.same_writeHistory w (hne trivial))
  | auto o => exact State.same_answer _ _ _ _ _ _ (s.same_serveAuto o (hne trivial))
  | noticeMask m => exact State.same_answer _ _ _ _ _ _ (s.same_serveNoticeMask m (hne trivial))
  | start n =>
    exact State.same_answer _ _ _ _ _ _ (State.same_onStation n (fun st t => State.line_startStation s st) (fun st t => State.tables_startStation s st) x)
  | abort n =>
    exact State.same_answer _ _ _ _ _ _ (State.same_onStation n (fun st t => State.line_abortStation s st) (fun st t => State.tables_abortStation s st) x)
  | park n =>
    exact State.same_answer _ _ _ _ _ _ (State.same_onStation n (fun st t => State.line_parkStation s st) (fun st t => State.tables_parkStation s st) x)
  | unpark n =>
    exact State.same_answer _ _ _ _ _ _ (State.same_onStation n (fun st t => State.line_unparkStation s st) (fun st t => State.tables_unparkStation s st) x)
  | online n =>
    exact State.same_answer _ _ _ _ _ _ (State.same_onStation n (fun st t => State.line_onlineStation s st) (fun st t => State.tables_onlineStation s st) x)
  | offline n =>
    exact State.same_answer _ _ _ _ _ _ (State.same_onStation n (fun st t => State.line_offlineStation s st) (fun st t => State.tables_offlineStation s st) x)
  | clear n =>
    exact State.same_answer _ _ _ _ _ _ (State.same_onStation n (fun st t => State.line_clearStation s st) (fun st t => State.tables_clearStation s st) x)
  | stop n =>
    exact State.same_answer _ _ _ _ _ _ (State.same_onStation n (fun st t e => by cases e; exact s.line_stopStation st)
      (fun st t e => by cases e; exact s.tables_stopStation st) x)
  | stationCommandUnknown c n =>
    exact State.same_answer _ _ _ _ _ _ (State.same_onStation n (fun st t e => by cases e) (fun st t e => by cases e) x)
  | tare =>
    refine Item.same_of_line (s.line_serve h rfl) ?_ x
    simp only [State.serve]
    split <;> rfl
  | entryReadRoute | entryReadStation | entryReadZone | entryReadProfile | entryReadRecipe | entryReadRate | statusStation | reset
  | zoneClear | historyRead | historySpace | historyRewind | historyRelease | lotMark =>
    exact Item.same_of_line (s.line_serve h rfl) (by simp [State.serve]) x
  | ping | restart | entryReadWeigher | entryReadHistory | weigherCommandUnknown | statusDevice | statusWeigher | statusStore | unknown
  | malformed => exact Item.same_of_line (s.line_serve h rfl) rfl x

end Machine
end Sys2Proof
end

section
/-! PROOFS. A command leaves what it does not own (`Instr.owns`): the part's own steps, the frames on ring-in, the requests. -/

namespace Sys2Proof.Machine

/-! ### The part's own steps -/

theorem SampleWork.tables {s t : State} (h : SampleWork s t) : t.tables = s.tables := by
  cases h <;> simp

theorem State.tables_withCtx {s : State} (st : Fin 6) {act : Context → State} (h : ∀ c, (act c).tables = s.tables) :
    (s.withCtx st act).tables = s.tables := by
  unfold State.withCtx
  cases s.ctx? st with
  | none => rfl
  | some c => exact h c

theorem State.same_onDue {s : State} {x : Item} (t : Timer) {act : State → Time → State} (hl : ∀ a, (act s a).line = s.line)
    (ht : ∀ a, (act s a).tables = s.tables) : x.Same s (s.onDue t act) := by
  unfold State.onDue
  split
  · exact Item.same_of_line (hl _) (ht _) x
  · exact .refl s x

@[simp] theorem State.tables_reportSilence (s : State) (e : RouteEntry) (t : Time) : (s.reportSilence e t).tables = s.tables := by
  unfold State.reportSilence
  split
  · simp
  · split
    · rfl
    · simp [apply_ite State.tables, Station.tables_eq_iff]

theorem State.same_becomeSilent (s : State) (i : Fin 32) (t : Time) (x : Item) : x.Same s (s.becomeSilent i t) := by
  refine Item.Same.trans (t := s.modPort fun p => { p with silence := p.silence.set i .silent }) (Item.same_of_port rfl rfl x) ?_
  exact Item.same_of_line ((State.line_reportSilence _ _ _).trans (State.line_raise _ _ _ _))
    ((State.tables_reportSilence _ _ _).trans (State.tables_raise _ _ _ _)) x

theorem State.same_placeReport (s : State) (c : ReportClaimant) (f : OutFrame) (x : Item) : x.Same s (s.placeReport c f) :=
  Item.same_of_port rfl rfl x

theorem State.same_placeNotice (s : State) (x : Item) : x.Same s s.placeNotice := by
  unfold State.placeNotice
  split
  · exact .refl s x
  · split
    · exact .refl s x
    · exact (s.same_placeReport _ _ x).trans (Item.same_of_port rfl rfl x)

theorem State.same_placeAnswer (s : State) (x : Item) : x.Same s s.placeAnswer := by
  unfold State.placeAnswer
  split
  · dsimp only
    split
    · refine (s.same_placeReport _ _ x).trans (Item.Same.trans (Item.same_of_port rfl rfl x) (Item.same_of_line rfl ?_ x))
      exact State.tables_modStore rfl
    · exact (s.same_placeReport _ _ x).trans (Item.same_of_port rfl rfl x)
  · exact .refl s x

@[simp] theorem Store.settings_finishSend (y : Store) (z : Sending) : (y.finishSend z).settings = y.settings := by
  unfold Store.finishSend; split <;> rfl

theorem State.same_placeSegment (s : State) (x : Item) : x.Same s s.placeSegment := by
  unfold State.placeSegment
  split
  · exact .refl s x
  next y _ =>
    split
    · exact (s.same_placeReport _ _ x).trans (Item.same_of_line rfl (State.tables_modStore rfl) x)
    · dsimp only
      split
      · refine (s.same_placeReport .sender (segmentFrame y 0 (s.store.segmentData y)) x).trans ?_
        refine Item.Same.trans ?_ (Item.same_of_line (State.line_testBacklog _) (State.tables_testBacklog _) x)
        exact Item.same_of_line (State.line_modStore _ _) (State.tables_modStore (Store.settings_finishSend _ _)) x
      · exact (s.same_placeReport _ _ x).trans (Item.same_of_line rfl (State.tables_modStore rfl) x)

theorem State.tables_announceRestart (y : Station) (s : State) (st : Fin 6) : (s.announceRestart y st).tables = s.tables := by
  simp [State.announceRestart, apply_ite State.tables]

theorem State.tables_appendRestartMark (s : State) : s.appendRestartMark.tables = s.tables := by
  have habandon : (s.modStore Store.abandon).tables = s.tables := State.tables_modStore rfl
  simp [State.appendRestartMark, apply_ite State.tables, habandon]

/-- A restart keeps the tables of the cell (R1, R97, R157). -/
theorem State.tables_clearRuntime (s : State) : s.clearRuntime.tables = s.tables := by
  have hst : ∀ st, (s.clearRuntime.station st).tables = (s.station st).tables := fun st => by
    simp [State.clearRuntime, State.station, Station.tables_eq_iff, Station.restarted, Zone.restarted]
  simp only [State.tables, hst]
  rfl

theorem State.tables_restart (s : State) : s.restart.tables = s.tables := by
  have hfold := State.tables_foldl (fun (u : State) st => u.announceRestart (s.station st) st)
    (fun u st => State.tables_announceRestart (s.station st) u st) (List.finRange 6) s.appendRestartMark.clearRuntime
  simp [State.restart, apply_ite State.tables, hfold, State.tables_clearRuntime, State.tables_appendRestartMark]

/-- The restart sets mode and time base, and keeps the rest. -/
theorem State.same_clearRuntime (s : State) {x : Item} (hm : x ≠ .mode) (ht : x ≠ .time) : x.Same s s.clearRuntime := by
  have hst := fun st => Station.tables_eq_iff.mp (State.stationTables_of_tables s.tables_clearRuntime st)
  cases x with
  | mode => exact absurd rfl hm
  | time => exact absurd rfl ht
  | settings => exact fun st => (hst st).1
  | bound => exact fun st => (hst st).2.1
  | entries => exact fun st => (hst st).2.2
  | _ => rfl

theorem State.same_restart (s : State) {x : Item} (hm : x ≠ .mode) (ht : x ≠ .time) : x.Same s s.restart := by
  have hmark : x.Same s s.appendRestartMark := Item.same_of_line s.line_appendRestartMark s.tables_appendRestartMark x
  refine (hmark.trans (State.same_clearRuntime _ hm ht)).trans (Item.same_of_line s.line_restart ?_ x)
  rw [State.tables_restart, State.tables_clearRuntime, State.tables_appendRestartMark]

/-! ### Frames and requests on ring-in -/

theorem State.same_forward (s : State) (f : Frame) (x : Item) : x.Same s (s.forward f) := by
  unfold State.forward
  split
  · exact Item.same_of_port rfl rfl x
  · exact .refl s x

theorem State.same_takeRequest (s : State) (h : ReqHeader) {r : Request} {x : Item} (hx : ¬r.owns x) : x.Same s (s.takeRequest h r) := by
  obtain e | e | ⟨-, e⟩ := s.takeRequest_cases h r
  · rw [e]; exact .refl s x
  · rw [e]; exact State.same_answer _ _ _ _ _ _ (.refl s x)
  · rw [e]; exact s.same_serve h hx

theorem State.same_ringRequest (s : State) (h : ReqHeader) {r : Request} {x : Item} (hx : ¬r.owns x) : x.Same s (s.ringRequest h r) := by
  obtain e | e | e := s.ringRequest_cases h r
  · rw [e]; exact .refl s x
  · rw [e]; exact s.same_forward _ x
  · rw [e]; exact s.same_takeRequest h hx

/-- A frame that carries no request leaves every item; one that may carry any leaves queue, address and time base. -/
theorem State.same_ringIn (s : State) (f : Frame) {x : Item} (hx : f.kind = kRequest → ∀ r : Request, ¬r.owns x) :
    x.Same s (s.ringIn f) :=
  State.ringIn_induction (.refl s x) (Item.same_of_port rfl rfl x) (fun t ht => ht.trans (t.same_forward f x))
    (fun key => Item.same_of_line (State.line_raise s _ key _) (State.tables_raise s _ key _) x)
    (fun i _ ht => (Item.same_of_port rfl rfl x).trans (Item.same_of_line (s := s.hearNode i) ht.line ht.tables x))
    (fun hk h r => s.same_takeRequest h (hx hk r))

theorem Request.not_owns_of_unowned {x : Item} (hx : x = .queue ∨ x = .address ∨ x = .time) (r : Request) : ¬r.owns x := by
  obtain rfl | rfl | rfl := hx <;> cases r <;> exact id

/-! ### Every command -/

/-- The work of a command leaves the items the command does not own. -/
theorem State.same_work (s : State) (i : Instr) {x : Item} (hx : ¬i.owns x) : x.Same s (s.work i) := by
  cases i with
  | powerOnReset k =>
    have : x = .queue := by simpa [Instr.owns] using hx
    subst this
    rfl
  | ringInFrame f =>
    refine s.same_ringIn f fun _ => Request.not_owns_of_unowned ?_
    by_contra h
    exact hx (by simpa [Instr.owns, not_or] using h)
  | heatSample f | pressSample f | ejectSample f | weighSample f => exact s.same_ringIn _ fun h => absurd h (by simp [SampleFrame.frame]; decide)
  | silenceExpiry e =>
    show x.Same s ((s.silenceDue? e).elim s (s.becomeSilent e))
    cases s.silenceDue? e with
    | none => exact .refl s x
    | some t => exact s.same_becomeSilent e t x
  | holdExpiry st => exact Item.same_of_line (by simp [State.work, apply_ite State.line]) (by simp [State.work, apply_ite State.tables]) x
  | loadTimeout st => exact State.same_onDue _ (fun _ => State.line_takeCause s st _) (fun _ => State.tables_takeCause s st _)
  | wallMinimumExpiry st =>
    exact State.same_onDue _ (fun t => State.line_withCtx st fun c => State.line_wallMinExpired s st c t)
      (fun t => State.tables_withCtx st fun c => State.tables_wallMinExpired s st c t)
  | wallMaximumExpiry st =>
    exact State.same_onDue _ (fun t => State.line_wallMaxExpired s st t) (fun t => State.tables_wallMaxExpired s st t)
  | openTimeout st => exact State.same_onDue _ (fun t => State.line_openExpired s st t) (fun t => State.tables_openExpired s st t)
  | attemptTimerExpiry st =>
    exact State.same_onDue _ (fun t => State.line_withCtx st fun c => State.line_attemptExpired s st c t)
      (fun t => State.tables_withCtx st fun c => State.tables_attemptExpired s st c t)
  | pieceWaitExpiry => exact State.same_onDue _ (fun t => State.line_pieceWaitExpired s t) (fun t => State.tables_pieceWaitExpired s t)
  | settleTimerExpiry => exact State.same_onDue _ (fun t => State.line_settleExpired s t) (fun t => State.tables_settleExpired s t)
  | clearTimerExpiry => exact State.same_onDue _ (fun t => State.line_clearExpired s t) (fun t => State.tables_clearExpired s t)
  | transmissionEnd =>
    have hm : x ≠ .mode := fun e => hx (e ▸ trivial)
    have ht : x ≠ .time := fun e => hx (e ▸ trivial)
    show x.Same s s.endTransmission
    unfold State.endTransmission
    split
    · exact s.same_restart hm ht
    · exact Item.same_of_port rfl rfl x
  | restartTakeEffect =>
    have hm : x ≠ .mode := fun e => hx (e ▸ trivial)
    have ht : x ≠ .time := fun e => hx (e ▸ trivial)
    simp only [State.work]
    split
    · exact s.same_restart hm ht
    · exact .refl s x
  | noticeEmit =>
    simp only [State.work]
    split
    · exact s.same_placeNotice x
    · exact .refl s x
  | segmentPlace =>
    simp only [State.work]
    split
    · exact s.same_placeSegment x
    · exact .refl s x
  | autoSendStart =>
    simp only [State.work]
    split
    · exact Item.same_of_line rfl (State.tables_modStore rfl) x
    · exact .refl s x
  | answerPartPlace =>
    simp only [State.work]
    split
    · exact s.same_placeAnswer x
    · exact .refl s x
  | _ => exact s.same_ringRequest _ fun h => hx ⟨_, _, rfl, h⟩

/-- Ring-out's turn changes no item. -/
theorem State.same_beginSend (s : State) (x : Item) : x.Same s s.beginSend := by
  obtain ⟨p, e, h⟩ := s.beginSend_spec
  rw [e]
  exact Item.same_of_port h.routes h.mask x

/-- A command leaves the items it does not own. -/
theorem same_exec {i : Instr} {s t : State} {x : Item} (hexec : exec i s = .next t) (hx : ¬i.owns x) : x.Same s t := by
  rw [exec_eq_work] at hexec
  cases hexec
  exact (s.same_work i hx).trans (State.same_beginSend _ x)

/-- The request a command carries, with its header, tells the command. -/
theorem Instr.eq_of_request? {i j : Instr} {x : ReqHeader × Request} (hi : i.request? = some x) (hj : j.request? = some x) : i = j := by
  cases i <;> cases hi <;> cases j <;> cases hj <;> rfl

/-- A command that is no reset, no raw frame and no restart owns what its request owns. -/
theorem not_owns_of_steps {i : Instr} {x : Item} (hend : i ≠ .transmissionEnd) (hrestart : i ≠ .restartTakeEffect)
    (hreset : ∀ k, i ≠ .powerOnReset k) (hframe : ∀ f, i ≠ .ringInFrame f) (hr : ∀ h r, i.request? = some (h, r) → ¬r.owns x) :
    ¬i.owns x := by
  cases i with
  | powerOnReset k => exact absurd rfl (hreset k)
  | ringInFrame f => exact absurd rfl (hframe f)
  | transmissionEnd => exact absurd rfl hend
  | restartTakeEffect => exact absurd rfl hrestart
  | _ => rintro ⟨h, r, e, hown⟩; exact hr h r e hown

/-- A command that is no reset and no raw frame owns of the tables what its request owns. -/
theorem not_owns_of_request {i : Instr} {x : Item} (hreset : ∀ k, i ≠ .powerOnReset k) (hframe : ∀ f, i ≠ .ringInFrame f)
    (hmode : x ≠ .mode) (htime : x ≠ .time) (hr : ∀ h r, i.request? = some (h, r) → ¬r.owns x) : ¬i.owns x := by
  by_cases hend : i = .transmissionEnd
  · subst hend
    cases x <;> simp [Instr.owns, Instr.request?] at hmode htime ⊢
  by_cases hrestart : i = .restartTakeEffect
  · subst hrestart
    cases x <;> simp [Instr.owns, Instr.request?] at hmode htime ⊢
  exact not_owns_of_steps hend hrestart hreset hframe hr

/-! ### The obligations -/

/-- Settles O3: a command answers its work after ring-out's turn, and no command owns the queue. -/
theorem everyCommandAnswersNext : Obligations.EveryCommandAnswersNext := by
  intro i s
  refine ⟨_, exec_eq_work i s, ?_⟩
  refine same_exec (x := .queue) (exec_eq_work i s) ?_
  cases i <;> simp [Instr.owns, Request.not_owns_of_unowned]

/-- Settles O60: the items of each conjunct, whose owners are the commands it leaves out. -/
theorem tablesChangeOnlyByTheirCommands : Obligations.TablesChangeOnlyByTheirCommands := by
  intro i s t hexec hreset
  have same : ∀ {x : Item}, ¬i.owns x → x.Same s t := fun hx => same_exec hexec hx
  refine ⟨same (x := .address) ?_, fun hend hrestart => same (x := .time) ?_, fun hframe => ?_⟩
  · cases i <;> simp [Instr.owns, Request.not_owns_of_unowned] at hreset ⊢
  · cases i <;> simp [Instr.owns, Request.not_owns_of_unowned] at hreset hend hrestart ⊢
  have table : ∀ {x : Item}, x ≠ .mode → x ≠ .time → (∀ h r, i.request? = some (h, r) → ¬r.owns x) → x.Same s t :=
    fun hm ht hr => same (not_owns_of_request hreset hframe hm ht hr)
  refine ⟨fun hend hrestart hset => same (x := .mode) ?_, fun hw => table (x := .routes) nofun nofun ?_,
    fun hw => table (x := .settings) nofun nofun ?_, fun hw => table (x := .bound) nofun nofun ?_,
    fun hw => table (x := .entries) nofun nofun ?_, fun hw => table (x := .shadow) nofun nofun ?_,
    fun hw => table (x := .live) nofun nofun ?_, fun hw => table (x := .recipes) nofun nofun ?_,
    fun hw => table (x := .rates) nofun nofun ?_, fun hw => table (x := .weigher) nofun nofun ?_,
    fun hw hauto => table (x := .store) nofun nofun ?_, fun hw => table (x := .mask) nofun nofun ?_⟩
  · refine not_owns_of_steps hend hrestart hreset hframe ?_
    rintro h r hr hown
    cases r with
    | modeSet m => exact hset h m (Instr.eq_of_request? hr rfl)
    | _ => exact hown
  · rintro h r hr hown
    cases r with
    | entryWriteRoute n w => exact hw h n w (Instr.eq_of_request? hr rfl)
    | _ => exact hown
  · rintro h r hr hown
    cases r with
    | entryWriteStation n w b => exact hw h n w b (Instr.eq_of_request? hr rfl)
    | _ => exact hown
  · rintro h r hr hown
    cases r with
    | bind n b => exact hw h n b (Instr.eq_of_request? hr rfl)
    | _ => exact hown
  · rintro h r hr hown
    cases r with
    | entryWriteZone n z w => exact hw h n z w (Instr.eq_of_request? hr rfl)
    | _ => exact hown
  · rintro h r hr hown
    cases r with
    | entryWriteProfile n w => exact hw h n w (Instr.eq_of_request? hr rfl)
    | _ => exact hown
  · rintro h r hr hown
    cases r with
    | profilesApply => exact hw h (Instr.eq_of_request? hr rfl)
    | _ => exact hown
  · rintro h r hr hown
    cases r with
    | entryWriteRecipe n w => exact hw h n w (Instr.eq_of_request? hr rfl)
    | _ => exact hown
  · rintro h r hr hown
    cases r with
    | entryWriteRate t e f => exact hw h t e f (Instr.eq_of_request? hr rfl)
    | _ => exact hown
  · rintro h r hr hown
    cases r with
    | entryWriteWeigher w => exact hw h w (Instr.eq_of_request? hr rfl)
    | _ => exact hown
  · rintro h r hr hown
    cases r with
    | entryWriteHistory w => exact hw h w (Instr.eq_of_request? hr rfl)
    | auto o => exact hauto h o (Instr.eq_of_request? hr rfl)
    | _ => exact hown
  · rintro h r hr hown
    cases r with
    | noticeMask m => exact hw h m (Instr.eq_of_request? hr rfl)
    | _ => exact hown

end Sys2Proof.Machine
end

section
/-! PROOFS. Searching the numbers below a bound, the numbers the wire carries, and what the route table answers (R170, R172, R174). -/

namespace Sys2Proof.Machine

/-- The first number that has a property. -/
theorem find?_finRange_eq_some {n : Nat} {p : Fin n → Bool} {i : Fin n} :
    (List.finRange n).find? p = some i ↔ p i = true ∧ ∀ j, j < i → p j = false := by
  rw [List.find?_eq_some_iff_getElem]
  simp only [List.getElem_finRange, Fin.cast_mk, Bool.not_eq_true', List.length_finRange]
  constructor
  · rintro ⟨hp, k, hk, rfl, hbelow⟩
    exact ⟨hp, fun j hj => hbelow j.val hj⟩
  · rintro ⟨hp, hbelow⟩
    exact ⟨hp, i.val, i.isLt, rfl, fun j hj => hbelow ⟨j, by omega⟩ hj⟩

theorem find?_finRange_eq_none {n : Nat} {p : Fin n → Bool} : (List.finRange n).find? p = none ↔ ∀ i, p i = false := by
  simp

/-! ### Numbers of stations, zones, entries and tables -/

@[simp] theorem stationOf?_val (st : Fin 6) : stationOf? st.val = some st := by simp [stationOf?]

@[simp] theorem zoneOf?_val (i : Fin 16) : zoneOf? i.val = some i := by simp [zoneOf?]

@[simp] theorem entryOf?_val (i : Fin 32) : entryOf? i.val = some i := by simp [entryOf?]

@[simp] theorem tableOf?_val (i : Fin 4) : tableOf? i.val = some i := by simp [tableOf?]

theorem stationOf?_eq_none {n : Nat} (h : 6 ≤ n) : stationOf? n = none := by simp [stationOf?, h]

theorem zoneOf?_eq_none {n : Nat} (h : 16 ≤ n) : zoneOf? n = none := by simp [zoneOf?, h]

theorem entryOf?_eq_none {n : Nat} (h : 32 ≤ n) : entryOf? n = none := by simp [entryOf?, h]

theorem tableOf?_eq_none {n : Nat} (h : 4 ≤ n) : tableOf? n = none := by simp [tableOf?, h]

/-! ### The route table -/

open Sys2Proof.Claim

theorem is_eq_true_iff (e : RouteEntry) (r : Role) (n : Nat) : e.is r n = true ↔ RouteNames e r.code n := by
  simp [RouteEntry.is, RouteNames, and_assoc]

theorem is_eq_false_iff (e : RouteEntry) (r : Role) (n : Nat) : e.is r n = false ↔ ¬RouteNames e r.code n := by
  rw [← is_eq_true_iff, Bool.not_eq_true]

theorem State.findEntry_eq_some_iff (s : State) (r : Role) (n : Nat) (e : Fin 32) : s.findEntry r n = some e ↔ EntryIs s r.code n e := by
  unfold State.findEntry EntryIs
  simp only [find?_finRange_eq_some, is_eq_true_iff, is_eq_false_iff]

theorem State.findEntry_eq_none_iff (s : State) (r : Role) (n : Nat) : s.findEntry r n = none ↔ ∀ e, ¬EntryIs s r.code n e := by
  rw [Option.eq_none_iff_forall_ne_some]
  simp only [ne_eq, State.findEntry_eq_some_iff]

theorem State.isSilent_iff (s : State) (r : Role) (n : Nat) : s.isSilent r n = true ↔ SilentEntry s r.code n := by
  unfold State.isSilent SilentEntry
  cases h : s.findEntry r n with
  | none =>
    have := (s.findEntry_eq_none_iff r n).mp h
    simp only [Option.any_none, Bool.false_eq_true, false_iff]
    rintro ⟨e, he, -⟩
    exact this e he
  | some e =>
    have he := (s.findEntry_eq_some_iff r n e).mp h
    simp only [Option.any_some, beq_iff_eq]
    constructor
    · exact fun hs => ⟨e, he, hs⟩
    · rintro ⟨e', he', hs⟩
      rw [← State.findEntry_eq_some_iff, h] at he'
      cases he'
      exact hs

/-- R119 in the model's words and the claim's. -/
theorem State.weigherPersists_iff (s : State) : s.weigherPersists = true ↔ WeigherPersists s := by
  unfold State.weigherPersists WeigherPersists
  dsimp only
  cases h : s.weigher.cause <;> simp [State.isSilent_iff, Role.code, noStation]

theorem State.weigherPersists_eq_false_iff (s : State) : s.weigherPersists = false ↔ ¬WeigherPersists s := by
  rw [← s.weigherPersists_iff, Bool.not_eq_true]

/-- R15 and R19 in the model's words and the claim's. -/
theorem State.causePersists_iff (s : State) (st : Fin 6) : s.causePersists st = true ↔ CausePersists s st := by
  have hlost : (∃ p : Fin 2, (s.station st).lost[p] = true) ↔ (s.station st).lost[0] = true ∨ (s.station st).lost[1] = true :=
    Fin.exists_fin_two
  unfold State.causePersists CausePersists
  rw [hlost]
  dsimp only
  cases h : (s.station st).cause <;> simp [State.isSilent_iff, Role.code]

theorem State.causePersists_eq_false_iff (s : State) (st : Fin 6) : s.causePersists st = false ↔ ¬CausePersists s st := by
  rw [← s.causePersists_iff, Bool.not_eq_true]

end Sys2Proof.Machine
end

section
/-! PROOFS. The step and reset, and the requests that read or refuse: PING, MODE_SET, ENTRY_READ, ZONE_CLEAR, TARE and RESET, STATUS. -/

namespace Sys2Proof.Claim

open Sys2Proof.Machine

/-- Settles O1. -/
theorem stepRunsFrontCommand : Obligations.StepRunsFrontCommand := fun _ _ _ => rfl

/-- Settles O2. -/
theorem emptyQueueIdles : Obligations.EmptyQueueIdles := by
  intro s h
  unfold step State.idle
  rw [h]
  refine ⟨fun hnone => ?_, fun hsome => ?_⟩
  · simp [hnone]
  · cases hsteps : s.ownSteps with
    | nil => exact absurd hsteps hsome
    | cons i l => rfl

/-- A command whose request is served, by the reply of its owner's rule. -/
theorem answers_of_reply {i : Instr} {h : ReqHeader} {r : Request} {s t : State} (x : Reply) {kind : Byte} {code : Result} {body : List Byte}
    (hi : i.request? = some (h, r)) (hs : Served s h) (hserve : s.serve h r = x.state.answer h.src h.seq kind x.code x.body false)
    (hx : x = { state := t, code := code, body := body }) : Answers i s h kind t code body := by
  subst hx
  rw [Answers, exec_of_served hi hs, hserve]
  rfl

theorem put8_toNat (b : Byte) : put8 b.toNat = [b] := by simp [put8]

/-- Settles O49: each answer is that of its owner's rule; a RESTART's answer is placed as it is served. -/
theorem pingRestartAndUnknown : Obligations.PingRestartAndUnknown := by
  intro h s hs
  refine ⟨?_, ?_, fun c n hn => ?_, fun c n hn => ?_, fun c => ?_, fun k b => ?_⟩
  · refine answers_of_reply s.servePing rfl hs rfl ?_
    obtain ⟨hm, ha, -⟩ := hs
    have hmode : s.mode.code = if s.mode = .run then 2 else 1 := by
      cases hmode : s.mode <;> simp_all [Mode.code]
    simp only [State.servePing, taken, State.pingBody, ha, hmode, Option.elim_some, put8_toNat]
    rfl
  · exact exec_of_served (i := .restart h) (r := .restart) rfl hs
  · refine answers_of_reply (s.serveStationUnknown n) rfl hs rfl ?_
    lift n to Fin 6 using hn
    simp [State.serveStationUnknown, State.onStation, State.settle, refuse]
  · refine answers_of_reply (s.serveStationUnknown n) rfl hs rfl ?_
    simp [State.serveStationUnknown, State.onStation, stationOf?_eq_none hn, refuse]
  · exact answers_of_reply (refuse s .unknown) rfl hs rfl rfl
  · exact answers_of_reply (refuse s .unknown) rfl hs rfl rfl

/-- Settles O50, by the modes of R187; entry to RUN with an empty call queue makes a test that grants nothing. -/
theorem modeSetRule : Obligations.ModeSetRule := by
  intro h m s hs
  refine ⟨fun h1 h2 => ?_, fun hrun => ?_, fun hconfig hqueue => ?_, fun hconfig => ?_, fun hrun hoff => ?_, fun st hrun hst => ?_⟩
  · refine answers_of_reply (s.serveModeSet m) rfl hs rfl ?_
    unfold State.serveModeSet
    split
    · exact absurd rfl h1
    · exact absurd rfl h2
    · rfl
  · refine answers_of_reply (s.serveModeSet 2) rfl hs rfl ?_
    simp only [State.serveModeSet, State.enterRun, hrun, if_true]
    rfl
  · refine answers_of_reply (s.serveModeSet 2) rfl hs rfl ?_
    have hne : s.mode ≠ .run := by simp [hconfig]
    simp only [State.serveModeSet, State.enterRun, hne, if_false]
    rw [State.consider_of_empty _ (by exact hqueue)]
    rfl
  · refine answers_of_reply (s.serveModeSet 1) rfl hs rfl ?_
    have hsame : ({ s with mode := .config } : State) = s := by rw [← hconfig]
    simp [State.serveModeSet, hconfig, hsame]
    rfl
  · refine answers_of_reply (s.serveModeSet 1) rfl hs rfl ?_
    simp [State.serveModeSet, State.allOffline, hoff]
    rfl
  · refine answers_of_reply (s.serveModeSet 1) rfl hs rfl ?_
    have hall : s.allOffline = false := by
      simp only [State.allOffline, List.all_eq_false]
      exact ⟨st, List.mem_finRange st, by simpa using hst⟩
    simp [State.serveModeSet, hrun, hall]
    rfl

/-- What an ENTRY-READ answers as the owned flag (R172). -/
theorem write_routeEntry (e : RouteEntry) :
    putRoute e.write = put8 (if e.present then 1 else 0) ++ put8 e.address ++ put8 e.role ++ put8 e.station ++
      put8 (if e.role = 1 ∨ e.role = 2 ∨ e.role = 3 ∨ e.role = 4 then 1 else 0) ++ put32 e.silence := by
  simp [putRoute, RouteEntry.write, isOwned, Role.code, or_assoc]

/-- Settles O51. -/
theorem entryReadsAnswerTheEntry : Obligations.EntryReadsAnswerTheEntry := by
  intro h s hs
  refine ⟨fun e => ?_, fun st => ?_, fun st z => ?_, fun n => ⟨?_, ?_⟩, fun n => ?_, fun x j => ?_, ?_, ?_,
    fun n m => ⟨fun hn => ?_, fun hn => ?_, fun hnm => ?_, fun hnm => ?_, fun hn => ?_, fun hnm => ?_⟩⟩
  · refine answers_of_reply (s.readRouteEntry e.val) rfl hs rfl ?_
    simp only [State.readRouteEntry, entryOf?_val, taken, write_routeEntry]
  · exact answers_of_reply (s.readStation st.val) rfl hs rfl (by simp [State.readStation, taken])
  · exact answers_of_reply (s.readZoneEntry st.val z.val) rfl hs rfl (by simp [State.readZoneEntry, taken])
  · exact answers_of_reply (s.readProfileCopy n.val 0) rfl hs rfl (by simp [State.readProfileCopy, taken])
  · exact answers_of_reply (s.readProfileCopy n.val 1) rfl hs rfl (by simp [State.readProfileCopy, taken])
  · exact answers_of_reply (s.readRecipeEntry n.val) rfl hs rfl (by simp [State.readRecipeEntry, taken])
  · exact answers_of_reply (s.readRate x.val j.val) rfl hs rfl (by simp [State.readRate, taken])
  · exact answers_of_reply s.readWeigher rfl hs rfl rfl
  · exact answers_of_reply s.readHistorySettings rfl hs rfl rfl
  · exact answers_of_reply (s.readRouteEntry n) rfl hs rfl (by simp [State.readRouteEntry, entryOf?_eq_none hn, refuse])
  · exact answers_of_reply (s.readStation n) rfl hs rfl (by simp [State.readStation, stationOf?_eq_none hn, refuse])
  · refine answers_of_reply (s.readZoneEntry n m) rfl hs rfl ?_
    unfold State.readZoneEntry
    split
    · next st z hst hz => rcases hnm with hn | hm <;> simp_all [stationOf?_eq_none, zoneOf?_eq_none]
    · rfl
  · refine answers_of_reply (s.readProfileCopy n m) rfl hs rfl ?_
    unfold State.readProfileCopy
    split
    · next hz => rcases hnm with hn | hm <;> simp_all [zoneOf?_eq_none]
    · next hz => rcases hnm with hn | hm <;> simp_all [zoneOf?_eq_none]
    · rfl
  · exact answers_of_reply (s.readRecipeEntry n) rfl hs rfl (by simp [State.readRecipeEntry, zoneOf?_eq_none hn, refuse])
  · refine answers_of_reply (s.readRate n m) rfl hs rfl ?_
    unfold State.readRate
    split
    · next t i ht hi => rcases hnm with hn | hm <;> simp_all [tableOf?_eq_none, entryOf?_eq_none]
    · rfl

/-- Settles O56. -/
theorem zoneClearRule : Obligations.ZoneClearRule := by
  intro h s hs
  refine ⟨fun n m hnm => ?_, fun st i => ⟨fun hst => ?_, fun hst => ?_⟩⟩
  · refine answers_of_reply (s.serveZoneClear n m) rfl hs rfl ?_
    unfold State.serveZoneClear
    split
    · next st i hst hi => rcases hnm with hn | hm <;> simp_all [stationOf?_eq_none, zoneOf?_eq_none]
    · rfl
  · exact answers_of_reply (s.serveZoneClear st.val i.val) rfl hs rfl (by simp [State.serveZoneClear, hst, refuse])
  · refine answers_of_reply (s.serveZoneClear st.val i.val) rfl hs rfl ?_
    have hclear : (s.station st).clearZone i = { s.station st with
        zones := (s.station st).zones.set i (zoneAfresh ((s.station st).zones[i]).entry .none),
        lost := if ((s.station st).zones[i]).entry.present then (s.station st).lost.set (platenOf i) false else (s.station st).lost } := by
      unfold Station.clearZone
      dsimp only
      split <;> rfl
    simp only [State.serveZoneClear, stationOf?_val, zoneOf?_val, hst, if_false, taken, State.modStation, hclear]
    rfl

/-- Entry to CLEARING leaves stations, calls and store (R115). -/
theorem weigher_resetWeigher (s : State) :
    s.resetWeigher.weigher = { s.weigher with
      cause := .none, state := .clearing, wantedGate := .divert, absentRun := 0, clear := .running s.now s.weigher.settings.clearTimeout } := by
  simp [State.resetWeigher]

/-- Settles O57. -/
theorem weigherCommandsRule : Obligations.WeigherCommandsRule := by
  intro h s hs
  refine ⟨fun hidle => ?_, fun hidle => ?_, fun hno => ?_, fun hfault hnot => ?_⟩
  · exact answers_of_reply (refuse s .state) rfl hs (by simp only [State.serve, if_neg hidle]; rfl) rfl
  · rw [exec_of_served (i := .tare h) (r := .tare) rfl hs]
    simp only [State.serve, if_pos hidle]
    rfl
  · refine answers_of_reply s.serveReset rfl hs rfl ?_
    rw [← s.weigherPersists_iff] at hno
    simp [State.serveReset, hno, refuse]
  · refine ⟨s.resetWeigher, answers_of_reply s.serveReset rfl hs rfl ?_, weigher_resetWeigher s, ?_, ?_, ?_⟩
    · rw [← s.weigherPersists_eq_false_iff] at hnot
      simp [State.serveReset, hfault, hnot, taken]
    all_goals simp [State.resetWeigher]

/-- A status request whose answer begins as it should. -/
theorem answers_of_status {i : Instr} {h : ReqHeader} {r : Request} {s : State} {kind : Byte} {body first : List Byte}
    (hi : i.request? = some (h, r)) (hs : Served s h)
    (hserve : s.serve h r = s.answer h.src h.seq kind .done body false) (hbody : ∃ rest, body = first ++ rest) :
    ∃ rest, Answers i s h kind s .done (first ++ rest) := by
  obtain ⟨rest, rfl⟩ := hbody
  exact ⟨rest, answers_of_reply (taken s _) hi hs hserve rfl⟩

theorem weigherStatus_first (s : State) :
    ∃ rest, s.weigherStatus = (put8 s.weigher.state.code ++ put8 s.weigher.cause.code ++ putFlag s.weigherPersists ++
      putGate s.weigher.wantedGate ++ putGate s.weigher.lastGate) ++ rest := by
  unfold State.weigherStatus
  dsimp only
  simp only [List.append_assoc]
  exact ⟨_, rfl⟩

/-- Settles O58. -/
theorem statusAnswers : Obligations.StatusAnswers := by
  intro h s hs
  have ha : s.nodeAddress = some h.dest := hs.2.1
  refine ⟨answers_of_status (r := .statusDevice) (body := s.deviceStatus) rfl hs rfl ?_, fun n hn => ?_, fun st => ?_,
    ⟨s.weigherPersists, ?_⟩, answers_of_status (r := .statusStore) (body := s.store.status) rfl hs rfl ?_⟩
  · simp only [State.deviceStatus, ha, Option.elim_some, put8_toNat, List.append_assoc]
    exact ⟨_, rfl⟩
  · exact answers_of_reply (s.serveStatusStation n) rfl hs rfl (by simp [State.serveStatusStation, stationOf?_eq_none hn, refuse])
  · refine answers_of_status (r := .statusStation st.val) (body := s.stationStatus st) rfl hs ?_ ?_
    · simp only [State.serve, State.serveStatusStation, stationOf?_val]
      rfl
    · simp only [State.stationStatus, controllerStatus, List.append_assoc]
      exact ⟨_, rfl⟩
  · obtain ⟨rest, hrest⟩ := answers_of_status (i := .statusWeigher h) (r := .statusWeigher) rfl hs rfl (weigherStatus_first s)
    exact ⟨rest, s.weigherPersists_iff, hrest⟩
  · simp only [Store.status, List.append_assoc]
    exact ⟨_, rfl⟩

end Sys2Proof.Claim
end

section
/-! PROOFS. Reset: every value of R184, and the three invariants right after it. -/

namespace Sys2Proof.Claim

open Sys2Proof.Machine

theorem station_powerOn (k : BitVec 6) (st : Fin 6) : (State.powerOn k).station st = Station.reset := by
  simp [State.powerOn, State.station]

/-- Right after reset the port has nothing to send. -/
theorem beginSend_powerOn (k : BitVec 6) (l : List Instr) :
    ({ State.powerOn k with pending := l } : State).beginSend = { State.powerOn k with pending := l } := by
  unfold State.beginSend
  have : Port.reset.choose = none := by decide
  simp [State.powerOn, this]

/-- Settles O4. -/
theorem powerOnResetSetsAll : Obligations.PowerOnResetSetsAll := by
  intro k s
  refine ⟨{ State.powerOn k with pending := s.pending }, ?_, rfl, rfl, rfl, rfl, rfl, rfl, rfl, fun i => ?_, fun i => ?_, fun x j => ?_,
    fun st => ?_, rfl, rfl, rfl, rfl, rfl, fun j => ?_, rfl, rfl, rfl⟩
  · rw [exec_eq_work]
    exact congrArg _ (beginSend_powerOn k s.pending)
  · simp [State.powerOn, Port.reset, RouteEntry.reset]
  · simp [State.powerOn, Recipe.reset]
  · simp [State.powerOn]
  · have : ({ State.powerOn k with pending := s.pending } : State).station st = Station.reset := station_powerOn k st
    simp [this, Station.reset, Zone.reset, ZoneEntry.reset]
  · simp [State.powerOn, Port.reset]

theorem cellInvariant_reset : CellInvariant State.reset := by
  have hst : ∀ st, State.reset.station st = Station.reset := station_powerOn _
  refine ⟨fun st => ?_, ?_, rfl, ?_⟩
  · rw [hst]
    refine ⟨rfl, fun c hc => ?_, ?_, ?_, fun _ => rfl⟩
    · cases hc
    · simp [State.reset, State.powerOn, Station.reset]
    · simp [State.reset, State.powerOn, Weigher.reset, Station.reset]
  · exact List.nodup_nil
  · simp [State.reset, State.powerOn, Weigher.reset]

theorem storeInvariant_reset : StoreInvariant State.reset := by
  have hst : ∀ st, State.reset.station st = Station.reset := station_powerOn _
  refine ⟨rfl, by decide, fun _ => rfl, ?_, ?_, rfl, ?_, ?_, ?_, fun n => ?_, fun st c hc => ?_⟩
  · intro h; cases h
  · intro r hr; cases hr
  · simp [State.reset, State.powerOn, Store.reset]
  · simp [State.reset, State.powerOn, Store.reset]
  · intro y hy; cases hy
  · simp [State.reset, State.powerOn, Recipe.reset, CountsFit]
  · rw [hst] at hc; cases hc

/-- Settles O5. -/
theorem invariantsAtReset : Obligations.InvariantsAtReset :=
  ⟨lineInvariant_powerOn Config.straps [], cellInvariant_reset, storeInvariant_reset⟩

end Sys2Proof.Claim
end

section
/-! PROOFS. The decision on a charge (R109) and the end of a settle without a piece (R107). -/

namespace Sys2Proof.Claim

open Sys2Proof.Machine

theorem decideCharge_eq_over_iff (r : Recipe) (v : Int) (n : Nat) : decideCharge r v n = .over ↔ r.nominalMass + r.upperTol < v := by
  unfold decideCharge
  split
  · simp [*]
  · split
    · simp [*]
    · split <;> simp [*]

theorem decideCharge_eq_accept_iff (r : Recipe) (v : Int) (n : Nat) :
    decideCharge r v n = .accept ↔ v ≤ r.nominalMass + r.upperTol ∧ r.nominalMass - r.lowerTol ≤ v ∧ r.minPieces ≤ n := by
  unfold decideCharge
  split
  · next h => simp [h]
  · next h =>
    split
    · next ha => simp only [true_iff]; exact ⟨not_lt.mp h, ha⟩
    · next ha =>
      have : ¬(v ≤ r.nominalMass + r.upperTol ∧ r.nominalMass - r.lowerTol ≤ v ∧ r.minPieces ≤ n) := fun hv => ha hv.2
      split <;> simp only [reduceCtorEq, this]

theorem decideCharge_eq_under_iff (r : Recipe) (v : Int) (n : Nat) :
    decideCharge r v n = .under ↔ v ≤ r.nominalMass + r.upperTol ∧ v < r.nominalMass - r.lowerTol ∧ n = r.pieceLimit := by
  unfold decideCharge
  split
  · next h => simp [h]
  · next h =>
    split
    · next ha =>
      simp only [reduceCtorEq, false_iff]
      rintro ⟨-, hlow, -⟩
      exact absurd ha.1 (not_le.mpr hlow)
    · split
      · next hu => simp only [true_iff]; exact ⟨not_lt.mp h, hu⟩
      · next hu =>
        simp only [reduceCtorEq, false_iff]
        exact fun hv => hu hv.2

/-- The rows of R109 leave WAIT: a total within the tolerances with too few pieces, or one below them with pieces to come. -/
theorem decideCharge_eq_wait_iff (r : Recipe) (v : Int) (n : Nat) :
    decideCharge r v n = .wait ↔ v ≤ r.nominalMass + r.upperTol ∧
      (r.nominalMass - r.lowerTol ≤ v ∧ n < r.minPieces ∨ v < r.nominalMass - r.lowerTol ∧ n ≠ r.pieceLimit) := by
  have hover := decideCharge_eq_over_iff r v n
  have haccept := decideCharge_eq_accept_iff r v n
  have hunder := decideCharge_eq_under_iff r v n
  cases h : decideCharge r v n <;> simp only [h, reduceCtorEq, true_iff, false_iff] at hover haccept hunder ⊢ <;> omega

/-- A settle that ends without a piece and without a drop goes to STABLE on the new total (R107). -/
theorem settleEnd_of_no_piece {s : State} {v : Int} (hmin : v - s.weigher.vPrev < s.weigher.settings.minPiece)
    (hdrop : -s.weigher.settings.pieceThreshold < v - s.weigher.vPrev) (hwait : s.weigher.pieceWait ≠ .expiredInSettling) :
    s.settleEnd v = { s with weigher := { s.weigher with vPrev := v, settle := .stopped, state := .stable } } := by
  unfold State.settleEnd
  simp only [not_le.mpr hmin, not_le.mpr hdrop, hwait, if_false]
  rfl

/-- Settles O34, row by row. -/
theorem chargeDecisionRule : Obligations.ChargeDecisionRule := by
  intro r v n
  have hover := decideCharge_eq_over_iff r v n
  have haccept := decideCharge_eq_accept_iff r v n
  have hunder := decideCharge_eq_under_iff r v n
  have hwait := decideCharge_eq_wait_iff r v n
  refine ⟨hover.mpr, fun h1 h2 h3 => haccept.mpr ⟨h1, h2, h3⟩, fun h1 h2 h3 => hunder.mpr ⟨h1, h2, h3⟩,
    fun h1 h2 h3 => hwait.mpr ⟨h1, .inl ⟨h2, h3⟩⟩, fun h1 h2 h3 => hwait.mpr ⟨h1, .inr ⟨h2, h3⟩⟩, fun h1 h2 hw => ?_, fun ha => ?_,
    fun s => settleEnd_of_no_piece⟩
  · obtain ⟨-, h3 | h3⟩ := hwait.mp hw <;> omega
  · obtain ⟨h1, h2, h3⟩ := haccept.mp ha
    exact ⟨h2, h1, h3⟩

end Sys2Proof.Claim
end

section
/-! PROOFS. Notices, history segments, answer parts, and when the part's own commands do nothing. -/

namespace Sys2Proof.Claim

open Sys2Proof.Machine

/-! ### Notices (R181 to R183) -/

theorem raise_of_disabled {s : State} {k : NoticeKind} (h : s.port.mask[k.index] = false) (key : Option (Fin 6)) (v : List Byte) :
    s.raise k key v = s := by
  simp only [State.raise, h, Bool.false_eq_true, if_false]

/-- A raise of an enabled kind sets its flag alone. -/
theorem raise_of_enabled {s : State} {k : NoticeKind} (h : s.port.mask[k.index] = true) (key : Option (Fin 6)) (v : List Byte) :
    s.raise k key v = { s with port := { s.port with
      notices := s.port.notices.set (noticeSlot k key) (some
        { count := min 255 ((s.port.notices[noticeSlot k key]).elim 0 (·.count) + 1), time := s.now, values := v }) } } := by
  simp only [State.raise, h, if_true]
  rfl

theorem notices_raise_self {s : State} {k : NoticeKind} (h : s.port.mask[k.index] = true) (key : Option (Fin 6)) (v : List Byte) :
    (s.raise k key v).port.notices[noticeSlot k key] =
      some { count := min 255 ((s.port.notices[noticeSlot k key]).elim 0 (·.count) + 1), time := s.now, values := v } := by
  rw [raise_of_enabled h]
  simp

theorem notices_raise_of_ne {s : State} {k : NoticeKind} {key : Option (Fin 6)} {j : Fin 77} (hj : j ≠ noticeSlot k key) (v : List Byte) :
    (s.raise k key v).port.notices[j] = s.port.notices[j] := by
  have hval : (noticeSlot k key).val ≠ j.val := fun e => hj (Fin.ext e.symm)
  unfold State.raise
  split
  · simp [Vector.getElem_set_ne _ _ hval]
  · rfl

theorem firstNotice_eq_some {p : Port} {i : Fin 77} {f : NoticeFlag} (hi : p.notices[i] = some f) (hbelow : ∀ j, j < i → p.notices[j] = none) :
    p.firstNotice = some i := by
  unfold Port.firstNotice
  rw [find?_finRange_eq_some]
  exact ⟨by simp [hi], fun j hj => by simp [hbelow j hj]⟩

theorem maskOf_eq_true_iff (m : Vector Nat 11) : m.toList.all (· ≤ 1) = true ↔ ∀ k : Fin 11, m[k] ≤ 1 := by
  simp only [List.all_eq_true, decide_eq_true_eq]
  constructor
  · exact fun h k => h _ (by simp)
  · intro h x hx
    obtain ⟨k, hk, rfl⟩ := Vector.mem_iff_getElem.mp (Vector.mem_toList_iff.mp hx)
    exact h ⟨k, hk⟩

/-- Settles O46. -/
theorem noticeRules : Obligations.NoticeRules := by
  refine ⟨fun s k key v => ⟨fun h => raise_of_disabled h key v, fun h => ⟨fun f hf => ?_, fun hnone => ?_, fun j hj => notices_raise_of_ne hj v,
    s.stations_raise k key v, s.store_raise k key v⟩⟩, fun s i f ha hi hbelow => ?_, fun h m s hs => ⟨fun hbig => ?_, fun hsmall => ?_⟩⟩
  · rw [notices_raise_self h, hf]; rfl
  · rw [notices_raise_self h, hnone]; rfl
  · rw [exec_eq_work]
    simp only [State.work, ha, if_true, State.placeNotice, firstNotice_eq_some hi hbelow, hi]
    rfl
  · refine answers_of_reply (s.serveNoticeMask m) rfl hs rfl ?_
    obtain ⟨k, hk⟩ := hbig
    have hall : ¬m.toList.all (· ≤ 1) = true := by
      rw [maskOf_eq_true_iff]
      exact fun h => absurd (h k) (by omega)
    simp only [State.serveNoticeMask, hall]
    rfl
  · have hall : m.toList.all (· ≤ 1) = true := (maskOf_eq_true_iff m).mpr hsmall
    refine ⟨Vector.ofFn fun i : Fin 11 => m[i] == 1, (s.port.setMask (Vector.ofFn fun i : Fin 11 => m[i] == 1)).notices, fun k => by simp,
      fun i => by simp [Port.setMask], answers_of_reply (s.serveNoticeMask m) rfl hs rfl ?_⟩
    simp only [State.serveNoticeMask, hall, if_true, taken, State.modPort, Port.setMask]

/-! ### The sender (R160 to R162) -/

/-- Settles O47. -/
theorem historySends : Obligations.HistorySends := by
  refine ⟨fun s => ⟨fun hnone hne => ?_, fun hnot => ?_⟩, fun s x ha hx => ⟨fun hcut => ?_, fun hcut hlen => ?_, fun hcut hlen ho => ?_,
    fun hcut hlen ho => ?_⟩⟩
  · have hready : s.store.autoReady = true := by simp [Store.autoReady, hnone, hne]
    rw [exec_eq_work]
    simp only [State.work, hready, if_true]
    rfl
  · have hready : s.store.autoReady = false := by
      rcases hnot with h | h
      · simp [Store.autoReady, h]
      · simp [Store.autoReady, h]
    rw [exec_eq_work]
    simp [State.work, hready]
  all_goals
    rw [exec_eq_work]
    simp only [State.work, ha, if_true, State.placeSegment, hx, hcut]
  · rfl
  · have hdata : ¬(s.store.segmentData x).length < Config.segmentBytes := not_lt.mpr hlen.ge
    rw [if_neg hdata]
    rfl
  · have hdata : (s.store.segmentData x).length < Config.segmentBytes := hlen
    rw [if_pos hdata]
    simp only [Store.finishSend, ho]
    rfl
  · have hdata : (s.store.segmentData x).length < Config.segmentBytes := hlen
    rw [if_pos hdata]
    simp only [Store.finishSend, ho]
    rfl

/-! ### The parts of an answer (R192) -/

theorem cutBody_of_le {n : Nat} {b : List Byte} (h : b.length ≤ 116) : cutBody n b = [b] := by
  cases n with
  | zero => rfl
  | succ n => exact if_pos h

theorem cutBody_of_lt {n : Nat} {b : List Byte} (h : 116 < b.length) : cutBody (n + 1) b = b.take 116 :: cutBody n (b.drop 116) :=
  if_neg (not_le.mpr h)

/-- The pieces together are the body. -/
theorem flatten_cutBody (n : Nat) (b : List Byte) : (cutBody n b).flatten = b := by
  induction n generalizing b with
  | zero => simp [cutBody]
  | succ n ih =>
    rcases le_or_gt b.length 116 with h | h
    · simp [cutBody_of_le h]
    · simp [cutBody_of_lt h, ih]

/-- One piece for each 116 bytes begun, and one for an empty body. -/
theorem length_cutBody {n : Nat} {b : List Byte} (h : b.length ≤ n) : (cutBody n b).length = max 1 ((b.length + 115) / 116) := by
  induction n generalizing b with
  | zero =>
    simp only [cutBody, List.length_singleton]
    omega
  | succ n ih =>
    rcases le_or_gt b.length 116 with hb | hb
    · rw [cutBody_of_le hb, List.length_singleton]
      omega
    · have hlen : (b.drop 116).length = b.length - 116 := List.length_drop
      rw [cutBody_of_lt hb, List.length_cons, ih (by omega), hlen]
      omega

/-- Every piece but the last is of 116 bytes, and the last is no longer. -/
theorem length_of_getElem?_cutBody {n : Nat} {b : List Byte} (h : b.length ≤ n) {i : Nat} {p : List Byte} (hp : (cutBody n b)[i]? = some p) :
    p.length ≤ 116 ∧ (i + 1 < (cutBody n b).length → p.length = 116) := by
  induction n generalizing b i with
  | zero =>
    have hb : b = [] := List.length_eq_zero_iff.mp (by omega)
    cases i with
    | zero =>
      obtain rfl : b = p := by simpa [cutBody] using hp
      simp [hb, cutBody]
    | succ i => simp [cutBody] at hp
  | succ n ih =>
    rcases le_or_gt b.length 116 with hb | hb
    · rw [cutBody_of_le hb] at hp ⊢
      cases i with
      | zero =>
        obtain rfl : b = p := by simpa using hp
        simp [hb]
      | succ i => simp at hp
    · rw [cutBody_of_lt hb] at hp ⊢
      cases i with
      | zero =>
        obtain rfl : b.take 116 = p := by simpa using hp
        simp only [List.length_take]
        omega
      | succ i =>
        have hdrop : (b.drop 116).length ≤ n := by simp; omega
        simpa using ih hdrop (by simpa using hp)

theorem getElem?_answerParts {src q kind : Byte} {code : Result} {body : List Byte} {i : Nat} {f : OutFrame}
    (hf : (answerParts src q kind code body)[i]? = some f) :
    ∃ p, (cutBody body.length body)[i]? = some p ∧ f = { dest := src, kind := 10, seq := some q, payload :=
      [kind, BitVec.ofNat 8 code.code, BitVec.ofNat 8 i, if i + 1 = (cutBody body.length body).length then 1 else 0] ++ p } := by
  simp only [answerParts, List.getElem?_map, List.getElem?_zipIdx, Option.map_map, Option.map_eq_some_iff] at hf
  obtain ⟨p, hp, rfl⟩ := hf
  refine ⟨p, hp, ?_⟩
  by_cases hlast : i + 1 = (cutBody body.length body).length <;> simp [hlast, put8, putFlag, kAnswer]

theorem length_answerParts (src q kind : Byte) (code : Result) (body : List Byte) :
    (answerParts src q kind code body).length = (cutBody body.length body).length := by simp [answerParts]

/-- The parts together carry the body. -/
theorem flatMap_answerParts (src q kind : Byte) (code : Result) (body : List Byte) :
    (answerParts src q kind code body).flatMap (fun f => f.payload.drop 4) = body := by
  have hdrop : (answerParts src q kind code body).flatMap (fun f => f.payload.drop 4) = (cutBody body.length body).flatten := by
    simp only [answerParts, List.flatMap_map]
    exact congrArg List.flatten (List.zipIdx_map_fst 0 _)
  exact hdrop.trans (flatten_cutBody _ _)

end Sys2Proof.Claim

namespace Sys2Proof.Settled

open Sys2Proof.Machine Sys2Proof.Claim

/-- Settles O48. -/
theorem answerParts : Obligations.AnswerParts := by
  refine ⟨fun src q kind code body => ⟨?_, flatMap_answerParts src q kind code body, fun i f hf => ?_⟩, fun s f rest restart ha hb => ?_⟩
  · exact (length_answerParts src q kind code body).trans (length_cutBody le_rfl)
  · obtain ⟨p, hp, rfl⟩ := getElem?_answerParts hf
    obtain ⟨hle, hfull⟩ := length_of_getElem?_cutBody le_rfl hp
    refine ⟨rfl, rfl, rfl, by rw [length_answerParts]; rfl, ?_, fun hi => ?_⟩
    · simp; omega
    · rw [length_answerParts] at hi
      simp [hfull hi]
  · rw [exec_eq_work]
    simp only [State.work, ha, if_true, State.placeAnswer, hb]
    cases rest with
    | nil => cases restart <;> rfl
    | cons g rest => rfl

end Sys2Proof.Settled
end

section
/-! PROOFS. The part's own commands: whose time has come, and that the others do nothing (R177, R185). -/

namespace Sys2Proof.Claim

open Sys2Proof.Machine

/-! ### Three claimants in rotation -/

/-- The first of three different ones that has a property. -/
theorem find?_three {α : Type} {p : α → Bool} {a b c x : α} (hab : a ≠ b) (hac : a ≠ c) (hbc : b ≠ c) (hx : x = a ∨ x = b ∨ x = c) :
    [a, b, c].find? p = some x ↔ p x = true ∧ (x = b → p a = false) ∧ (x = c → p a = false ∧ p b = false) := by
  cases ha : p a with
  | true =>
    simp only [List.find?_cons_of_pos ha, Option.some.injEq]
    exact ⟨fun h => h ▸ ⟨ha, fun h => absurd h hab, fun h => absurd h hac⟩, fun ⟨_, hb, hc⟩ =>
      (hx.resolve_right fun h => h.elim (fun h => nomatch hb h) fun h => nomatch (hc h).1).symm⟩
  | false =>
    have hxa : p x = true → x ≠ a := fun h e => by simp [e, ha] at h
    cases hb : p b with
    | true =>
      simp only [List.find?_cons_of_neg (Bool.eq_false_iff.mp ha), List.find?_cons_of_pos hb, Option.some.injEq]
      exact ⟨fun h => h ▸ ⟨hb, fun _ => trivial, fun h => absurd h hbc⟩, fun ⟨h, _, hc⟩ =>
        ((hx.resolve_left (hxa h)).resolve_right fun h => nomatch (hc h).2).symm⟩
    | false =>
      have hxb : p x = true → x ≠ b := fun h e => by simp [e, hb] at h
      rw [List.find?_cons_of_neg (Bool.eq_false_iff.mp ha), List.find?_cons_of_neg (Bool.eq_false_iff.mp hb), List.find?_singleton]
      constructor
      · intro h
        split at h
        · next hc => obtain rfl := Option.some.inj h; exact ⟨hc, fun _ => rfl, fun _ => ⟨rfl, rfl⟩⟩
        · cases h
      · rintro ⟨h, -, -⟩
        obtain rfl := (hx.resolve_left (hxa h)).resolve_left (hxb h)
        rw [if_pos h]

theorem waits_iff (s : State) (c : ReportClaimant) : s.waits c = true ↔ Waits s c := by
  cases c with
  | handler =>
    simp only [State.waits, Waits]
    split
    · next parts restart h =>
      cases parts with
      | nil => simp [h]
      | cons f rest => simp [h]
    · next h => simp only [Bool.false_eq_true, false_iff]; rintro ⟨f, rest, restart, e⟩; exact h _ _ e
  | sender => simp [State.waits, Waits, Option.any_eq_true]
  | emitter =>
    simp only [State.waits, Waits, Port.firstNotice, ← not_iff_not (b := ∃ i : Fin 77, _), Bool.not_eq_true, Option.isSome_eq_false_iff,
      Option.isNone_iff_eq_none, find?_finRange_eq_none]
    simp

/-- Who is admitted to the report queue (R177). -/
theorem admitted_iff (s : State) (c : ReportClaimant) : s.admitted = some c ↔ Admits s c := by
  have hfind : s.port.lastReport.rotation.find? s.waits = some c ↔ s.waits c = true ∧
      (c = reportAfter (reportAfter s.port.lastReport) → s.waits (reportAfter s.port.lastReport) = false) ∧
      (c = s.port.lastReport →
        s.waits (reportAfter s.port.lastReport) = false ∧ s.waits (reportAfter (reportAfter s.port.lastReport)) = false) := by
    cases s.port.lastReport <;> exact find?_three nofun nofun nofun (by cases c <;> decide)
  unfold State.admitted Admits
  simp only [← waits_iff, Bool.not_eq_true]
  split
  · next hroom => simpa [show s.port.report.length < 4 from hroom] using hfind
  · next hroom => simp [show ¬s.port.report.length < 4 from hroom]

/-! ### Timers -/

theorem timerDue_iff (t : Timer) (now : Time) : t.due now = true ↔ Due t now := by
  cases t with
  | running since len =>
    simp only [Timer.due, Due, elapsed]
    exact ⟨fun h => ⟨since, len, rfl, of_decide_eq_true h⟩, fun ⟨_, _, e, h⟩ => by cases e; exact decide_eq_true h⟩
  | _ => simp [Timer.due, Due]

theorem silenceDue?_isSome_iff (s : State) (e : Fin 32) : (s.silenceDue? e).isSome = true ↔ DueStep s (.silenceExpiry e) := by
  unfold State.silenceDue?
  simp only [DueStep]
  split
  · next since h => split <;> simp_all [elapsed]
  · next h => simp only [Option.isSome_none, Bool.false_eq_true, false_iff]; rintro ⟨since, hs, -⟩; exact h since hs

theorem holdDue_iff (s : State) (st : Fin 6) : s.holdDue st = true ↔ DueStep s (.holdExpiry st) := by
  simp [State.holdDue, DueStep, timerDue_iff]

theorem not_due_stopped (now : Time) : ¬Due .stopped now := by
  rintro ⟨since, len, h, -⟩
  cases h

/-- A timer of the context is due in the state that runs it. -/
theorem cycleTimerDue_iff (s : State) (st : Fin 6) (x : StationState) (timer : Context → Timer) :
    (s.cycleTimer st x timer).due s.now = true ↔ (s.station st).state = x ∧ ∃ c, s.ctx? st = some c ∧ Due (timer c) s.now := by
  rw [timerDue_iff]
  unfold State.cycleTimer
  cases hc : s.ctx? st with
  | none => split <;> simp [not_due_stopped]
  | some c => split <;> simp_all [not_due_stopped]

/-- The command of a timer that is not due does nothing. -/
theorem onDue_of_not_due {s : State} {t : Timer} (h : ¬Due t s.now) (act : State → Time → State) : s.onDue t act = s := by
  rw [← timerDue_iff] at h
  simp only [State.onDue, h]
  rfl

theorem onDue_of_due {s : State} {since : Time} {len : Nat} (h : len ≤ (s.now - since).toNat) (act : State → Time → State) :
    s.onDue (.running since len) act = act s (since + BitVec.ofNat 32 len) := by
  have hdue : (Timer.running since len).due s.now = true := (timerDue_iff _ _).mpr ⟨since, len, rfl, h⟩
  simp only [State.onDue, hdue, if_true]
  rfl

theorem mem_when (i j : Instr) (b : Bool) : i ∈ when b j ↔ b = true ∧ i = j := by
  cases b <;> simp [when]

theorem mem_duePlacing (s : State) (i : Instr) :
    i ∈ s.duePlacing ↔ Admits s .handler ∧ i = .answerPartPlace ∨ Admits s .sender ∧ i = .segmentPlace ∨ Admits s .emitter ∧ i = .noticeEmit := by
  simp only [← admitted_iff, State.duePlacing]
  split <;> simp [*]

/-- The steps that join an empty queue (log entry 2). -/
theorem mem_ownSteps (s : State) (i : Instr) : i ∈ s.ownSteps ↔ DueStep s i := by
  have hload := fun st => cycleTimerDue_iff s st .loading (·.loadTimer)
  have hmin := fun st => cycleTimerDue_iff s st .curing (·.cure.wallMin)
  have hmax := fun st => cycleTimerDue_iff s st .curing (·.cure.wallMax)
  have hopen := fun st => cycleTimerDue_iff s st .opening (·.eject.openTimer)
  have hattempt := fun st => cycleTimerDue_iff s st .ejecting (·.eject.attemptTimer)
  simp only [State.ownSteps, State.dueSilences, State.dueTimers, State.dueWeigher, List.mem_append, List.mem_map, List.mem_filter,
    List.mem_finRange, true_and, List.mem_flatMap, mem_when, mem_duePlacing, silenceDue?_isSome_iff, holdDue_iff, State.loadTimer,
    State.wallMinTimer, State.wallMaxTimer, State.openTimer, State.attemptTimer, hload, hmin, hmax, hopen, hattempt, timerDue_iff]
  cases i <;> simp [DueStep, Store.autoReady]

/-- Settles O43. -/
theorem commandsBeforeTheirTime : Obligations.CommandsBeforeTheirTime := by
  intro s st e
  have hsame : ∀ {i : Instr}, s.work i = s → exec i s = .next s.beginSend := fun h => by rw [exec_eq_work, h]
  have hcycle : ∀ {x : StationState} {timer : Context → Timer},
      ¬((s.station st).state = x ∧ ∃ c, s.ctx? st = some c ∧ Due (timer c) s.now) → ¬Due (s.cycleTimer st x timer) s.now := fun h hd =>
    h ((cycleTimerDue_iff s st _ _).mp ((timerDue_iff _ _).mpr hd))
  have htimer : ∀ {t : Timer} {act : State → Time → State}, ¬Due t s.now → s.onDue t act = s := fun h => onDue_of_not_due h _
  refine ⟨admitted_iff s, mem_ownSteps s, fun h => hsame ?_, fun h => hsame ?_, fun h => hsame ?_, fun h => hsame ?_, fun h => hsame ?_,
    fun h => hsame ?_, fun h => hsame ?_, fun h => hsame (htimer h), fun h => hsame (htimer h), fun h => hsame (htimer h),
    fun h => hsame (if_neg (mt (admitted_iff s _).mp h)), fun h => hsame (if_neg (mt (admitted_iff s _).mp h)),
    fun h => hsame (if_neg (mt (admitted_iff s _).mp h)), fun h => ?_⟩
  · rw [← silenceDue?_isSome_iff, Option.not_isSome_iff_eq_none] at h
    show (s.silenceDue? e).elim s (s.becomeSilent e) = s
    rw [h]
    rfl
  · rw [← holdDue_iff] at h
    exact if_neg h
  all_goals first | (dsimp only [State.work]; exact htimer (hcycle h)) | exact if_neg (not_lt.mpr h)

end Sys2Proof.Claim
end

section
/-! PROOFS. Ring-out's choice (R175, R176). -/

namespace Sys2Proof.Claim

open Sys2Proof.Machine

theorem holds_iff (p : Port) (c : RingClaimant) : p.holds c = true ↔ RingHolds p c := by
  cases c with
  | forward => simp [Port.holds, RingHolds]
  | report => simp [Port.holds, RingHolds]
  | slate =>
    simp only [Port.holds, RingHolds, List.any_eq_true, List.mem_iff_getElem, Option.isSome_iff_ne_none]
    constructor
    · rintro ⟨x, ⟨n, hn, rfl⟩, hx⟩
      exact ⟨⟨n, by simpa using hn⟩, by simpa using hx⟩
    · rintro ⟨i, hi⟩
      exact ⟨p.slate[i], ⟨i.val, by simp, by simp⟩, hi⟩

/-- Whom ring-out serves (R175). -/
theorem choose_eq_some_iff (p : Port) (c : RingClaimant) : p.choose = some c ↔ RingTurn p c := by
  have hfind : p.lastRing.rotation.find? p.holds = some c ↔ p.holds c = true ∧
      (c = ringAfter (ringAfter p.lastRing) → p.holds (ringAfter p.lastRing) = false) ∧
      (c = p.lastRing → p.holds (ringAfter p.lastRing) = false ∧ p.holds (ringAfter (ringAfter p.lastRing)) = false) := by
    cases p.lastRing <;> exact find?_three nofun nofun nofun (by cases c <;> decide)
  have hforward : 3 ≤ p.forward.length → p.holds .forward = true := fun h => by
    cases hf : p.forward with
    | nil => simp [hf] at h
    | cons f rest => simp [Port.holds, hf]
  unfold Port.choose RingTurn
  simp only [← holds_iff, Bool.not_eq_true]
  split
  · next h =>
    simp only [Option.some.injEq, show ¬p.forward.length < 3 by omega, h, false_implies, and_true, true_implies]
    exact ⟨fun e => ⟨e ▸ hforward h, e.symm⟩, fun ⟨_, e⟩ => e.symm⟩
  · next h => simpa [h, show p.forward.length < 3 by omega] using hfind

/-- The slot the slate sends from (R176). -/
theorem nextSlot_eq_some_iff (p : Port) (i : Fin 19) : p.nextSlot = some i ↔
    p.slate[i] ≠ none ∧ ∀ j : Fin 19, j - p.lastSlot - 1 < i - p.lastSlot - 1 → p.slate[j] = none := by
  have hslot : ∀ k : Fin 19, (⟨(p.lastSlot.val + 1 + k.val) % 19, Nat.mod_lt _ (by decide)⟩ : Fin 19) = k + 1 + p.lastSlot := fun k =>
    Fin.ext (by simp [Fin.val_add]; omega)
  have hsub : ∀ k : Fin 19, k - p.lastSlot - 1 + 1 + p.lastSlot = k := fun k => by rw [sub_add_cancel, sub_add_cancel]
  unfold Port.nextSlot
  simp only [List.find?_map, hslot, Option.map_eq_some_iff, find?_finRange_eq_some, Function.comp_apply, Option.isSome_iff_ne_none]
  constructor
  · rintro ⟨k, ⟨hk, hlt⟩, rfl⟩
    refine ⟨hk, fun j hj => ?_⟩
    rw [add_sub_cancel_right, add_sub_cancel_right] at hj
    simpa [hsub] using hlt _ hj
  · rintro ⟨hi, hlt⟩
    exact ⟨i - p.lastSlot - 1, ⟨by rwa [hsub], fun j hj => by simpa using hlt (j + 1 + p.lastSlot) (by simpa using hj)⟩, hsub i⟩

/-- A frame of the part's own goes out under its own number or the counter's (R169). -/
theorem transmit_originates (s : State) (p : Port) (hseq : p.seqCounter = s.port.seqCounter) (f : OutFrame) :
    ∃ g, Originates s f g ∧ p.transmit (s.nodeAddress.getD 0) f =
      { p with sending := some g, seqCounter := if f.seq = none then s.port.seqCounter + 1 else s.port.seqCounter } := by
  refine ⟨originate (s.nodeAddress.getD 0) (f.seq.getD s.port.seqCounter) f, ⟨rfl, rfl, rfl, rfl, rfl, rfl, rfl, rfl⟩, ?_⟩
  unfold Port.transmit
  split
  · next n hn => simp [hn, ← hseq]
  · next hn => simp [hn, ← hseq]

/-- Settles O44. -/
theorem beginSendChoice : Obligations.BeginSendChoice := by
  intro s
  have hserve : ∀ c, s.port.sending = none → RingTurn s.port c →
      s.beginSend = { s with port := s.port.serve (s.nodeAddress.getD 0) c } := fun c hsend hturn => by
    have hc := (choose_eq_some_iff s.port c).mpr hturn
    unfold State.beginSend
    simp only [hsend, hc]
    rfl
  refine ⟨fun f hf => s.beginSend_of_sending (by simp [hf]), fun hnone => ?_, fun hsome => ?_, fun f rest hsend hturn hf => ?_,
    fun i f hsend hturn hf hfirst => ?_, fun f rest hsend hturn hf => ?_⟩
  · have hc : s.port.choose = none := Option.eq_none_iff_forall_ne_some.mpr fun c hc =>
      hnone c ((choose_eq_some_iff s.port c).mp hc).1
    unfold State.beginSend
    simp only [hc]
    split <;> rfl
  · obtain ⟨c, hc⟩ := hsome
    suffices s.port.choose ≠ none by
      obtain ⟨d, hd⟩ := Option.ne_none_iff_exists'.mp this
      exact ⟨d, (choose_eq_some_iff _ _).mp hd⟩
    unfold Port.choose
    split
    · nofun
    · rw [ne_eq, List.find?_eq_none, not_forall]
      exact ⟨c, fun h => h (by cases s.port.lastRing <;> cases c <;> decide) ((holds_iff _ _).mpr hc)⟩
  · rw [hserve _ hsend hturn]
    simp only [Port.serve, hf]
  · obtain ⟨g, hg, htransmit⟩ := transmit_originates s { s.port with slate := s.port.slate.set i none, lastSlot := i, lastRing := .slate } rfl f
    have hslot := (nextSlot_eq_some_iff s.port i).mpr ⟨by simp [hf], hfirst⟩
    refine ⟨g, hg, ?_⟩
    rw [hserve _ hsend hturn]
    simp only [Port.serve, hslot, hf, htransmit]
  · obtain ⟨g, hg, htransmit⟩ := transmit_originates s { s.port with report := rest, lastRing := .report } rfl f
    refine ⟨g, hg, ?_⟩
    rw [hserve _ hsend hturn]
    simp only [Port.serve, hf, htransmit]

end Sys2Proof.Claim
end

section
/-! PROOFS. Reading back what was written: the fields of R190 at their offsets, the table contents, and the requests (R179, 12.1). -/

namespace Sys2Proof.Machine

/-! ### Fields -/

@[simp] theorem length_put8 (n : Nat) : (put8 n).length = 1 := by simp [put8]
@[simp] theorem length_put16 (n : Nat) : (put16 n).length = 2 := by simp [put16]
@[simp] theorem length_put32 (n : Nat) : (put32 n).length = 4 := by simp [put32]
@[simp] theorem length_putS16 (i : Int) : (putS16 i).length = 2 := by simp [putS16]
@[simp] theorem length_putS32 (i : Int) : (putS32 i).length = 4 := by simp [putS32]

/-- A field behind `l` stands at its offset less the length of `l`. -/
@[simp] theorem read8_append {l : List Byte} {o : Nat} (h : l.length ≤ o) (m : List Byte) : read8 (l ++ m) o = read8 m (o - l.length) := by
  rw [read8, List.getD_append_right _ _ _ _ h]; rfl

@[simp] theorem read16_append {l : List Byte} {o : Nat} (h : l.length ≤ o) (m : List Byte) :
    read16 (l ++ m) o = read16 m (o - l.length) := by
  rw [read16, read8_append h, read8_append (by omega), show o + 1 - l.length = o - l.length + 1 by omega]; rfl

@[simp] theorem read32_append {l : List Byte} {o : Nat} (h : l.length ≤ o) (m : List Byte) :
    read32 (l ++ m) o = read32 m (o - l.length) := by
  rw [read32, read16_append h, read16_append (by omega), show o + 2 - l.length = o - l.length + 2 by omega]; rfl

@[simp] theorem readS16_append {l : List Byte} {o : Nat} (h : l.length ≤ o) (m : List Byte) :
    readS16 (l ++ m) o = readS16 m (o - l.length) := by
  rw [readS16, read16_append h]; rfl

@[simp] theorem readS32_append {l : List Byte} {o : Nat} (h : l.length ≤ o) (m : List Byte) :
    readS32 (l ++ m) o = readS32 m (o - l.length) := by
  rw [readS32, read32_append h]; rfl

theorem fitsU_iff (k n : Nat) : fitsU k n = true ↔ n < 256 ^ k := by simp [fitsU]

theorem fitsS_iff (k : Nat) (n : Int) : fitsS k n = true ↔ -(256 ^ k : Int) ≤ 2 * n ∧ 2 * n < (256 ^ k : Int) := by simp [fitsS]

/-- A number that fits its field is read back from it. -/
@[simp] theorem read8_put8 {n : Nat} (h : fitsU 1 n = true) (l : List Byte) : read8 (put8 n ++ l) 0 = n := by
  rw [fitsU_iff] at h
  simpa [read8, put8] using h

@[simp] theorem read16_put16 {n : Nat} (h : fitsU 2 n = true) (l : List Byte) : read16 (put16 n ++ l) 0 = n := by
  rw [fitsU_iff] at h
  simp only [read16, read8, put16, List.cons_append, List.getD_cons_zero, List.getD_cons_succ, BitVec.toNat_ofNat, zero_add]
  omega

@[simp] theorem read32_put32 {n : Nat} (h : fitsU 4 n = true) (l : List Byte) : read32 (put32 n ++ l) 0 = n := by
  rw [fitsU_iff] at h
  simp only [read32, read16, read8, put32, List.cons_append, List.getD_cons_zero, List.getD_cons_succ, BitVec.toNat_ofNat, zero_add]
  omega

@[simp] theorem readS16_putS16 {i : Int} (h : fitsS 2 i = true) (l : List Byte) : readS16 (putS16 i ++ l) 0 = i := by
  rw [fitsS_iff] at h
  rw [readS16, putS16, read16_put16 ((fitsU_iff _ _).mpr (by omega))]
  split <;> omega

@[simp] theorem readS32_putS32 {i : Int} (h : fitsS 4 i = true) (l : List Byte) : readS32 (putS32 i ++ l) 0 = i := by
  rw [fitsS_iff] at h
  rw [readS32, putS32, read32_put32 ((fitsU_iff _ _).mpr (by omega))]
  split <;> omega

/-- A number that ends its bytes is read back like one that more bytes follow. -/
@[simp] theorem read8_put8_end {n : Nat} (h : fitsU 1 n = true) : read8 (put8 n) 0 = n := by simpa using read8_put8 h []
@[simp] theorem read16_put16_end {n : Nat} (h : fitsU 2 n = true) : read16 (put16 n) 0 = n := by simpa using read16_put16 h []
@[simp] theorem read32_put32_end {n : Nat} (h : fitsU 4 n = true) : read32 (put32 n) 0 = n := by simpa using read32_put32 h []

/-! ### Table contents -/

@[simp] theorem length_putRoute (w : RouteWrite) : (putRoute w).length = 9 := by simp [putRoute]
@[simp] theorem length_putSettings (w : StationSettings) (b : Nat) : (putSettings w b).length = 20 := by simp [putSettings]
@[simp] theorem length_putZone (w : ZoneWrite) : (putZone w).length = 24 := by simp [putZone]
@[simp] theorem length_putSetPoint (p : SetPoint) : (putSetPoint p).length = 4 := by simp [putSetPoint]
@[simp] theorem length_putStep (p : CureStep) : (putStep p).length = 7 := by simp [putStep]
@[simp] theorem length_putRecipe (w : RecipeWrite) : (putRecipe w).length = 79 := by
  unfold putRecipe
  simp only [List.length_append, length_put8, length_put16, length_put32, length_putS16, length_putS32]
@[simp] theorem length_putWeigherSettings (w : WeigherSettings) : (putWeigherSettings w).length = 47 := by simp [putWeigherSettings]
@[simp] theorem length_putHistory (w : HistoryWrite) : (putHistory w).length = 5 := by simp [putHistory]

theorem readRoute_putRoute {w : RouteWrite} (h : w.wf = true) (l : List Byte) : readRoute (l ++ putRoute w) l.length = w := by
  simp only [RouteWrite.wf, Bool.and_eq_true] at h
  simp [readRoute, putRoute, h]

theorem readSettings_putSettings {w : StationSettings} (h : w.wf = true) (b : Nat) (l : List Byte) :
    readSettings (l ++ putSettings w b) l.length = w := by
  simp only [StationSettings.wf, Bool.and_eq_true] at h
  simp [readSettings, putSettings, h]

theorem readZone_putZone {w : ZoneWrite} (h : w.wf = true) (l : List Byte) : readZone (l ++ putZone w) l.length = w := by
  simp only [ZoneWrite.wf, Bool.and_eq_true] at h
  simp [readZone, putZone, h]

theorem readRecipe_putRecipe {w : RecipeWrite} (h : w.wf = true) (l : List Byte) : readRecipe (l ++ putRecipe w) l.length = w := by
  simp only [RecipeWrite.wf, Bool.and_eq_true] at h
  have hall : w.profiles.toList.all (fitsU 1) = true := by simp only [h]
  have hprofiles : ∀ (i : Nat) (hi : i < 4), fitsU 1 w.profiles[i] = true := fun i hi => List.all_eq_true.mp hall _ (by simp)
  have hlist : (⟨#[w.profiles[0], w.profiles[1], w.profiles[2], w.profiles[3]], rfl⟩ : Vector Nat 4) = w.profiles := by
    ext i hi
    match i, hi with
    | 0, _ | 1, _ | 2, _ | 3, _ => rfl
  unfold readRecipe putRecipe
  simp [h, hprofiles, hlist]

theorem readWeigherSettings_putWeigherSettings {w : WeigherSettings} (h : w.wf = true) (l : List Byte) :
    readWeigherSettings (l ++ putWeigherSettings w) l.length = w := by
  simp only [WeigherSettings.wf, Bool.and_eq_true] at h
  simp [readWeigherSettings, putWeigherSettings, h]

theorem readHistory_putHistory {w : HistoryWrite} (h : w.wf = true) (l : List Byte) : readHistory (l ++ putHistory w) l.length = w := by
  simp only [HistoryWrite.wf, Bool.and_eq_true] at h
  simp [readHistory, putHistory, h]

theorem readSetPoint_putSetPoint {p : SetPoint} (h : p.wf = true) (l : List Byte) : readSetPoint (putSetPoint p ++ l) 0 = p := by
  simp only [SetPoint.wf, Bool.and_eq_true] at h
  simp [readSetPoint, putSetPoint, h]

theorem readStep_putStep {p : CureStep} (h : p.wf = true) (l : List Byte) : readStep (putStep p ++ l) 0 = p := by
  simp only [CureStep.wf, Bool.and_eq_true] at h
  simp [readStep, putStep, h]

theorem readSetPoint_append {l : List Byte} {o : Nat} (h : l.length ≤ o) (m : List Byte) :
    readSetPoint (l ++ m) o = readSetPoint m (o - l.length) := by
  simp only [readSetPoint, read16_append h, read16_append (show l.length ≤ o + 2 by omega), Nat.sub_add_comm h]

theorem readStep_append {l : List Byte} {o : Nat} (h : l.length ≤ o) (m : List Byte) :
    readStep (l ++ m) o = readStep m (o - l.length) := by
  simp only [readStep, read16_append h, read8_append (show l.length ≤ o + 2 by omega), read16_append (show l.length ≤ o + 3 by omega),
    read16_append (show l.length ≤ o + 5 by omega), Nat.sub_add_comm h]

/-- The cure steps of a profile are read back, one every seven bytes. -/
theorem readStep_steps {steps : List CureStep} (h : ∀ c ∈ steps, c.wf = true) :
    (List.range steps.length).map (fun j => readStep (steps.flatMap putStep) (7 * j)) = steps := by
  induction steps with
  | nil => rfl
  | cons c rest ih =>
    obtain ⟨hc, hrest⟩ := List.forall_mem_cons.mp h
    rw [List.length_cons, List.range_succ_eq_map, List.map_cons, List.map_map, List.flatMap_cons]
    refine congrArg₂ _ (readStep_putStep hc _) (Eq.trans (List.map_congr_left fun j _ => ?_) (ih hrest))
    simp only [Function.comp_apply]
    rw [readStep_append (by simp)]
    simp [Nat.mul_succ]

theorem length_flatMap_putStep (steps : List CureStep) : (steps.flatMap putStep).length = 7 * steps.length := by
  induction steps with
  | nil => rfl
  | cons c rest ih => simp [ih]; omega

theorem length_putProfile (w : Profile) : (putProfile w).length = 18 + 7 * w.steps.length := by
  simp [putProfile, putList]; omega

theorem fitsU_steps {w : Profile} (h : w.wf = true) : fitsU 1 w.steps.length = true := by
  simp only [Profile.wf, Bool.and_eq_true, decide_eq_true_eq] at h
  rw [fitsU_iff]
  omega

theorem readProfile_putProfile {w : Profile} (h : w.wf = true) (l : List Byte) : readProfile (l ++ putProfile w) l.length = w := by
  have hcount := fitsU_steps h
  simp only [Profile.wf, Bool.and_eq_true, List.all_eq_true] at h
  have hsteps := readStep_steps h.2
  have hskip : ∀ (m : List Byte) (j : Nat), readStep (l ++ (putSetPoint w.idle ++ (putSetPoint w.park ++ (putSetPoint w.hold ++
      (putSetPoint w.opening ++ (put8 w.defaultLen ++ (put8 w.steps.length ++ m))))))) (l.length + (18 + 7 * j)) = readStep m (7 * j) := fun m j => by
    rw [readStep_append (by simp)]
    iterate 6 rw [readStep_append (by simp; omega)]
    exact congrArg _ (by simp only [length_put8, length_putSetPoint]; omega)
  simp [readProfile, putProfile, putList, readSetPoint_append, hskip, readSetPoint_putSetPoint, Nat.add_assoc, h, hcount, hsteps]

/-- A list of bytes is read back byte by byte. -/
theorem read8_flatMap_put8 {l : List Nat} (h : ∀ n ∈ l, fitsU 1 n = true) (i : Nat) (hi : i < l.length) :
    read8 (l.flatMap put8) i = l[i] := by
  induction l generalizing i with
  | nil => exact absurd hi (by simp)
  | cons n rest ih =>
    obtain ⟨hn, hrest⟩ := List.forall_mem_cons.mp h
    rw [List.flatMap_cons]
    cases i with
    | zero => exact read8_put8 hn _
    | succ i => rw [read8_append (by simp)]; exact ih hrest i (by simpa using hi)

end Sys2Proof.Machine
end

section
/-! PROOFS. The request a body spells (R179, 12.1), and a typed request as its frame (log entry 7). -/

namespace Sys2Proof.Claim

open Sys2Proof.Machine

theorem sized_of_length {kind : Byte} {body : List Byte} {n : Nat} (h : body.length = n) (r : Request) : sized kind body n r = r :=
  if_pos h

/-- A station command the part does not know. -/
theorem parseStationCommand_unknown {kind : Byte} {c n : Nat} (h : (Request.stationCommandUnknown c n).wf = true) :
    parseStationCommand kind (put8 c ++ put8 n) = .stationCommandUnknown c n := by
  simp only [Request.wf, Bool.and_eq_true, Bool.or_eq_true, beq_iff_eq, decide_eq_true_eq] at h
  obtain ⟨⟨hc, hn⟩, hcode⟩ := h
  unfold parseStationCommand
  rw [read8_put8 hc, read8_append (by simp)]
  split <;> first | omega | simp [hn]

/-- A weigher command the part does not know. -/
theorem parseWeigherCommand_unknown {kind : Byte} {c : Nat} (h : (Request.weigherCommandUnknown c).wf = true) :
    parseWeigherCommand kind (put8 c) = .weigherCommandUnknown c := by
  simp only [Request.wf, Bool.and_eq_true, Bool.or_eq_true, beq_iff_eq, decide_eq_true_eq] at h
  obtain ⟨hc, hcode⟩ := h
  unfold parseWeigherCommand
  rw [read8_put8_end hc]
  split <;> first | omega | exact sized_of_length (by simp) _

/-- A request of a kind that is none of the seventeen. -/
theorem parseBody_unknown {kind : Byte} {b : List Byte} (h : (Request.unknown kind b).wf = true) : parseBody kind b = .unknown kind b := by
  simp only [Request.wf, Bool.and_eq_true, Bool.or_eq_true, beq_iff_eq, decide_eq_true_eq] at h
  obtain ⟨hkind, -⟩ := h
  unfold parseBody
  split <;> first | omega | rfl

theorem parse_noticeMask {m : Vector Nat 11} (h : (Request.noticeMask m).wf = true) :
    parseRequest (encodeRequest (.noticeMask m)) = .noticeMask m := by
  have hlen : ∀ l : List Nat, (l.flatMap put8).length = l.length := fun l => by simp [put8]
  show sized 17 (m.toList.flatMap put8) 11 _ = _
  rw [sized_of_length (by simp [hlen])]
  simp only [Request.wf, List.all_eq_true] at h
  refine congrArg _ (Vector.ext fun i hi => ?_)
  rw [Vector.getElem_ofFn]
  exact (read8_flatMap_put8 h i (by simpa using hi)).trans (by simp)

theorem parseRequest_put8 (k : Nat) (b : List Byte) : parseRequest (put8 k ++ b) = parseBody (BitVec.ofNat 8 k) b := rfl

theorem parseRequest_put8_end (k : Nat) : parseRequest (put8 k) = parseBody (BitVec.ofNat 8 k) [] := rfl

/-- Settles O9. -/
theorem requestBodiesReadBack : Obligations.RequestBodiesReadBack := by
  intro r h
  have hcode : ∀ c, c < 18 → fitsU 1 c = true := by decide
  cases r with
  | stationCommandUnknown c n => exact parseStationCommand_unknown h
  | weigherCommandUnknown c => exact parseWeigherCommand_unknown h
  | unknown k b => exact parseBody_unknown h
  | malformed k => exact absurd h (by simp [Request.wf])
  | noticeMask m => exact parse_noticeMask h
  | entryWriteRoute n w =>
    obtain ⟨hn, hw⟩ := (Bool.and_eq_true _ _).mp h
    have hread : readRoute (put8 0 ++ (put8 n ++ putRoute w)) 2 = w := by simpa using readRoute_putRoute hw (put8 0 ++ put8 n)
    simp [encodeRequest, parseRequest_put8, parseBody, parseEntryWrite, sized, hcode, hn, hread]
  | entryWriteStation n w b =>
    simp only [Request.wf, Bool.and_eq_true] at h
    obtain ⟨⟨hn, hw⟩, hb⟩ := h
    have hread : readSettings (put8 1 ++ (put8 n ++ putSettings w b)) 2 = w := by simpa using readSettings_putSettings hw b (put8 1 ++ put8 n)
    have hbound : read8 (putSettings w b) 19 = b := by simp [putSettings, hb]
    simp [encodeRequest, parseRequest_put8, parseBody, parseEntryWrite, sized, hcode, hn, hread, hbound]
  | entryWriteZone n z w =>
    simp only [Request.wf, Bool.and_eq_true] at h
    obtain ⟨⟨hn, hz⟩, hw⟩ := h
    have hread : readZone (put8 2 ++ (put8 n ++ (put8 z ++ putZone w))) 3 = w := by simpa using readZone_putZone hw (put8 2 ++ put8 n ++ put8 z)
    simp [encodeRequest, parseRequest_put8, parseBody, parseEntryWrite, sized, hcode, hn, hz, hread]
  | entryWriteProfile n w =>
    obtain ⟨hn, hw⟩ := (Bool.and_eq_true _ _).mp h
    have hread : readProfile (put8 3 ++ (put8 n ++ putProfile w)) 2 = w := by simpa using readProfile_putProfile hw (put8 3 ++ put8 n)
    have hcount : read8 (putProfile w) 17 = w.steps.length := by simp [putProfile, putList, fitsU_steps hw]
    simp [encodeRequest, parseRequest_put8, parseBody, parseEntryWrite, sized, hcode, hn, hread, hcount, length_putProfile]
    omega
  | entryWriteRecipe n w =>
    obtain ⟨hn, hw⟩ := (Bool.and_eq_true _ _).mp h
    have hread : readRecipe (put8 4 ++ (put8 n ++ putRecipe w)) 2 = w := by simpa using readRecipe_putRecipe hw (put8 4 ++ put8 n)
    simp [encodeRequest, parseRequest_put8, parseBody, parseEntryWrite, sized, hcode, hn, hread]
  | entryWriteWeigher w =>
    have hread : readWeigherSettings (put8 6 ++ putWeigherSettings w) 1 = w := by simpa using readWeigherSettings_putWeigherSettings (w := w) h (put8 6)
    simp [encodeRequest, parseRequest_put8, parseBody, parseEntryWrite, sized, hcode, hread]
  | entryWriteHistory w =>
    have hread : readHistory (put8 7 ++ putHistory w) 1 = w := by simpa using readHistory_putHistory (w := w) h (put8 7)
    simp [encodeRequest, parseRequest_put8, parseBody, parseEntryWrite, sized, hcode, hread]
  | _ =>
    simp only [Request.wf, Bool.and_eq_true] at h
    simp [encodeRequest, parseRequest_put8, parseRequest_put8_end, parseBody, parseEntryRead, parseEntryWrite, parseStationCommand,
      parseStatus, parseWeigherCommand, sized, hcode, h]

/-! ### A typed request is its frame (log entry 7) -/

/-- A request the wire can carry fits the payload of a frame. -/
theorem length_encodeRequest_le {r : Request} (h : r.wf = true) : (encodeRequest r).length ≤ 120 := by
  cases r with
  | entryWriteProfile n w =>
    simp only [Request.wf, Profile.wf, Bool.and_eq_true, decide_eq_true_eq] at h
    obtain ⟨-, ⟨-, hsteps⟩, -⟩ := h
    simp only [encodeRequest, List.length_append, length_put8, length_putProfile]
    omega
  | noticeMask m => simp [encodeRequest, put8]
  | unknown k b =>
    simp only [Request.wf, Bool.and_eq_true, decide_eq_true_eq] at h
    simp only [encodeRequest, List.length_cons]
    omega
  | _ => simp [encodeRequest]

theorem isBadFrame_requestFrame {h : ReqHeader} {r : Request} (hr : r.wf = true) : isBadFrame (requestFrame h r) = false := by
  have hlen := length_encodeRequest_le hr
  have hcheck : (requestFrame h r).check = checkWord (requestFrame h r) := rfl
  have hsize : (requestFrame h r).length.toNat = (requestFrame h r).payload.length := by
    simp only [requestFrame, BitVec.toNat_ofNat]
    omega
  have hfits : ¬120 < (requestFrame h r).payload.length := not_lt.mpr hlen
  simp [isBadFrame, ← hcheck, hsize, hfits, Config.maxPayload]

/-- Ring-in takes the frame of a request as the typed request. -/
theorem ringIn_requestFrame (s : State) {h : ReqHeader} {r : Request} (hr : r.wf = true) :
    s.ringIn (requestFrame h r) = s.ringRequest h r := by
  have hjudge : ∀ own, s.judgeFrame own (requestFrame h r) =
      if h.dest = own then s.takeRequest h r else s.forward (requestFrame h r) := fun own => by
    have hread : parseRequest (requestFrame h r).payload = r := requestBodiesReadBack r hr
    have hcommand : isCommandKind (requestFrame h r).kind = false := rfl
    have hsample : s.sampleEntry? (requestFrame h r) = none := rfl
    have hdest : (requestFrame h r).kind = kRequest ∧ (requestFrame h r).dest = own ↔ h.dest = own := and_iff_right rfl
    unfold State.judgeFrame State.passOn
    simp only [hcommand, hsample, hread, hdest, Bool.false_eq_true, if_false]
    split
    · rfl
    · next hown => exact if_neg hown
  unfold State.ringIn State.ringRequest
  rw [isBadFrame_requestFrame hr]
  simp only [hjudge]
  rfl

/-- Settles O10. -/
theorem typedRequestIsItsFrame : Obligations.TypedRequestIsItsFrame := by
  intro i h r s hi hwf
  have hr : r.wf = true := by simpa [Instr.wf, hi] using hwf
  rw [exec_of_request hi, exec_eq_work, show s.work (.ringInFrame (requestFrame h r)) = _ from ringIn_requestFrame s hr]

/-- Settles O11. -/
theorem busyAndForeignRequests : Obligations.BusyAndForeignRequests := by
  intro i h r s hi hm ha hsrc hhops
  have hown := exec_of_request hi s
  rw [s.ringRequest_own h r hm ha hsrc hhops] at hown
  refine ⟨fun hbusy => ?_, fun e hempty he haddress => ?_⟩
  · rw [hown, s.takeRequest_busy h r hbusy]
  · have hforeign : s.foreignMaster h.src = true := by
      simp only [State.foreignMaster, State.nodeOf, show s.findEntry .master noStation = some e from he, Option.map_some, Option.any_some,
        bne_iff_ne]
      exact haddress
    unfold Answers
    rw [hown, s.takeRequest_foreign h r hempty hforeign]
    rfl

end Sys2Proof.Claim
end

section
/-! PROOFS. The judgement of frames (R170, R171): malformed requests, foreign commands, and frames that reach no block. -/

namespace Sys2Proof.Claim

open Sys2Proof.Machine

/-! ### Malformed requests (R179) -/

theorem sized_of_length_ne {kind : Byte} {body : List Byte} {n : Nat} (h : body.length ≠ n) (r : Request) :
    sized kind body n r = .malformed kind := if_neg h

/-- A payload of a wrong length, or whose selector names nothing, reads as malformed under its kind byte, and 0 when it has none. -/
theorem parseRequest_of_not_fits {p : List Byte} (h : ¬RequestFits p) : parseRequest p = .malformed (p.getD 0 0) := by
  cases p with
  | nil => rfl
  | cons kind b =>
    have hread : ∀ o, (b.getD o 0).toNat = read8 b o := fun _ => rfl
    simp only [RequestFits, List.getD_cons_zero, List.getD_cons_succ, List.length_cons, hread] at h
    show parseBody kind b = .malformed kind
    unfold parseBody
    split
    case h_4 hk =>
      unfold parseEntryRead
      split
      case h_9 => rfl
      all_goals exact sized_of_length_ne (fun e => h (by simp [*])) _
    case h_5 hk =>
      unfold parseEntryWrite
      split
      case h_9 => rfl
      case h_4 => exact sized_of_length_ne (fun e => h (by simp [*]; omega)) _
      all_goals exact sized_of_length_ne (fun e => h (by simp [*])) _
    case h_7 hk =>
      unfold parseStationCommand
      dsimp only
      split
      case h_10 =>
        have hx : read8 b 0 = 0 ∨ 10 ≤ read8 b 0 := by
          clear h
          simp only [imp_false] at *
          omega
        refine if_neg fun e => h ?_
        obtain e | e := e
        · simp [hk, e]
          omega
        · simp [hk, e]
          omega
      all_goals exact sized_of_length_ne (fun e => h (by simp [*])) _
    case h_9 hk =>
      unfold parseWeigherCommand
      split <;> exact sized_of_length_ne (fun e => h (by simp [*])) _
    case h_10 hk =>
      unfold parseStatus
      split
      case h_5 => rfl
      all_goals exact sized_of_length_ne (fun e => h (by simp [*])) _
    case h_18 =>
      have hk : kind.toNat = 0 ∨ 18 ≤ kind.toNat := by
        clear h
        simp only [imp_false] at *
        omega
      exact absurd (by simp [hk]) h
    all_goals exact sized_of_length_ne (fun e => h (by simp [*])) _

/-- A malformed request taken by the management handler, after the tests of R178. -/
theorem answers_malformed {i : Instr} {s : State} {h : ReqHeader} {k : Byte} (hi : exec i s = .next (s.takeRequest h (.malformed k)).beginSend) :
    (s.port.buffer ≠ .empty → exec i s = .next s.beginSend) ∧
    (∀ e : Fin 32, s.port.buffer = .empty → s.findEntry .master 255 = some e → BitVec.ofNat 8 (s.port.routes[e]).address ≠ h.src →
      Answers i s h k s .notMaster []) ∧
    (Served s h → Answers i s h k s .badContent []) := by
  refine ⟨fun hbusy => ?_, fun e hempty he haddress => ?_, fun hserved => ?_⟩
  · rw [hi, s.takeRequest_busy _ _ hbusy]
  · have hforeign : s.foreignMaster h.src = true := by
      simp only [State.foreignMaster, State.nodeOf, show s.findEntry .master noStation = some e from he, Option.map_some, Option.any_some,
        bne_iff_ne]
      exact haddress
    unfold Answers
    rw [hi, s.takeRequest_foreign _ _ hempty hforeign]
    rfl
  · obtain ⟨-, -, -, -, hempty, hmaster⟩ := hserved
    unfold Answers
    rw [hi, s.takeRequest_served _ _ hempty (s.foreignMaster_eq_false _ hmaster)]
    rfl

/-! ### The steps of R170 -/

theorem isBadFrame_iff (f : Frame) :
    isBadFrame f = true ↔ f.check ≠ checkWord f ∨ 120 < f.length.toNat ∨ f.length.toNat ≠ f.payload.length := by
  simp [isBadFrame, show Config.maxPayload = 120 from rfl, or_assoc]

theorem isBadFrame_of_good {f : Frame} (hcheck : f.check = checkWord f) (hlen : f.length.toNat = f.payload.length)
    (hmax : f.payload.length ≤ 120) : isBadFrame f = false := by
  rw [← Bool.not_eq_true, isBadFrame_iff]
  simp [hcheck, hlen, hmax]

/-- A frame past steps 1 to 3 is judged. -/
theorem work_of_arrives {s : State} {f : Frame} {own : Byte} (h : Arrives s f own) : s.work (.ringInFrame f) = s.judgeFrame own f := by
  obtain ⟨hm, ha, hcheck, hlen, hmax, hsrc, hhops⟩ := h
  show s.ringIn f = _
  unfold State.ringIn
  rw [isBadFrame_of_good hcheck hlen hmax]
  simp only [State.ownAddress?, hm, ha, hsrc, hhops, Bool.false_eq_true, if_false, or_self]

theorem isCommandKind_iff (k : Byte) : isCommandKind k = true ↔ k = 2 ∨ k = 4 ∨ k = 6 ∨ k = 8 := by
  simp [isCommandKind, kDuty, kPermit, kEjectCommand, kGateCommand, or_assoc]

theorem ownedEntry_iff (e : RouteEntry) :
    ownedEntry e = true ↔ e.present = true ∧ (e.role = 1 ∨ e.role = 2 ∨ e.role = 3 ∨ e.role = 4) := by
  simp [ownedEntry, isOwned, Role.code, or_assoc]

theorem findSource_eq_none_iff (s : State) (r : Role) (src : Byte) : s.findSource r src = none ↔
    ∀ i : Fin 32, ¬((s.port.routes[i]).present = true ∧ (s.port.routes[i]).role = r.code ∧ (s.port.routes[i]).address = src.toNat) := by
  simp [State.findSource, and_assoc]

theorem foreignKey?_all (s : State) : s.foreignKey? 255 = none ↔ ∀ i : Fin 32, ownedEntry s.port.routes[i] = false := by
  simp [State.foreignKey?]

theorem foreignKey?_eq_none_iff (s : State) {dest : Byte} (h : dest ≠ 255) : s.foreignKey? dest = none ↔
    ∀ i : Fin 32, ¬(ownedEntry s.port.routes[i] = true ∧ (s.port.routes[i]).address = dest.toNat) := by
  rw [State.foreignKey?, if_neg h]
  simp

/-- A frame that is no command to an owned node, no sample of a known node and no request to the part reaches no block. -/
theorem judgeFrame_of_none {s : State} {own : Byte} {f : Frame} (hcommand : isCommandKind f.kind = true → s.foreignKey? f.dest = none)
    (hsample : s.sampleEntry? f = none) (hrequest : ¬(f.kind = 9 ∧ f.dest = own)) : s.judgeFrame own f = passed s own f := by
  have hkey : (if isCommandKind f.kind = true then s.foreignKey? f.dest else none) = none := by
    split
    · next h => exact hcommand h
    · rfl
  unfold State.judgeFrame
  simp only [hkey, hsample]
  exact if_neg hrequest

/-- A foreign command is blocked. -/
theorem judgeFrame_of_foreign {s : State} {own : Byte} {f : Frame} (hcommand : isCommandKind f.kind = true) {key : Option (Fin 6)}
    (hkey : s.foreignKey? f.dest = some key) : s.judgeFrame own f = s.raise .foreignCommand key [f.src, f.dest, f.kind] := by
  unfold State.judgeFrame
  simp only [hcommand, if_true, hkey]

theorem judgeFrame_request {s : State} {own : Byte} {f : Frame} (hkind : f.kind = 9) (hdest : f.dest = own) :
    s.judgeFrame own f = s.takeRequest { dest := f.dest, src := f.src, hops := f.hops, seq := f.seq } (parseRequest f.payload) := by
  have hcommand : isCommandKind f.kind = false := by rw [hkind]; rfl
  have hsample : s.sampleEntry? f = none := by simp only [State.sampleEntry?, hkind]; rfl
  unfold State.judgeFrame
  simp only [hcommand, hsample, Bool.false_eq_true, if_false]
  exact if_pos ⟨hkind, hdest⟩

theorem sampleEntry?_of_kind (s : State) {f : Frame} (h : f.kind ≠ 1) (h3 : f.kind ≠ 3) (h5 : f.kind ≠ 5) (h7 : f.kind ≠ 7) :
    s.sampleEntry? f = none := by
  have hrole : sampleRole? f.kind = none := (if_neg h).trans ((if_neg h3).trans ((if_neg h5).trans (if_neg h7)))
  simp [State.sampleEntry?, hrole]

/-- The four sample kinds and the roles that send them. -/
theorem sampleEntry?_of_role (s : State) {f : Frame} {r : Role} (h : sampleRole? f.kind = some r) :
    s.sampleEntry? f = (s.findSource r f.src).map fun i => (r, i) := by
  simp [State.sampleEntry?, h]

/-- Settles O13. -/
theorem foreignCommandIsBlocked : Obligations.ForeignCommandIsBlocked := by
  intro f own s e harrives hkind hpresent hrole honly
  have hcommand := (isCommandKind_iff f.kind).mpr hkind
  have howned := (ownedEntry_iff s.port.routes[e]).mpr ⟨hpresent, hrole⟩
  have hexec : ∀ {key}, s.foreignKey? f.dest = some key →
      exec (.ringInFrame f) s = .next (s.raise .foreignCommand key [f.src, f.dest, f.kind]).beginSend := fun hkey => by
    rw [exec_eq_work, work_of_arrives harrives, judgeFrame_of_foreign hcommand hkey]
  refine ⟨fun hall => hexec ?_, fun hall haddress => ?_⟩
  · rw [hall, State.foreignKey?, if_pos rfl, if_pos]
    exact List.any_eq_true.mpr ⟨e, List.mem_finRange e, howned⟩
  · have hfind : ((List.finRange 32).find? fun i => ownedEntry s.port.routes[i] && (s.port.routes[i]).address == f.dest.toNat) = some e := by
      rw [find?_finRange_eq_some]
      refine ⟨by simp only [howned, haddress, beq_self_eq_true, Bool.and_self], fun j hj => ?_⟩
      rw [← Bool.not_eq_true, Bool.and_eq_true, ownedEntry_iff, beq_iff_eq]
      rintro ⟨⟨hp, -⟩, ha⟩
      exact absurd (honly j hp ha) (ne_of_lt hj)
    have hkey : s.foreignKey? f.dest = some (s.port.routes[e]).key := by rw [State.foreignKey?, if_neg hall, hfind]; rfl
    refine ⟨fun hweigher => hexec (hkey.trans ?_), fun st hother hstation => hexec (hkey.trans ?_)⟩
    · exact congrArg some (if_pos hweigher)
    · rw [← stationOf?_val st, ← hstation]
      exact congrArg some (if_neg hother)

/-- A frame of the part's own, or one with no hops left, is dropped, and the repeater of ISOLATED forwards (R170, R186). -/
theorem ringIn_of_good (s : State) {f : Frame} (hcheck : f.check = checkWord f) (hlen : f.length.toNat = f.payload.length)
    (hmax : f.payload.length ≤ 120) :
    (∀ own, s.mode ≠ .isolated → s.nodeAddress = some own → f.src = own ∨ f.hops = 0 → s.ringIn f = s) ∧
    (s.mode = .isolated → f.hops = 0 → s.ringIn f = s) ∧ (s.mode = .isolated → f.hops ≠ 0 → s.ringIn f = s.forward f) := by
  unfold State.ringIn State.ownAddress?
  simp only [isBadFrame_of_good hcheck hlen hmax, Bool.false_eq_true, if_false]
  refine ⟨fun own hm ha h => ?_, fun hm h => ?_, fun hm h => ?_⟩
  · simp only [hm, if_false, ha, h, if_true]
  · simp only [hm, if_true, h]
  · simp only [hm, if_true, h, if_false]

/-- Forwarding (R171). -/
theorem forward_rule (s : State) (f : Frame) :
    (s.port.forward.length < 4 →
      ∃ g : Frame, s.forward f = { s with port := { s.port with forward := s.port.forward ++ [g] } } ∧
        g.hops = f.hops - 1 ∧ g.check = checkWord g ∧ g.dest = f.dest ∧ g.src = f.src ∧ g.kind = f.kind ∧ g.seq = f.seq ∧
        g.length = f.length ∧ g.payload = f.payload) ∧
    (4 ≤ s.port.forward.length → s.forward f = s) :=
  ⟨fun h => ⟨forwarded f, if_pos h, rfl, rfl, rfl, rfl, rfl, rfl, rfl, rfl⟩, fun h => if_neg (not_lt.mpr h)⟩

/-- The frames of steps 5 to 8 that reach no block. -/
theorem judgeFrame_turned_away {s : State} {f : Frame} {own : Byte} :
    let sentBy (role : Nat) : Prop := ∃ i : Fin 32, (s.port.routes[i]).present = true ∧ (s.port.routes[i]).role = role ∧
      (s.port.routes[i]).address = f.src.toNat
    let owned (i : Fin 32) : Prop := (s.port.routes[i]).present = true ∧
      ((s.port.routes[i]).role = 1 ∨ (s.port.routes[i]).role = 2 ∨ (s.port.routes[i]).role = 3 ∨ (s.port.routes[i]).role = 4)
    let command : Prop := f.kind = 2 ∨ f.kind = 4 ∨ f.kind = 6 ∨ f.kind = 8
    f.kind = 0 ∨ 10 ≤ f.kind.toNat ∨
        f.kind = 1 ∧ ¬sentBy 0 ∨ f.kind = 3 ∧ ¬sentBy 2 ∨ f.kind = 5 ∧ ¬sentBy 3 ∨ f.kind = 7 ∧ ¬sentBy 4 ∨
        command ∧ f.dest ≠ 255 ∧ (∀ i : Fin 32, ¬(owned i ∧ (s.port.routes[i]).address = f.dest.toNat)) ∨
        command ∧ f.dest = 255 ∧ (∀ i : Fin 32, ¬owned i) ∨
        f.kind = 9 ∧ f.dest ≠ own →
      s.judgeFrame own f = passed s own f := by
  intro sentBy owned command h
  have hsample : ∀ {r : Role}, sampleRole? f.kind = some r → ¬sentBy r.code → s.sampleEntry? f = none := fun hr hs => by
    rw [sampleEntry?_of_role s hr, (findSource_eq_none_iff _ _ _).mpr (not_exists.mp hs)]
    rfl
  have hnot : ∀ {k : Byte}, f.kind = k → isCommandKind k = false → isCommandKind f.kind = true → s.foreignKey? f.dest = none :=
    fun hk hc h => absurd (hk ▸ h) (by simp [hc])
  obtain hk | hk | ⟨hk, hs⟩ | ⟨hk, hs⟩ | ⟨hk, hs⟩ | ⟨hk, hs⟩ | ⟨hk, hdest, hnone⟩ | ⟨hk, hdest, hnone⟩ | ⟨hk, hdest⟩ := h
  · exact judgeFrame_of_none (hnot hk rfl) (by simp only [State.sampleEntry?, hk]; rfl) (by rw [hk]; nofun)
  · have hne : ∀ k : Byte, k.toNat < 10 → f.kind ≠ k := fun k hlt e => by rw [e] at hk; omega
    exact judgeFrame_of_none (fun h => absurd ((isCommandKind_iff _).mp h) (by simp [hne]))
      (sampleEntry?_of_kind s (hne _ (by decide)) (hne _ (by decide)) (hne _ (by decide)) (hne _ (by decide)))
      (fun h => hne 9 (by decide) h.1)
  · exact judgeFrame_of_none (hnot hk rfl) (hsample (r := .heat) (by rw [hk]; rfl) hs) (by rw [hk]; nofun)
  · exact judgeFrame_of_none (hnot hk rfl) (hsample (r := .press) (by rw [hk]; rfl) hs) (by rw [hk]; nofun)
  · exact judgeFrame_of_none (hnot hk rfl) (hsample (r := .ejector) (by rw [hk]; rfl) hs) (by rw [hk]; nofun)
  · exact judgeFrame_of_none (hnot hk rfl) (hsample (r := .weigher) (by rw [hk]; rfl) hs) (by rw [hk]; nofun)
  · refine judgeFrame_of_none (fun _ => (foreignKey?_eq_none_iff s hdest).mpr fun i hi => hnone i ⟨(ownedEntry_iff _).mp hi.1, hi.2⟩) ?_ ?_
    · obtain h | h | h | h := hk <;> simp only [State.sampleEntry?, h] <;> rfl
    · obtain h | h | h | h := hk <;> rw [h] <;> nofun
  · refine judgeFrame_of_none (fun _ => hdest ▸ (foreignKey?_all s).mpr fun i => ?_) ?_ ?_
    · rw [← Bool.not_eq_true, ownedEntry_iff]
      exact hnone i
    · obtain h | h | h | h := hk <;> simp only [State.sampleEntry?, h] <;> rfl
    · obtain h | h | h | h := hk <;> rw [h] <;> nofun
  · exact judgeFrame_of_none (hnot hk rfl) (by simp only [State.sampleEntry?, hk]; rfl) (fun h => hdest h.2)

/-- Settles O12. -/
theorem framesTurnedAway : Obligations.FramesTurnedAway := by
  refine ⟨fun f s => ⟨rfl, rfl, rfl, rfl⟩, fun f s hbad => ?_, fun f s hcheck hlen hmax => ?_, fun f own s harrives => ⟨fun h => ?_, ?_⟩,
    fun f s => forward_rule s f⟩
  · have h : s.ringIn f = s.countLineError := if_pos ((isBadFrame_iff f).mpr hbad)
    rw [exec_eq_work, show s.work (.ringInFrame f) = s.countLineError from h]
    rfl
  · have hexec : ∀ {t}, s.ringIn f = t → exec (.ringInFrame f) s = .next t.beginSend := fun h => by
      rw [exec_eq_work, show s.work (.ringInFrame f) = _ from h]
    obtain ⟨hown, hdrop, hforward⟩ := ringIn_of_good s hcheck hlen hmax
    exact ⟨fun own hm ha h => hexec (hown own hm ha h), fun hm h => hexec (hdrop hm h), fun hm h => hexec (hforward hm h)⟩
  · rw [exec_eq_work, work_of_arrives harrives, judgeFrame_turned_away h]
  · intro hkind hdest hfits h
    refine answers_malformed (h := h) ?_
    rw [exec_eq_work, work_of_arrives harrives, judgeFrame_request hkind hdest, parseRequest_of_not_fits hfits]

end Sys2Proof.Claim
end

section
/-! PROOFS. Samples (R170 step 5, R174, R191): which payloads are wrong, what the bytes of a good one mean, and where it goes. -/

namespace Sys2Proof.Claim

open Sys2Proof.Machine

/-! ### Coded fields -/

theorem channelStatus_ofCode?_eq_none_iff (n : Nat) : ChannelStatus.ofCode? n = none ↔ 4 ≤ n := by
  unfold ChannelStatus.ofCode?
  split <;> (simp_all; try omega)

theorem permission_ofCode?_eq_none_iff (n : Nat) : Permission.ofCode? n = none ↔ 3 ≤ n := by
  unfold Permission.ofCode?
  split <;> (simp_all; try omega)

theorem weighStatus_ofCode?_eq_none_iff (n : Nat) : WeighStatus.ofCode? n = none ↔ 3 ≤ n := by
  unfold WeighStatus.ofCode?
  split <;> (simp_all; try omega)

theorem ejectCmdOf?_eq_none_iff (n m : Nat) : ejectCmdOf? n m = none ↔ 2 ≤ n := by
  unfold ejectCmdOf?
  split <;> (simp_all; try omega)

theorem gateOf?_eq_none_iff (n m : Nat) : gateOf? n m = none ↔ 3 ≤ n ∨ n = 1 ∧ 6 ≤ m := by
  unfold gateOf?
  split <;> (simp_all; try omega)

theorem code_of_channelStatus {n : Nat} {x : ChannelStatus} (h : ChannelStatus.ofCode? n = some x) : x.code = n := by
  unfold ChannelStatus.ofCode? at h
  split at h <;> cases h <;> rfl

theorem code_of_permission {n : Nat} {x : Permission} (h : Permission.ofCode? n = some x) : x.code = n := by
  unfold Permission.ofCode? at h
  split at h <;> cases h <;> rfl

theorem code_of_weighStatus {n : Nat} {x : WeighStatus} (h : WeighStatus.ofCode? n = some x) : x.code = n := by
  unfold WeighStatus.ofCode? at h
  split at h <;> cases h <;> rfl

/-! ### Wrong payloads (R191) -/

theorem parseHeat_eq_none_iff (p : List Byte) : parseHeat p = none ↔ p.length ≠ 50 ∨ ∃ i : Fin 16, 4 ≤ byteAt p (2 + 3 * i.val) := by
  unfold parseHeat
  simp only [← channelStatus_ofCode?_eq_none_iff, byteAt, read8, ite_eq_right_iff, reduceCtorEq, imp_false, not_and_or, List.all_eq_true,
    List.mem_finRange, true_implies, not_forall, Bool.not_eq_true, Option.isSome_eq_false_iff, Option.isNone_iff_eq_none, ne_eq]

theorem parsePress_eq_none_iff (p : List Byte) : parsePress p = none ↔ p.length ≠ 6 ∨ 3 ≤ byteAt p 5 := by
  rw [← permission_ofCode?_eq_none_iff]
  unfold parsePress
  split <;> simp_all [byteAt, read8]

theorem parseEject_eq_none_iff (p : List Byte) : parseEject p = none ↔ p.length ≠ 7 ∨ 2 ≤ byteAt p 4 := by
  rw [← ejectCmdOf?_eq_none_iff _ (read16 p 5)]
  unfold parseEject
  split <;> simp_all [byteAt, read8]

theorem parseWeigh_eq_none_iff (p : List Byte) :
    parseWeigh p = none ↔ p.length ≠ 8 ∨ 3 ≤ byteAt p 5 ∨ 3 ≤ byteAt p 6 ∨ byteAt p 6 = 1 ∧ 6 ≤ byteAt p 7 := by
  rw [← weighStatus_ofCode?_eq_none_iff, ← gateOf?_eq_none_iff]
  show _ ↔ _ ∨ WeighStatus.ofCode? (read8 p 5) = none ∨ gateOf? (read8 p 6) (read8 p 7) = none
  unfold parseWeigh
  cases WeighStatus.ofCode? (read8 p 5) <;> cases gateOf? (read8 p 6) (read8 p 7) <;> simp

/-! ### What the bytes of a good sample mean (12.1) -/

theorem read16_eq_byteAt (p : List Byte) (k : Nat) : read16 p k = byteAt p k * 256 + byteAt p (k + 1) := rfl

/-- A number of two bytes fits the 16-bit word it is kept in. -/
theorem toNat_read16 (p : List Byte) (k : Nat) : (BitVec.ofNat 16 (read16 p k)).toNat = byteAt p k * 256 + byteAt p (k + 1) := by
  have h0 : byteAt p k < 256 := (p.getD k 0).isLt
  have h1 : byteAt p (k + 1) < 256 := (p.getD (k + 1) 0).isLt
  rw [BitVec.toNat_ofNat, read16_eq_byteAt]
  omega

theorem parseHeat_eq_some {p : List Byte} {m : HeatSample} (h : parseHeat p = some m) : m.nodeRound.toNat = byteAt p 0 * 256 + byteAt p 1 ∧
    ∀ i : Fin 16, (m.channels[i]).1.code = byteAt p (2 + 3 * i.val) ∧
      (m.channels[i]).2 = byteAt p (3 + 3 * i.val) * 256 + byteAt p (4 + 3 * i.val) := by
  unfold parseHeat at h
  split at h
  · next hgood =>
    obtain ⟨-, hall⟩ := hgood
    cases h
    refine ⟨toNat_read16 p 0, fun i => ?_⟩
    obtain ⟨x, hx⟩ := Option.isSome_iff_exists.mp (List.all_eq_true.mp hall i (List.mem_finRange i))
    simp only [Fin.getElem_fin, Vector.getElem_ofFn, hx, Option.getD_some]
    exact ⟨code_of_channelStatus hx, by rw [read16_eq_byteAt, show 4 + 3 * i.val = 3 + 3 * i.val + 1 by omega]⟩
  · cases h

theorem parsePress_eq_some {p : List Byte} {m : PressSample} (h : parsePress p = some m) :
    m.ram = byteAt p 0 * 256 + byteAt p 1 ∧ m.tonnage = byteAt p 2 * 256 + byteAt p 3 ∧
      m.stop = decide (byteAt p 4 % 2 = 1) ∧ m.auto = decide (byteAt p 4 / 2 % 2 = 1) ∧ m.echo.code = byteAt p 5 := by
  unfold parsePress at h
  split at h
  · obtain ⟨e, he, rfl⟩ := Option.map_eq_some_iff.mp h
    refine ⟨rfl, rfl, ?_, ?_, code_of_permission he⟩
    · simp [byteAt, BitVec.getLsbD, Nat.testBit_zero]
    · simp [byteAt, BitVec.getLsbD, Nat.testBit_succ]
  · cases h

theorem parseEject_eq_some {p : List Byte} {m : EjectSample} (h : parseEject p = some m) :
    m.position = byteAt p 0 * 256 + byteAt p 1 ∧ m.force = byteAt p 2 * 256 + byteAt p 3 ∧
      (byteAt p 4 = 0 → m.echo = .retract) ∧ (byteAt p 4 = 1 → m.echo = .extend (byteAt p 5 * 256 + byteAt p 6)) := by
  unfold parseEject at h
  split at h
  · obtain ⟨e, he, rfl⟩ := Option.map_eq_some_iff.mp h
    refine ⟨rfl, rfl, fun h0 => ?_, fun h1 => ?_⟩
    · rw [show read8 p 4 = 0 from h0] at he
      exact (Option.some.inj he).symm
    · rw [show read8 p 4 = 1 from h1] at he
      exact (Option.some.inj he).symm
  · cases h

theorem parseWeigh_eq_some {p : List Byte} {m : WeighSample} (h : parseWeigh p = some m) :
    m.counter.toNat = byteAt p 0 * 256 + byteAt p 1 ∧
      (∀ n, n = byteAt p 2 * 65536 + byteAt p 3 * 256 + byteAt p 4 → m.raw = if n < 8388608 then (n : Int) else (n : Int) - 16777216) ∧
      m.status.code = byteAt p 5 ∧ (byteAt p 6 = 0 → m.gate = .neutral) ∧ (byteAt p 6 = 2 → m.gate = .divert) ∧
      (∀ st : Fin 6, byteAt p 6 = 1 → byteAt p 7 = st.val → m.gate = .pass st) := by
  unfold parseWeigh at h
  split at h
  · split at h
    · next x g hx hg =>
      cases h
      refine ⟨toNat_read16 p 0, fun n hn => ?_, code_of_weighStatus hx, fun h0 => ?_, fun h2 => ?_, fun st h1 hst => ?_⟩
      · have hread : read8 p 2 * 65536 + read16 p 3 = n := by
          rw [hn, read16_eq_byteAt, Nat.add_assoc]
          rfl
        dsimp only [readS24]
        rw [hread]
        split <;> split <;> omega
      · rw [show read8 p 6 = 0 from h0] at hg
        exact (Option.some.inj hg).symm
      · rw [show read8 p 6 = 2 from h2] at hg
        exact (Option.some.inj hg).symm
      · rw [show read8 p 6 = 1 from h1, show read8 p 7 = st.val from hst] at hg
        simpa [gateOf?, eq_comm] using hg
    · cases h
  · cases h

/-! ### Where a sample goes (R170 step 5) -/

/-- A sample of a known node goes to its block, and is then removed or forwarded. -/
theorem exec_sample {s : State} {f : SampleFrame} {own k : Byte} {i : Instr} {r : Role} {e : Fin 32}
    (hi : s.work i = s.work (.ringInFrame (f.frame k))) (hr : sampleRole? k = some r) (hc : isCommandKind k = false)
    (harrives : Arrives s (f.frame k) own) (he : s.findSource r f.src = some e) :
    exec i s = .next (passed (s.takeSample r e f.payload) own (f.frame k)).beginSend := by
  have hcommand : isCommandKind (f.frame k).kind = false := hc
  have hsample : s.sampleEntry? (f.frame k) = some (r, e) := by
    rw [sampleEntry?_of_role s (f := f.frame k) hr, show s.findSource r (f.frame k).src = some e from he]
    rfl
  rw [exec_eq_work, hi, work_of_arrives harrives]
  unfold State.judgeFrame
  simp only [hcommand, Bool.false_eq_true, if_false, hsample]
  rfl

theorem handOver_none {α : Type} {s : State} {e : Fin 32} {work : State → Fin 6 → α → State} :
    s.handOver e none work = s.countLineError := rfl

theorem handOver_some {α : Type} {s : State} {e : Fin 32} {st : Fin 6} (hst : (s.port.routes[e]).station = st.val) (m : α)
    {work : State → Fin 6 → α → State} : s.handOver e (some m) work = work (s.hearNode e) st m := by
  simp only [State.handOver, hst, stationOf?_val]

/-- Settles O14. -/
theorem wrongSampleIsCounted : Obligations.WrongSampleIsCounted := by
  refine ⟨fun p => ⟨parseHeat_eq_none_iff p, parsePress_eq_none_iff p, parseEject_eq_none_iff p, parseWeigh_eq_none_iff p⟩,
    fun f own s e => ⟨fun harrives he hp => ?_, fun harrives he hp => ?_, fun harrives he hp => ?_, fun harrives he hp => ?_⟩⟩
  · rw [exec_sample (i := .heatSample f) rfl rfl rfl harrives he, State.takeSample, hp]; rfl
  · rw [exec_sample (i := .pressSample f) rfl rfl rfl harrives he, State.takeSample, hp]; rfl
  · rw [exec_sample (i := .ejectSample f) rfl rfl rfl harrives he, State.takeSample, hp]; rfl
  · rw [exec_sample (i := .weighSample f) rfl rfl rfl harrives he, State.takeSample, hp]; rfl

/-- Settles O15. -/
theorem goodSampleReachesItsBlock : Obligations.GoodSampleReachesItsBlock := by
  refine ⟨fun s r src => ⟨findSource_eq_none_iff s r src, fun e => ?_⟩,
    fun p => ⟨fun m => parseHeat_eq_some, fun m => parsePress_eq_some, fun m => parseEject_eq_some, fun m => parseWeigh_eq_some⟩,
    fun f own s e st => ⟨fun m harrives he hst hp => ?_, fun m harrives he hst hp => ?_, fun m harrives he hst hp => ?_,
      fun m harrives he hp => ?_⟩⟩
  · simp only [State.findSource, find?_finRange_eq_some, Bool.and_eq_true, beq_iff_eq, and_assoc, ← Bool.not_eq_true]
  · rw [exec_sample (i := .heatSample f) rfl rfl rfl harrives he, State.takeSample, hp, handOver_some hst]; rfl
  · rw [exec_sample (i := .pressSample f) rfl rfl rfl harrives he, State.takeSample, hp, handOver_some hst]; rfl
  · rw [exec_sample (i := .ejectSample f) rfl rfl rfl harrives he, State.takeSample, hp, handOver_some hst]; rfl
  · rw [exec_sample (i := .weighSample f) rfl rfl rfl harrives he, State.takeSample, hp]; rfl

end Sys2Proof.Claim
end

section
/-! PROOFS. A zone's part of a full round (R50 to R56), its fault detection (R71 to R75), and what a full round leaves in a station (R46 to
R61). -/

namespace Sys2Proof.Machine

/-! ### Conditioning (R50 to R53) -/

theorem conditioned_le (e : ZoneFigures) (c : Nat) : conditioned e c ≤ 4000 := min_le_left _ _

/-- A fed window is the old one with the sample at its newest end, held to its depth. -/
theorem feedWindow_eq {a : Nat} (ha : 1 ≤ a) (w : List Nat) (t : Nat) : feedWindow a w t = (w ++ [t]).drop (w.length + 1 - a) := by
  unfold feedWindow
  split
  · rw [List.drop_append_of_le_length (by omega)]
  · rw [show w.length + 1 - a = 0 by omega, List.drop_zero]

theorem length_feedWindow_le {a : Nat} (ha : 1 ≤ a) {w : List Nat} (hw : w.length ≤ a) (t : Nat) : (feedWindow a w t).length ≤ a := by
  rw [feedWindow_eq ha, List.length_drop, List.length_append, List.length_singleton]
  omega

theorem mem_feedWindow {a : Nat} {w : List Nat} {t n : Nat} (h : n ∈ feedWindow a w t) : n ∈ w ∨ n = t := by
  unfold feedWindow at h
  split at h
  · obtain h | h := List.mem_append.mp h
    · exact Or.inl (List.mem_of_mem_drop h)
    · exact Or.inr (List.mem_singleton.mp h)
  · simpa using h

theorem average_le {w : List Nat} {b : Nat} (h : ∀ n ∈ w, n ≤ b) {a : Nat} (ha : average w = some a) : a ≤ b := by
  unfold average at ha
  split at ha
  · cases ha
  · obtain rfl := Option.some.inj ha
    exact Nat.div_le_of_le_mul (by simpa using List.sum_le_card_nsmul w b h)

section Condition
variable {z : Zone} (status : ChannelStatus) (raw : Nat)

theorem Zone.condition_of_absent (h : z.entry.present = false) : z.condition status raw = z := by simp [Zone.condition, h]

/-- The temperature a round conditions, of an OK channel alone (R51). -/
def Zone.conditionedT (z : Zone) (status : ChannelStatus) (raw : Nat) : Option Nat :=
  if status = .ok then some (conditioned z.entry.toZoneFigures raw) else none

theorem Zone.condition_of_faulted (hp : z.entry.present = true) (hf : z.fault ≠ .none) :
    z.condition status raw = { z with lastStatus := status, lastT := z.conditionedT status raw, kind := some .faulted } := by
  simp [Zone.condition, Zone.conditionedT, hp, hf]

theorem Zone.condition_of_inService (hp : z.entry.present = true) (hf : z.fault = .none) :
    z.condition status raw =
      let w := (z.conditionedT status raw).elim z.samples (feedWindow z.entry.depth z.samples)
      { z with lastStatus := status, lastT := z.conditionedT status raw, samples := w, tavg := average w,
               kind := if w.isEmpty then some .unread else some .driven } := by
  simp [Zone.condition, Zone.conditionedT, hp, hf]

end Condition

/-! ### Setpoint, error and integral (R54 to R56) -/

theorem coe_zoneSetpoint (sg : Nat) (trim : Int) : (zoneSetpoint sg trim : Int) = max 0 (min 4000 ((sg : Int) + trim)) := by
  rw [zoneSetpoint, limit_eq_max_min (by decide), Int.toNat_of_nonneg (le_max_left _ _)]

theorem Zone.regulate_of_not_inService {z : Zone} (g : Group) (lim : Bool) (h : z.entry.present = false ∨ z.fault ≠ .none) :
    z.regulate g lim = z := by
  unfold Zone.regulate
  rw [if_pos (by simpa using h)]

theorem Zone.regulate_of_unread {z : Zone} (g : Group) (lim : Bool) (hp : z.entry.present = true) (hf : z.fault = .none)
    (hk : z.kind = some .unread) : z.regulate g lim = { z with sz := zoneSetpoint g.sg z.entry.trim } := by
  simp [Zone.regulate, hp, hf, hk]

/-- The integral of a driven zone stands, or takes the error within its limit (R56). -/
theorem nextIntegral_cases (z : Zone) (lim : Bool) (e : Int) :
    (((z.prevDemand = .high ∧ 0 < e) ∨ (z.prevDemand = .low ∧ e < 0) ∨ (lim = true ∧ 0 < e)) → nextIntegral z lim e = z.integral) ∧
    (¬((z.prevDemand = .high ∧ 0 < e) ∨ (z.prevDemand = .low ∧ e < 0) ∨ (lim = true ∧ 0 < e)) → nextIntegral z lim e =
      max (-(z.entry.integralLimit : Int)) (min z.entry.integralLimit (z.integral + e))) :=
  ⟨fun h => if_pos h, fun h => (if_neg h).trans (limit_eq_max_min (by omega) _)⟩

/-- Settles O20. -/
theorem zoneRoundRule : Obligations.ZoneRoundRule := by
  refine ⟨fun z status raw => ?condition, fun z status raw hsamples hp hf => ?bounds, fun z g lim t hp hf hk ht => ?driven,
    fun z g lim => ⟨z.regulate_of_not_inService g lim, fun hp hf hk => ?unread⟩⟩
  case condition =>
    refine ⟨Zone.condition_of_absent status raw, Zone.condition_of_faulted status raw, fun hp hf hdepth => ?_⟩
    have hwindow : (z.conditionedT status raw).elim z.samples (feedWindow z.entry.depth z.samples) =
        if status = .ok then (z.samples ++ [min 4000 ((raw - z.entry.offset) * z.entry.gain / 32768)]).drop
          (z.samples.length + 1 - z.entry.depth) else z.samples := by
      unfold Zone.conditionedT
      split
      · exact feedWindow_eq hdepth _ _
      · rfl
    rw [Zone.condition_of_inService status raw hp hf]
    refine ⟨fun hne => ?_, fun hempty => ?_, fun hlen => ?_⟩
    · dsimp only
      rw [hwindow]
      simp only [average, List.isEmpty_iff, hne, if_false]
      rfl
    · dsimp only
      rw [hwindow]
      simp only [average, hempty, List.isEmpty_nil, if_true]
      rfl
    · rw [← hwindow]
      unfold Zone.conditionedT
      split
      · exact length_feedWindow_le hdepth hlen _
      · exact hlen
  case bounds =>
    have hfed : ∀ n ∈ (z.conditionedT status raw).elim z.samples (feedWindow z.entry.depth z.samples), n ≤ 4000 := fun n hn => by
      unfold Zone.conditionedT at hn
      split at hn
      · obtain h | rfl := mem_feedWindow hn
        · exact hsamples n h
        · exact conditioned_le _ _
      · exact hsamples n hn
    rw [Zone.condition_of_inService status raw hp hf]
    exact ⟨hfed, fun a ha => average_le hfed ha⟩
  case driven =>
    obtain ⟨hstands, hmoves⟩ := nextIntegral_cases z lim ((zoneSetpoint g.sg z.entry.trim : Int) - t)
    rw [Zone.regulate_of_driven g lim hp hf hk ht]
    exact ⟨coe_zoneSetpoint _ _, rfl, hstands, hmoves, rfl, rfl, rfl, rfl, rfl, rfl⟩
  case unread =>
    rw [Zone.regulate_of_unread g lim hp hf hk, ← coe_zoneSetpoint]
    rfl

/-! ### Fault detection (R71 to R75) -/

theorem Zone.countStatus_eq (z : Zone) : z.countStatus = { z with
    openCount := if z.lastStatus = .openTc ∨ z.lastStatus = .absent then z.openCount + 1 else 0
    rangeCount := if z.lastStatus = .range then z.rangeCount + 1 else 0 } := by
  unfold Zone.countStatus
  split <;> simp [*]

theorem Zone.countStuck_eq (z : Zone) : z.countStuck = { z with
    stuckCount := if z.dutySent = 0 ∧ z.reading.any (fun t => z.sz + z.entry.runaway ≤ t) = true then z.stuckCount + 1 else 0 } := by
  unfold Zone.countStuck
  split
  · next t ht => rw [ht]; simp only [Option.any_some, decide_eq_true_eq]; split <;> rfl
  · next ht => simp [ht]

/-- The heater-open run of a zone (R74): `run` and `ref` after the round, and whether the fault falls due. -/
theorem Zone.countHeaterOpen_eq {z : Zone} {run ref : Nat} {due : Bool}
    (hbroken : ¬(z.demand = 2047 ∧ z.reading ≠ none) → run = 0 ∧ ref = z.heaterOpenRef ∧ due = false)
    (hfull : ∀ t, z.demand = 2047 ∧ z.reading ≠ none → z.reading = some t →
      (z.heaterOpenCount = 0 → run = 1 ∧ ref = t ∧ due = false) ∧
      (0 < z.heaterOpenCount → z.heaterOpenCount < 15 → run = z.heaterOpenCount + 1 ∧ ref = z.heaterOpenRef ∧ due = false) ∧
      (15 ≤ z.heaterOpenCount → t < z.heaterOpenRef + 10 → run = z.heaterOpenCount + 1 ∧ ref = z.heaterOpenRef ∧ due = true) ∧
      (15 ≤ z.heaterOpenCount → z.heaterOpenRef + 10 ≤ t → run = 1 ∧ ref = t ∧ due = false)) :
    z.countHeaterOpen = ({ z with heaterOpenCount := run, heaterOpenRef := ref }, due) := by
  unfold Zone.countHeaterOpen
  split
  · next hr =>
    obtain ⟨rfl, rfl, rfl⟩ := hbroken (by simp [hr])
    rfl
  · next t hr =>
    by_cases hd : z.demand = 2047
    · obtain ⟨hfirst, hrun, hdue, hrose⟩ := hfull t ⟨hd, by simp [hr]⟩ hr
      rw [if_neg (not_not.mpr hd)]
      by_cases h0 : z.heaterOpenCount = 0
      · obtain ⟨rfl, rfl, rfl⟩ := hfirst h0
        rw [if_pos h0]
      · rw [if_neg h0]
        by_cases h16 : z.heaterOpenCount + 1 < 16
        · obtain ⟨rfl, rfl, rfl⟩ := hrun (by omega) (by omega)
          rw [if_pos h16]
        · rw [if_neg h16]
          by_cases ht : t < z.heaterOpenRef + 10
          · obtain ⟨rfl, rfl, rfl⟩ := hdue (by omega) ht
            rw [if_pos ht]
          · obtain ⟨rfl, rfl, rfl⟩ := hrose (by omega) (by omega)
            rw [if_neg ht]
    · obtain ⟨rfl, rfl, rfl⟩ := hbroken (fun h => hd h.1)
      rw [if_pos hd]

theorem Zone.judgeFault_of_not_inService {z : Zone} (h : z.entry.present = false ∨ z.fault ≠ .none) : z.judgeFault = z := by
  unfold Zone.judgeFault Zone.inService
  rw [if_pos (by simpa [imp_iff_not_or] using h)]

/-- Step 1 of R67 for a zone in service, by the counted zone and the fault that falls due. -/
theorem Zone.judgeFault_of_inService {z : Zone} (h : z.inService = true) {y : Zone} {due : Bool}
    (hy : z.countStatus.countStuck.countHeaterOpen = (y, due)) :
    (dueFault y due = .none → z.judgeFault = y) ∧ (dueFault y due ≠ .none → z.judgeFault = y.takeFault (dueFault y due)) := by
  unfold Zone.judgeFault
  simp only [h, hy, Bool.not_true, Bool.false_eq_true, if_false]
  refine ⟨fun hd => by rw [hd], fun hd => ?_⟩
  split
  · next hf => exact absurd hf hd
  · rfl

/-- Settles O22. -/
theorem zoneFaultRule : Obligations.ZoneFaultRule := by
  intro z
  refine ⟨Zone.judgeFault_of_not_inService, fun hp hf run ref due hbroken hfull f hfault => ?_⟩
  have hcount : z.countStatus.countStuck.countHeaterOpen =
      ({ z.countStatus.countStuck with heaterOpenCount := run, heaterOpenRef := ref }, due) := by
    refine Zone.countHeaterOpen_eq (run := run) (ref := ref) ?_ ?_
    · rw [Zone.countStatus_eq, Zone.countStuck_eq]
      exact hbroken
    · rw [Zone.countStatus_eq, Zone.countStuck_eq]
      exact hfull
  obtain ⟨hnone, hsome⟩ := Zone.judgeFault_of_inService (Zone.inService_of_not_faulted hp hf) hcount
  have hdue : dueFault { z.countStatus.countStuck with heaterOpenCount := run, heaterOpenRef := ref } due = f := by
    rw [hfault, Zone.countStatus_eq, Zone.countStuck_eq]
    rfl
  rw [hdue] at hnone hsome
  refine ⟨fun h => (hnone h).trans ?_, fun h => (hsome h).trans ?_⟩
  · rw [Zone.countStatus_eq, Zone.countStuck_eq]
    rfl
  · rw [Zone.countStatus_eq, Zone.countStuck_eq]
    rfl

/-! ### A full round's arithmetic on a station (R46 to R61) -/

/-- Scaled to a budget below their sum, floored numbers sum to at most the budget (R59). -/
theorem sum_budgeted_le (l : List Nat) (b : Nat) : (l.map fun n => budgeted n b l.sum).sum ≤ b := by
  unfold budgeted
  split
  · next h => simpa using h
  · next h =>
    have hscaled : ∀ l' : List Nat, (l'.map fun n => n * b / l.sum).sum * l.sum ≤ l'.sum * b := fun l' => by
      induction l' with
      | nil => simp
      | cons n rest ih =>
        have hn := Nat.div_mul_le_self (n * b) l.sum
        rw [List.map_cons, List.sum_cons, List.sum_cons, Nat.add_mul, Nat.add_mul]
        omega
    exact Nat.le_of_mul_le_mul_right ((hscaled l).trans (by rw [Nat.mul_comm])) (by omega)

theorem budgeted_eq (n b sigma : Nat) : budgeted n b sigma = if b < sigma then n * b / sigma else n := by
  unfold budgeted
  split <;> split <;> first | rfl | omega

theorem budgeted_le (n b sigma : Nat) : budgeted n b sigma ≤ n := by
  unfold budgeted
  split
  · rfl
  · next h => exact Nat.div_le_of_le_mul (by rw [Nat.mul_comm]; exact Nat.mul_le_mul_right n (by omega))

/-- A zone that a round finds driven has an average (R50, R52). -/
theorem Zone.tavg_of_driven_condition {z : Zone} {status : ChannelStatus} {raw : Nat} (hp : z.entry.present = true) (hf : z.fault = .none)
    (hk : (z.condition status raw).kind = some .driven) : ∃ t, (z.condition status raw).tavg = some t := by
  rw [Zone.condition_of_inService status raw hp hf] at hk ⊢
  dsimp only at hk ⊢
  unfold average
  split at hk
  · cases hk
  · next h => exact ⟨_, if_neg h⟩

theorem Zone.fault_condition (z : Zone) (status : ChannelStatus) (raw : Nat) : (z.condition status raw).fault = z.fault := by
  unfold Zone.condition
  split
  · rfl
  · dsimp only
    split <;> rfl

theorem Zone.regulate_fixed (z : Zone) (g : Group) (lim : Bool) :
    (z.regulate g lim).entry = z.entry ∧ (z.regulate g lim).fault = z.fault ∧ (z.regulate g lim).kind = z.kind := by
  unfold Zone.regulate
  split
  · exact ⟨rfl, rfl, rfl⟩
  · dsimp only
    split <;> exact ⟨rfl, rfl, rfl⟩

/-- A zone conditioned and regulated in a round has a dithered value of one byte. -/
theorem Zone.nOut_round_le (z : Zone) (status : ChannelStatus) (raw : Nat) (g : Group) (lim : Bool) (p : Nat) :
    (((z.condition status raw).regulate g lim).nOut p) ≤ 255 := by
  obtain ⟨hentry, hfault, hkind⟩ := (z.condition status raw).regulate_fixed g lim
  unfold Zone.nOut
  split
  · next h =>
    obtain ⟨hp, hf, hk⟩ := h
    rw [hentry] at hp
    rw [hfault] at hf
    rw [hkind] at hk
    obtain ⟨t, ht⟩ := Zone.tavg_of_driven_condition (z.entry_condition status raw ▸ hp) (z.fault_condition status raw ▸ hf) hk
    refine dither_le ?_ p
    rw [Zone.demand_regulate_of_driven g lim hp hf hk ht]
    exact demandOf_le _ _ _ _ _
  · exact Nat.zero_le _

/-- Stages 1 to 4 on one zone, with the group it follows after the round's ramp step. -/
def Station.roundZone (x : Station) (m : HeatSample) (i : Fin 16) : Zone :=
  ((x.zones[i]).condition (m.channels[i]).1 (m.channels[i]).2).regulate (x.conditionAll m).stepGroups.groups[(x.zones[i]).entry.group]
    x.round.budgetLimited

theorem Station.nOut_roundZone_le (x : Station) (m : HeatSample) (i : Fin 16) (p : Nat) : (x.roundZone m i).nOut p ≤ 255 :=
  Zone.nOut_round_le _ _ _ _ _ _

theorem Station.zones_regulateAll (x : Station) (m : HeatSample) (i : Fin 16) :
    (((x.conditionAll m).stepGroups).regulateAll).zones[i] = x.roundZone m i := by
  simp [Station.regulateAll, Station.stepGroups, Station.conditionAll, Station.roundZone, Zone.entry_condition]

theorem Station.zones_applyBudget (x : Station) (p sigma : Nat) (i : Fin 16) : (x.applyBudget p sigma).zones[i] =
    { x.zones[i] with dutySent := budgeted ((x.zones[i]).nOut p) x.settings.budget sigma } := by
  simp [Station.applyBudget]

theorem Station.lastSigma_fullRound (x : Station) (m : HeatSample) (now : Time) :
    (x.fullRound m now).round.lastSigma = ((List.finRange 16).map fun i => (x.roundZone m i).nOut x.nextPhase).sum := by
  show (((x.conditionAll m).stepGroups).regulateAll).sigma x.nextPhase = _
  unfold Station.sigma
  simp only [x.zones_regulateAll m]

theorem Station.zones_fullRound (x : Station) (m : HeatSample) (now : Time) (i : Fin 16) : (x.fullRound m now).zones[i] =
    { x.roundZone m i with
      dutySent := budgeted ((x.roundZone m i).nOut x.nextPhase) x.settings.budget (x.fullRound m now).round.lastSigma } := by
  rw [← x.zones_regulateAll m]
  exact (((x.conditionAll m).stepGroups).regulateAll).zones_applyBudget _ _ i

/-- The groups of a full round are those of its third stage. -/
theorem Station.groups_fullRound (x : Station) (m : HeatSample) (now : Time) :
    (x.fullRound m now).groups = (x.conditionAll m).stepGroups.groups := rfl

theorem Station.groups_stepGroups (x : Station) (g : Fin 4) : x.stepGroups.groups[g] = x.stepGroup g := by
  simp [Station.stepGroups]

/-- The duties of a full round sum to at most the budget (R59). -/
theorem Station.sum_duties_fullRound_le (x : Station) (m : HeatSample) (now : Time) :
    (x.fullRound m now).duties.sum ≤ x.settings.budget := by
  have h := sum_budgeted_le ((List.finRange 16).map fun i => (x.roundZone m i).nOut x.nextPhase) x.settings.budget
  rw [← x.lastSigma_fullRound m now, List.map_map] at h
  refine le_of_eq_of_le (congrArg List.sum (List.map_congr_left fun i _ => ?_)) h
  simp only [x.zones_fullRound, Function.comp_apply]

/-- A zone that is absent, faulted or unread is sent 0. -/
theorem Station.dutySent_fullRound_eq_zero {x : Station} {m : HeatSample} {now : Time} {i : Fin 16}
    (h : (x.zones[i]).entry.present = false ∨ (x.zones[i]).fault ≠ .none ∨ ((x.fullRound m now).zones[i]).kind = some .unread) :
    ((x.fullRound m now).zones[i]).dutySent = 0 := by
  obtain ⟨hentry, hfault, -⟩ := ((x.zones[i]).condition (m.channels[i]).1 (m.channels[i]).2).regulate_fixed
    (x.conditionAll m).stepGroups.groups[(x.zones[i]).entry.group] x.round.budgetLimited
  rw [Zone.entry_condition] at hentry
  rw [Zone.fault_condition] at hfault
  rw [x.zones_fullRound] at h ⊢
  have hout : (x.roundZone m i).nOut x.nextPhase = 0 := by
    refine Zone.nOut_of_not_driven _ ?_
    obtain h | h | h := h
    · exact Or.inl (hentry ▸ h)
    · exact Or.inr (Or.inl (hfault ▸ h))
    · exact Or.inr (Or.inr (by rw [show (x.roundZone m i).kind = some .unread from h]; nofun))
  simp only [hout, budgeted_zero]

theorem Station.dutySent_fullRound_le (x : Station) (m : HeatSample) (now : Time) (i : Fin 16) :
    ((x.fullRound m now).zones[i]).dutySent ≤ 255 := by
  rw [x.zones_fullRound]
  generalize (x.fullRound m now).round.lastSigma = sigma
  exact (budgeted_le _ _ sigma).trans (x.nOut_roundZone_le m i x.nextPhase)

theorem Station.round_fullRound (x : Station) (m : HeatSample) (now : Time) : (x.fullRound m now).round =
    x.account m.nodeRound now ((((x.conditionAll m).stepGroups).regulateAll).sigma x.nextPhase) (x.fullRound m now).duties.sum := rfl

/-- A round is budget-limited when its sum is above the budget (R60). -/
theorem Station.budgetLimited_fullRound_iff (x : Station) (m : HeatSample) (now : Time) :
    (x.fullRound m now).round.budgetLimited = true ↔ x.settings.budget < (x.fullRound m now).round.lastSigma := by
  rw [x.round_fullRound]
  unfold Station.account
  dsimp only
  exact decide_eq_true_iff

theorem Station.lastDt_fullRound (x : Station) (m : HeatSample) (now : Time) : (x.fullRound m now).round.lastDt = deltaT x now := rfl

/-- The duties of a station are those of its zones, in order. -/
theorem Station.duties_eq (x : Station) : x.duties = (List.finRange 16).map fun i => (x.zones[i]).dutySent := rfl

theorem Station.conditionAll_eq (x : Station) (m : HeatSample) : x.conditionAll m = { x with zones := (x.conditionAll m).zones } := rfl

theorem Station.stepGroups_eq (x : Station) : x.stepGroups = { x with groups := x.stepGroups.groups } := rfl

theorem Station.regulateAll_eq (x : Station) : x.regulateAll = { x with zones := x.regulateAll.zones } := rfl

theorem Station.applyBudget_eq (x : Station) (p sigma : Nat) :
    x.applyBudget p sigma = { x with zones := (x.applyBudget p sigma).zones } := rfl

/-- Stages that each change the zones or the groups, and then the round, change these three alone. -/
theorem Station.eq_of_stages {x a b c d : Station} {z w v : Vector Zone 16} {g : Vector Group 4} (ha : a = { x with zones := z })
    (hb : b = { a with groups := g }) (hc : c = { b with zones := w }) (hd : d = { c with zones := v }) (r : RoundState) :
    { d with round := r } = { x with round := r, groups := g, zones := v } := by
  subst hd hc hb ha
  rfl

theorem Station.fullRound_eq (x : Station) (m : HeatSample) (now : Time) : x.fullRound m now =
    { x with round := (x.fullRound m now).round, groups := (x.fullRound m now).groups, zones := (x.fullRound m now).zones } :=
  Station.eq_of_stages (x.conditionAll_eq m) (x.conditionAll m).stepGroups_eq ((x.conditionAll m).stepGroups).regulateAll_eq
    ((((x.conditionAll m).stepGroups).regulateAll).applyBudget_eq x.nextPhase
      ((((x.conditionAll m).stepGroups).regulateAll).sigma x.nextPhase)) (x.fullRound m now).round

/-- Settles O17. -/
theorem fullRoundAccounts : Obligations.FullRoundAccounts := by
  intro x m now
  dsimp only
  refine ⟨?_, ?_, ?_, ?_, ?_, fun h => ?_, fun h => ?_, fun g => ?_, ?_, ?_, fun i => ?_, ?_, ?_, ?_, fun i => ⟨?_, ?_⟩⟩
  · exact x.fullRound_eq m now
  · rw [x.round_fullRound]
    rfl
  · rw [x.round_fullRound]
    rfl
  · rw [x.round_fullRound]
    rfl
  · rw [x.round_fullRound]
    rfl
  · rw [x.lastDt_fullRound]
    exact if_pos h
  · rw [x.lastDt_fullRound]
    exact if_neg (by simp [h])
  · rw [x.groups_fullRound]
    exact (x.conditionAll m).groups_stepGroups g
  · exact x.lastSigma_fullRound m now
  · exact x.budgetLimited_fullRound_iff m now
  · rw [x.zones_fullRound, budgeted_eq]
    rfl
  · exact Station.duties_eq _
  · rw [x.round_fullRound]
    rfl
  · exact x.sum_duties_fullRound_le m now
  · exact x.dutySent_fullRound_le m now i
  · exact Station.dutySent_fullRound_eq_zero

end Sys2Proof.Machine
end

section
/-! PROOFS. The operations on a station as writes of the station: an update, a command frame, a change of state, the look at the calling
condition, each an equation of the whole part in the words of the statements. -/

namespace Sys2Proof.Claim

open Sys2Proof.Machine

/-! ### Writing a station -/

section Write
variable (s : State) (st : Fin 6) (x y : Station)

@[simp] theorem station_withStation : (withStation s st x).station st = x := s.station_setStation_self st x

theorem station_withStation_of_ne {sx : Fin 6} (h : sx ≠ st) : (withStation s st x).station sx = s.station sx :=
  (s.station_setStation st sx x).trans (if_neg h)

@[simp] theorem ctx?_withStation : (withStation s st x).ctx? st = x.ctx := congrArg Station.ctx (station_withStation s st x)

@[simp] theorem withStation_withStation : withStation (withStation s st x) st y = withStation s st y := by
  simp [withStation]

@[simp] theorem withStation_self : withStation s st (s.station st) = s := by
  have h : s.stations.set st (s.station st) = s.stations := by simp [State.station]
  unfold withStation
  rw [h]

theorem modStation_eq (f : Station → Station) : s.modStation st f = withStation s st (f (s.station st)) := rfl

theorem modCtx_eq (f : Context → Context) : s.modCtx st f = withStation s st { s.station st with ctx := (s.station st).ctx.map f } := rfl

@[simp] theorem modStation_withStation (f : Station → Station) : (withStation s st x).modStation st f = withStation s st (f x) := by
  rw [modStation_eq, station_withStation, withStation_withStation]

@[simp] theorem modCtx_withStation (f : Context → Context) :
    (withStation s st x).modCtx st f = withStation s st { x with ctx := x.ctx.map f } := modStation_withStation s st x _

/-- A context written where there is one. -/
theorem modCtx_of_ctx {c : Context} (hc : s.ctx? st = some c) (f : Context → Context) :
    s.modCtx st f = withStation s st { s.station st with ctx := some (f c) } := by
  rw [modCtx_eq, show (s.station st).ctx = some c from hc, Option.map_some]

theorem raiseStationState_withStation : (withStation s st x).raiseStationState st = announced s st x := by
  unfold State.raiseStationState
  rw [station_withStation]
  rfl

@[simp] theorem announced_withStation : announced (withStation s st x) st y = announced s st y :=
  congrArg (State.raise · _ _ _) (withStation_withStation s st x y)

@[simp] theorem nodeOf_withStation (r : Role) (n : Nat) : (withStation s st x).nodeOf r n = s.nodeOf r n := rfl

end Write

/-! ### Command frames -/

section Commands
variable (s : State) (st : Fin 6)

theorem placeCommand_eq (slot : Fin 19) (r : Role) (n : Nat) (kind : Byte) (payload : List Byte) :
    s.placeCommand slot r n kind payload = (s.nodeOf r n).elim s fun a =>
      { s with port := { s.port with
          slate := s.port.slate.set slot (some { dest := a, kind := kind, seq := none, payload := payload }) } } := by
  unfold State.placeCommand
  cases s.nodeOf r n <;> rfl

theorem placePermit_eq : s.placePermit st = withPermit s st (s.station st).state.permission := placeCommand_eq s _ _ _ _ _

theorem placeEject_eq : s.placeEject st = withEject s st (s.station st).demould.wanted := placeCommand_eq s _ _ _ _ _

theorem placeGate_eq : s.placeGate = withGate s s.weigher.wantedGate := placeCommand_eq s _ _ _ _ _

theorem wantEject_eq (w : EjectCmd) : s.wantEject st w = wantingEject s st w := by
  unfold State.wantEject wantingEject
  dsimp only
  rw [placeEject_eq, modStation_eq, station_withStation]

theorem wantGate_eq (g : Gate) : s.wantGate g = wanting s g := by
  unfold State.wantGate wanting
  split
  · rfl
  · rw [placeGate_eq]
    rfl

/-- A command frame and a write of a station may be exchanged. -/
theorem withPermit_withStation (x : Station) (q : Permission) :
    withPermit (withStation s st x) st q = withStation (withPermit s st q) st x := by
  unfold withPermit
  show (s.nodeOf .press st.val).elim _ _ = _
  cases s.nodeOf .press st.val <;> rfl

theorem withEject_withStation (x : Station) (w : EjectCmd) :
    withEject (withStation s st x) st w = withStation (withEject s st w) st x := by
  unfold withEject
  show (s.nodeOf .ejector st.val).elim _ _ = _
  cases s.nodeOf .ejector st.val <;> rfl

@[simp] theorem stations_withPermit (q : Permission) : (withPermit s st q).stations = s.stations := by
  unfold withPermit
  cases s.nodeOf .press st.val <;> rfl

@[simp] theorem station_withPermit (q : Permission) (sx : Fin 6) : (withPermit s st q).station sx = s.station sx := by
  unfold State.station
  rw [stations_withPermit]

end Commands

/-! ### Changes of state -/

section SetState
variable (s : State) (st : Fin 6)

theorem resolveAfresh_withStation (x : Station) : (withStation s st x).resolveAfresh st = resolved s st x := rfl

/-- A resolution is the same with a command frame placed or not. -/
theorem resolveAfresh_withPermit (q : Permission) : (withPermit s st q).resolveAfresh st = withPermit (s.resolveAfresh st) st q := by
  have hrecipes : (withPermit s st q).recipeOf st = s.recipeOf st ∧ (withPermit s st q).profilesLive = s.profilesLive := by
    unfold withPermit
    cases s.nodeOf .press st.val <;> exact ⟨rfl, rfl⟩
  unfold State.resolveAfresh
  rw [modStation_eq, modStation_eq, station_withPermit, hrecipes.1, hrecipes.2, withPermit_withStation]

/-- A change of state (R25, R36). -/
theorem setState_eq (new : StationState) : s.setState st new =
    let x := s.station st
    let y := { x with state := new }
    let t := if x.state.source = new.source ∨ new = .offline then withStation s st y else resolved s st y
    if x.state.permission = new.permission then t else withPermit t st new.permission := by
  unfold State.setState
  dsimp only
  rw [modStation_eq]
  have hpermit : (withStation s st { s.station st with state := new }).placePermit st =
      withPermit (withStation s st { s.station st with state := new }) st new.permission := by
    rw [placePermit_eq, station_withStation]
  rw [hpermit]
  split <;> split
  · rfl
  · rfl
  · rfl
  · exact resolveAfresh_withPermit _ _ _

/-- A change of state to one with the same permission and source kind. -/
theorem setState_quiet {new : StationState} (hp : (s.station st).state.permission = new.permission)
    (hk : (s.station st).state.source = new.source ∨ new = .offline) :
    s.setState st new = withStation s st { s.station st with state := new } := by
  rw [setState_eq]
  simp only [hp, hk, if_true]

/-- A change of state to one with the same permission and another source kind. -/
theorem setState_resolved {new : StationState} (hp : (s.station st).state.permission = new.permission)
    (hk : (s.station st).state.source ≠ new.source) (hn : new ≠ .offline) :
    s.setState st new = resolved s st { s.station st with state := new } := by
  rw [setState_eq]
  simp only [hp, hk, hn, if_true, if_false, or_self]

/-- A change of state to one with another permission and source kind. -/
theorem setState_permit {new : StationState} (hp : (s.station st).state.permission ≠ new.permission)
    (hk : (s.station st).state.source ≠ new.source) (hn : new ≠ .offline) :
    s.setState st new = withPermit (resolved s st { s.station st with state := new }) st new.permission := by
  rw [setState_eq]
  simp only [hp, hk, hn, if_false, or_self]

end SetState

/-! ### Calling (R10, R124, R125) -/

section Calling
variable (s : State) (st : Fin 6)

/-- Joining the queue from a state of the same permission and source kind. -/
theorem enterCalling_eq_joined (hp : (s.station st).state.permission = .none) (hk : (s.station st).state.source = .idle) :
    s.enterCalling st false = joined s st := by
  unfold State.enterCalling
  rw [setState_quiet s st (new := .calling) hp (Or.inl hk)]
  rfl

theorem leaveQueue_eq_left : s.leaveQueue st = left s st := rfl

theorem lookCalling_of_calls (hready : (s.station st).state = .ready) (h : Calls s st) : s.lookCalling st = joined s st := by
  obtain ⟨hrun, hrecipe, hauto⟩ := h
  unfold State.lookCalling
  dsimp only
  rw [if_pos ⟨hready, hrun, hrecipe, hauto⟩]
  exact enterCalling_eq_joined s st (by rw [hready]; rfl) (by rw [hready]; rfl)

theorem lookCalling_of_not_calls (h : ¬Calls s st) : s.lookCalling st = s :=
  if_neg fun ⟨_, hrun, hrecipe, hauto⟩ => h ⟨hrun, hrecipe, hauto⟩

theorem lookCalling_of_not_ready (h : (s.station st).state ≠ .ready) : s.lookCalling st = s := if_neg fun ⟨hready, _⟩ => h hready

/-- A raise changes the port alone. -/
theorem raise_eq (k : NoticeKind) (key : Option (Fin 6)) (v : List Byte) : ∃ p, s.raise k key v = { s with port := p } := by
  unfold State.raise
  split
  · exact ⟨_, rfl⟩
  · exact ⟨s.port, rfl⟩

@[simp] theorem station_announced (x : Station) : (announced s st x).station st = x := by
  obtain ⟨p, h⟩ := raise_eq (withStation s st x) .stationState (some st) (put8 x.state.code ++ put8 x.cause.code ++ putTime x.cycleNumber)
  unfold announced
  rw [h]
  exact station_withStation s st x

theorem calls_announced (x : Station) : Calls (announced s st x) st ↔
    x.runEnable = true ∧ (s.recipes[x.boundRecipe]).present = true ∧ x.pressAuto = true := by
  have hrecipes : (announced s st x).recipes = s.recipes := by
    unfold announced State.raise
    split <;> rfl
  unfold Calls
  simp only [station_announced, hrecipes]

/-- Entry to READY from a state of the same permission and source kind (R10, R26). -/
theorem enterReady_eq (hp : (s.station st).state.permission = .none) (hk : (s.station st).state.source = .idle) :
    s.enterReady st = (announced s st { s.station st with state := .ready }).lookCalling st := by
  unfold State.enterReady
  rw [setState_quiet s st (new := .ready) hp (Or.inl hk), raiseStationState_withStation]

/-- Settles O18. -/
theorem readyTestRule : Obligations.ReadyTestRule := by
  intro s st ramping n x holdsBack t ready hstate hback hgo
  have hcount : (s.station st).nextReady ramping = n := by
    unfold Station.nextReady Zone.outOfWindow Zone.inService
    have hiff : holdsBack ↔
        ((List.finRange 16).any (fun i => (x.zones[i]).entry.present && ramping[(x.zones[i]).entry.group])) = true ∨
        ((List.finRange 16).any fun i => ((x.zones[i]).entry.present && (x.zones[i]).fault == .none) && (x.zones[i]).window != .within) = true := by
      simp [holdsBack, and_assoc]
    by_cases h : holdsBack
    · rw [hback h]
      obtain h | h := hiff.mp h
      · exact if_pos h
      · exact ite_eq_left_iff.mpr fun _ => if_pos h
    · rw [hgo h]
      obtain ⟨h1, h2⟩ := not_or.mp (mt hiff.mpr h)
      rw [if_neg h1, if_neg h2]
      rfl
  have ht : t = if x.settings.readyDwell ≤ n then (withStation s st { x with readyCount := n }).enterReady st
      else withStation s st { x with readyCount := n } := by
    show s.readyTest st ramping = _
    unfold State.readyTest
    dsimp only
    rw [hcount, modStation_eq, station_withStation]
  have hready : (withStation s st { x with readyCount := n }).enterReady st = ready.lookCalling st := by
    rw [enterReady_eq _ _ (by rw [station_withStation, hstate]; rfl) (by rw [station_withStation, hstate]; rfl), station_withStation,
      announced_withStation]
  have hcalls : Calls ready st ↔ Calls s st := calls_announced s st _
  have hstation : ready.station st = { x with readyCount := n, state := .ready } := station_announced s st _
  refine ⟨fun h => by rw [ht, if_neg (by omega)], fun h => ⟨fun hc => ?_, fun hc => ?_⟩⟩
  · rw [ht, if_pos h, hready, lookCalling_of_calls _ _ (by rw [hstation]) (hcalls.mpr hc)]
  · rw [ht, if_pos h, hready, lookCalling_of_not_calls _ _ (mt hcalls.mp hc)]

end Calling

end Sys2Proof.Claim
end

section
/-! PROOFS. A HEAT-SAMPLE at its station (R45 to R49): the duplicate, the offline round and the full round. -/

namespace Sys2Proof.Claim

open Sys2Proof.Machine

variable (s : State) (st : Fin 6) (m : HeatSample)

theorem placeDuty_eq (n : Half) (duty : List Nat) : s.placeDuty st n duty = (s.nodeOf .heater st.val).elim s fun a =>
    { s with port := { s.port with
        slate := s.port.slate.set (dutySlot st)
          (some { dest := a, kind := 2, seq := none, payload := put16 n.toNat ++ duty.flatMap put8 }) } } :=
  placeCommand_eq s _ _ _ _ _

theorem flatMap_put8_zeros : (List.replicate 16 0).flatMap put8 = List.replicate 16 0 := rfl

/-- An all-zero DUTY of a station with a heater node (R62). -/
theorem zeroDuty_of_node {a : Byte} (ha : s.nodeOf .heater st.val = some a) (n : Half) : s.zeroDuty st n =
    let x := s.station st
    { withStation s st { x with round := { x.round with lastSum := 0 } } with
      port := { s.port with
        slate := s.port.slate.set (dutySlot st)
          (some { dest := a, kind := 2, seq := none, payload := put16 n.toNat ++ List.replicate 16 0 }) } } := by
  unfold State.zeroDuty
  rw [ha, modStation_eq, placeDuty_eq, flatMap_put8_zeros]
  show (s.nodeOf .heater st.val).elim _ _ = _
  rw [ha]
  rfl

theorem zeroDuty_of_no_node (ha : s.nodeOf .heater st.val = none) (n : Half) : s.zeroDuty st n = s := by
  unfold State.zeroDuty
  rw [ha]
  rfl

theorem heatWork_duplicate (h : (s.station st).round.lastNode = some m.nodeRound) : s.heatWork st m = s := if_pos h

theorem heatWork_offline (h : (s.station st).round.lastNode ≠ some m.nodeRound) (hoff : (s.station st).state = .offline) :
    s.heatWork st m = s.offlineRound st m := by
  unfold State.heatWork
  dsimp only
  rw [if_neg h, if_pos hoff]

theorem heatWork_full (h : (s.station st).round.lastNode ≠ some m.nodeRound) (hoff : (s.station st).state ≠ .offline) :
    s.heatWork st m = s.fullRound st m := by
  unfold State.heatWork
  dsimp only
  rw [if_neg h, if_neg hoff]

theorem offlineRound_of_no_node (ha : s.nodeOf .heater st.val = none) : s.offlineRound st m =
    withStation s st { s.station st with round := (s.station st).round.offlineRound m.nodeRound s.now } := by
  unfold State.offlineRound
  dsimp only
  rw [modStation_eq, nodeOf_withStation, ha]
  rfl

theorem offlineRound_of_node {a : Byte} (ha : s.nodeOf .heater st.val = some a) : s.offlineRound st m =
    let x := s.station st
    let t := withStation s st { x with
      round := { x.round.offlineRound m.nodeRound s.now with lastSum := 0 },
      zones := Vector.ofFn fun i : Fin 16 => { x.zones[i] with dutySent := 0 } }
    { t with port := { t.port with slate := t.port.slate.set (dutySlot st) (some
      { dest := a, kind := 2, seq := none, payload := put16 m.nodeRound.toNat ++ List.replicate 16 0 }) } } := by
  unfold State.offlineRound
  dsimp only
  rw [modStation_eq, nodeOf_withStation, ha]
  simp only [Option.isSome_some, if_true, modStation_withStation]
  rw [zeroDuty_of_node _ _ (a := a) ((nodeOf_withStation s st _ _ _).trans ha)]
  simp only [station_withStation, withStation_withStation]
  rfl

theorem ctx_fullRound (x : Station) (now : Time) : (x.fullRound m now).ctx = x.ctx := by rw [x.fullRound_eq m now]

theorem fullRound_rule :
    let x := s.station st
    let ramping : Vector Bool 4 := Vector.ofFn fun g : Fin 4 => (x.groups[g]).seeded && decide ((x.groups[g]).k < (x.groups[g]).len)
    let y := x.fullRound m s.now
    let round := withStation s st { y with
      ctx := if x.state = .curing ∧ y.round.budgetLimited = true then
          x.ctx.map fun c => { c with budgetLimited := min 65535 (c.budgetLimited + 1) }
        else x.ctx }
    let sent : State := (s.nodeOf .heater st.val).elim round fun d =>
      { round with port := { s.port with
          slate := s.port.slate.set (dutySlot st)
            (some { dest := d, kind := 2, seq := none, payload := put16 m.nodeRound.toNat ++ y.duties.flatMap put8 }) } }
    let judged := sent.supervise st x.state ramping
    let cured := if (judged.station st).state = .curing then judged.cureRound st else judged
    s.fullRound st m = if (cured.station st).state = .warming then cured.readyTest st ramping else cured := by
  intro x ramping y round sent judged cured
  have hround : (if x.state = .curing ∧ ((withStation s st y).station st).round.budgetLimited = true then
      (withStation s st y).modCtx st fun c => { c with budgetLimited := satAdd 65535 c.budgetLimited 1 } else withStation s st y) = round := by
    have hctx : y.ctx = x.ctx := ctx_fullRound m x s.now
    rw [station_withStation, modCtx_withStation, hctx]
    show _ = withStation s st { y with ctx := ite _ _ _ }
    split
    · rfl
    · rw [← hctx]
  have hsent : round.placeDuty st m.nodeRound (round.station st).duties = sent := by
    have hduties : (round.station st).duties = y.duties := by
      show ((withStation s st _).station st).duties = _
      rw [station_withStation]
      rfl
    rw [placeDuty_eq, hduties]
    rfl
  unfold State.fullRound
  dsimp only
  rw [modStation_eq, hround, hsent]
  rfl

/-- Settles O16. -/
theorem heatSampleRounds : Obligations.HeatSampleRounds := by
  intro s st m
  refine ⟨heatWork_duplicate s st m, fun hnew hoff => ⟨fun ha => ?_, fun a ha => ?_⟩, fun hnew hon => ?_⟩
  · rw [heatWork_offline s st m hnew hoff, offlineRound_of_no_node s st m ha]
    rfl
  · rw [heatWork_offline s st m hnew hoff, offlineRound_of_node s st m ha]
    rfl
  · rw [heatWork_full s st m hnew hon]
    exact fullRound_rule s st m

end Sys2Proof.Claim
end

section
/-! PROOFS. The groups of a station: the target a resolution takes (R34 to R37), ramps and seeds (R38, R39). -/

namespace Sys2Proof.Claim

open Sys2Proof.Machine

/-! ### Resolution -/

/-- The recipe a station's profiles are found in (R34). -/
theorem recipeOf_eq_some_iff (s : State) (st : Fin 6) (r : Recipe) : s.recipeOf st = some r ↔ RecipeInUse s st r := by
  unfold State.recipeOf RecipeInUse State.ctx?
  cases (s.station st).ctx with
  | some c =>
    simp only [Option.some.injEq, reduceCtorEq, false_and, or_false, exists_eq_left']
    exact eq_comm
  | none =>
    simp only [reduceCtorEq, false_and, exists_false, false_or, true_and]
    split
    · next h => simp only [Option.some.injEq, h, true_and]; exact eq_comm
    · next h => exact ⟨nofun, fun hr => absurd hr.1 h⟩

theorem recipeOf_eq_none_iff (s : State) (st : Fin 6) : s.recipeOf st = none ↔ ∀ r, ¬RecipeInUse s st r := by
  simp only [← recipeOf_eq_some_iff, Option.eq_none_iff_forall_ne_some, ne_eq]

/-- The target found in a profile (R35). -/
theorem resolveIn_of_targetIn {p : Profile} {k : SourceKind} {idx temp ff len step : Nat} (h : TargetIn p k idx temp ff len step)
    (n : Fin 16) : resolveIn p n k idx = some { profile := n, step := step, target := temp, ff := ff, len := len } := by
  cases k with
  | none => exact h.elim
  | step =>
    obtain ⟨rfl, q, hq, rfl, rfl, rfl⟩ := h
    simp [resolveIn, List.getD_eq_getElem?_getD, hq]
  | _ =>
    obtain ⟨rfl, rfl, rfl, rfl⟩ := h
    rfl

/-- What a resolved target does to a group (R37). -/
theorem take_eq_retargeted (x : Group) (k : SourceKind) (n : Fin 16) (step temp ff len : Nat) :
    x.take k { profile := n, step := step, target := temp, ff := ff, len := len } = retargeted x k n temp ff len step := by
  unfold Group.take retargeted
  simp

theorem resolve_of_targetIn {s : State} {g : Fin 4} {r : Recipe} {k : SourceKind} {idx temp ff len step : Nat} (x : Group)
    (h : TargetIn s.profilesLive[r.profileOf g] k idx temp ff len step) :
    x.resolve s.profilesLive (some r) k idx g = retargeted x k (r.profileOf g) temp ff len step := by
  unfold Group.resolve
  dsimp only
  rw [resolveIn_of_targetIn h]
  exact take_eq_retargeted _ _ _ _ _ _ _

/-- Source NONE resolves to nothing. -/
theorem resolve_none_source (x : Group) (live : Vector Profile 16) (r : Option Recipe) (idx : Nat) (g : Fin 4) :
    x.resolve live r .none idx g = x := by
  cases r <;> rfl

theorem resolve_no_recipe {k : SourceKind} (hk : k ≠ .none) (x : Group) (live : Vector Profile 16) (idx : Nat) (g : Fin 4) :
    x.resolve live none k idx g = { x with source := k } := if_neg hk

theorem source_eq_none_iff (x : StationState) : x.source = .none ↔ x = .offline := by cases x <;> decide

/-- A resolution afresh (R34 to R37). -/
theorem resolveAfresh_rule (s : State) (st : Fin 6) : let x := s.station st
    ∃ groups : Vector Group 4, s.resolveAfresh st = withStation s st { x with groups := groups } ∧
      (x.state = .offline → groups = x.groups) ∧
      ∀ g : Fin 4,
        (x.state ≠ .offline → (∀ r, ¬RecipeInUse s st r) → groups[g] = { x.groups[g] with source := x.state.source }) ∧
        ∀ r temp ff len step, RecipeInUse s st r →
          TargetIn s.profilesLive[(r.profiles[g]).getD ((r.profiles[0]).getD 0)] x.state.source
            (x.ctx.elim 0 fun c => c.cure.steps[g]) temp ff len step →
          groups[g] = retargeted x.groups[g] x.state.source ((r.profiles[g]).getD ((r.profiles[0]).getD 0)) temp ff len step := by
  intro x
  refine ⟨_, rfl, fun hoff => ?_, fun g => ⟨fun hon hr => ?_, fun r temp ff len step hr htarget => ?_⟩⟩
  · ext i hi
    rw [Vector.getElem_ofFn, hoff]
    exact resolve_none_source _ _ _ _ _
  · rw [Fin.getElem_fin, Vector.getElem_ofFn, (recipeOf_eq_none_iff s st).mpr hr]
    exact resolve_no_recipe (mt (source_eq_none_iff _).mp hon) _ _ _ _
  · rw [Fin.getElem_fin, Vector.getElem_ofFn, (recipeOf_eq_some_iff s st r).mpr hr]
    exact resolve_of_targetIn _ htarget

/-- The groups after a change of state (R36). -/
theorem station_setState (s : State) (st : Fin 6) (new : StationState) :
    ((s.station st).state.source = new.source ∨ new = .offline →
      (s.setState st new).station st = (withStation s st { s.station st with state := new }).station st) ∧
    ((s.station st).state.source ≠ new.source → new ≠ .offline →
      (s.setState st new).station st = ((withStation s st { s.station st with state := new }).resolveAfresh st).station st) := by
  rw [setState_eq]
  dsimp only
  refine ⟨fun h => ?_, fun h hn => ?_⟩
  · rw [if_pos h]
    split <;> simp only [station_withPermit]
  · rw [if_neg (not_or.mpr ⟨h, hn⟩)]
    split
    · rfl
    · rw [station_withPermit]
      rfl

/-! ### Ramps and seeds (R38, R39) -/

/-- A ramp step within the length (R38). -/
theorem rampStep_rule (g : Group) :
    (g.k < g.len → g.rampStep.k = g.k + 1 ∧
      (g.rampStep.sg : Int) = (g.s0 : Int) + (((g.target : Int) - g.s0) * ((g.k : Int) + 1)).fdiv g.len ∧
      (g.k + 1 = g.len → g.rampStep.sg = g.target) ∧
      g.rampStep.s0 = g.s0 ∧ g.rampStep.target = g.target ∧ g.rampStep.len = g.len) ∧
    (g.len ≤ g.k → g.rampStep = g) := by
  refine ⟨fun h => ?_, fun h => if_neg (by omega)⟩
  have hstep : g.rampStep = { g with
      k := g.k + 1, sg := ((g.s0 : Int) + (((g.target : Int) - g.s0) * (g.k + 1 : Nat)) / (g.len : Int)).toNat } := if_pos h
  have hlow : -(g.s0 : Int) ≤ (((g.target : Int) - g.s0) * (g.k + 1 : Nat)) / (g.len : Int) := by
    refine Int.le_ediv_of_mul_le (by omega) ?_
    have h1 : 0 ≤ (g.target : Int) * (g.k + 1 : Nat) := by positivity
    have h2 : (g.s0 : Int) * (g.k + 1 : Nat) ≤ g.s0 * g.len := by
      refine mul_le_mul_of_nonneg_left ?_ (by omega)
      omega
    rw [Int.sub_mul, Int.neg_mul]
    omega
  rw [hstep]
  refine ⟨rfl, ?_, fun hlast => ?_, rfl, rfl, rfl⟩
  · rw [Int.toNat_of_nonneg (by omega), Int.fdiv_eq_ediv_of_nonneg _ (by omega)]
    push_cast
    rfl
  · show Int.toNat _ = _
    rw [hlast, Int.mul_ediv_cancel _ (by omega)]
    omega

theorem average_eq (w : List Nat) (d : Nat) : (average w).getD d = if w = [] then d else w.sum / w.length := by
  cases w <;> rfl

/-- The first round after ONLINE seeds a group, and every other takes a ramp step (R39). -/
theorem stepGroup_rule (x : Station) (g : Fin 4) : let y := x.groups[g]
    let temps : List Nat := (List.finRange 16).filterMap fun i =>
      if (x.zones[i]).entry.present = true ∧ (x.zones[i]).entry.group = g ∧ (x.zones[i]).fault = .none ∧ (x.zones[i]).lastStatus = .ok
      then (x.zones[i]).lastT else none
    (y.seeded = true → x.stepGroup g = y.rampStep) ∧
    ∀ seed, y.seeded = false → seed = (if temps = [] then y.target else temps.sum / temps.length) →
      (y.len = 0 ∨ seed = y.target → x.stepGroup g = { y with s0 := seed, sg := y.target, k := y.len, seeded := true }) ∧
      (y.len ≠ 0 → seed ≠ y.target → x.stepGroup g = { y with s0 := seed, sg := seed, k := 0, seeded := true }) := by
  intro y temps
  refine ⟨fun h => if_pos h, fun seed h hseed => ?_⟩
  have hstep : x.stepGroup g = y.takeSeed seed := by
    rw [hseed, ← average_eq]
    exact if_neg (by rw [h]; nofun)
  rw [hstep]
  exact ⟨fun hdone => if_pos hdone, fun hlen hne => if_neg (not_or.mpr ⟨hlen, hne⟩)⟩

/-- Settles O24. -/
theorem groupRule : Obligations.GroupRule :=
  ⟨fun x => by cases x <;> decide, resolveAfresh_rule, station_setState, rampStep_rule, stepGroup_rule⟩

end Sys2Proof.Claim
end

section
/-! PROOFS. The accrual of a round and the accruing round (R87 to R91). -/

namespace Sys2Proof.Claim

open Sys2Proof.Machine

/-! ### The accrual (R88, R89) -/

theorem accrue_cases (c : Cure) (rates : Vector (Vector Nat 32) 4) (r : Recipe) (dt tref : Nat) (h : c.acc ≤ 4294967295) :
    c.accrue rates r dt none = { c with blind := true, lastTref := 0, lastRate := 0, lastBlind := true } ∧
    (tref < r.baseTemp → c.accrue rates r dt (some tref) = { c with lastTref := tref, lastRate := 0, lastBlind := false }) ∧
    (r.baseTemp ≤ tref → ∃ j : Fin 32, j.val = min 31 ((tref - r.baseTemp) / 50) ∧
      c.accrue rates r dt (some tref) =
        { c with acc := min 4294967295 (c.acc + (rates[r.rateTable])[j] * dt), lastTref := tref,
                 lastRate := (rates[r.rateTable])[j], lastBlind := false }) := by
  refine ⟨rfl, fun hlow => ?_, fun hhigh => ⟨⟨min 31 ((tref - r.baseTemp) / 50), by omega⟩, rfl, ?_⟩⟩
  · have hrate : cureRate rates r tref = 0 := if_pos hlow
    simp only [Cure.accrue, hrate, Nat.zero_mul, satAdd, Nat.add_zero, Nat.min_eq_right h]
  · have hrate : cureRate rates r tref = (rates[r.rateTable])[(⟨min 31 ((tref - r.baseTemp) / 50), by omega⟩ : Fin 32)] :=
      if_neg (by omega)
    simp only [Cure.accrue, hrate]
    rfl

/-- An accrual leaves target, start, steps, the mark of the target and the cure end. -/
theorem accrue_keeps (c : Cure) (rates : Vector (Vector Nat 32) 4) (r : Recipe) (dt : Nat) (tref : Option Nat) :
    (c.accrue rates r dt tref).target = c.target ∧ (c.accrue rates r dt tref).start = c.start ∧
    (c.accrue rates r dt tref).steps = c.steps ∧ (c.accrue rates r dt tref).targetMet = c.targetMet ∧
    (c.accrue rates r dt tref).stop = c.stop := by
  cases tref <;> exact ⟨rfl, rfl, rfl, rfl, rfl⟩

/-! ### The step advance (R90) -/

/-- The last entry that passes a test is the one after which none does. -/
theorem highestStep_eq {l : List CureStep} {progress h : Nat} {q : CureStep} (hq : l[h]? = some q) (hpass : q.threshold ≤ progress)
    (hafter : ∀ j r, h < j → l[j]? = some r → progress < r.threshold) : highestStep l progress = h := by
  obtain ⟨hlt, rfl⟩ := List.getElem?_eq_some_iff.mp hq
  have hsplit : l.zipIdx = (l.take h).zipIdx ++ (l[h], h) :: (l.drop (h + 1)).zipIdx (h + 1) := by
    conv_lhs => rw [← List.take_append_drop h l, List.drop_eq_getElem_cons hlt]
    rw [List.zipIdx_append, List.zipIdx_cons]
    simp [Nat.min_eq_left (Nat.le_of_lt hlt)]
  have hrest : ((l.drop (h + 1)).zipIdx (h + 1)).filter (fun (c, _) => c.threshold ≤ progress) = [] := by
    rw [List.filter_eq_nil_iff]
    rintro ⟨r, j⟩ hmem
    have hget := List.mk_mem_zipIdx_iff_le_and_getElem?_sub.mp hmem
    rw [List.getElem?_drop] at hget
    have hpast := hafter j r (by omega) (by rw [← hget.2]; congr 1; omega)
    simpa using hpast
  unfold highestStep
  rw [hsplit, List.filter_append, List.filter_cons_of_pos (by simpa using hpass), hrest, List.getLast?_append]
  rfl

theorem le_advancedStep (live : Vector Profile 16) (x : Group) (idx progress : Nat) : idx ≤ advancedStep live x idx progress := by
  unfold advancedStep
  split
  · exact le_rfl
  · exact le_max_left _ _

theorem advancedStep_of_no_profile {x : Group} (h : x.profile = none) (live : Vector Profile 16) (idx progress : Nat) :
    advancedStep live x idx progress = idx := by
  simp only [advancedStep, h]

theorem advancedStep_of_profile {x : Group} {n : Fin 16} (h : x.profile = some n) (live : Vector Profile 16) (idx progress : Nat) :
    advancedStep live x idx progress = max idx (highestStep (live[n]).steps progress) := by
  simp only [advancedStep, h]

/-! ### Resolving some groups -/

/-- Updating the places of a vector that a test picks. -/
theorem getElem_foldl_set {α : Type} (p : Fin 4 → Prop) [DecidablePred p] (f : Fin 4 → α → α) (l : List (Fin 4)) (hl : l.Nodup)
    (v : Vector α 4) (j : Fin 4) :
    (l.foldl (fun (v : Vector α 4) g => if p g then v.set g (f g v[g]) else v) v)[j] = if j ∈ l ∧ p j then f j v[j] else v[j] := by
  induction l generalizing v with
  | nil => simp
  | cons g rest ih =>
    obtain ⟨hg, hrest⟩ := List.nodup_cons.mp hl
    rw [List.foldl_cons, ih hrest]
    by_cases hj : j = g
    · subst hj
      by_cases hp : p j <;> simp [hg, hp]
    · have hne : g.val ≠ j.val := fun e => hj (Fin.ext e.symm)
      by_cases hp : p g <;> simp [hj, hp, Vector.getElem_set_ne _ _ hne]

/-- The groups that a step advance resolves, in a station with a context. -/
theorem foldl_resolveOne (s : State) (st : Fin 6) (x : Station) {c : Context} (hc : x.ctx = some c) (p : Fin 4 → Prop) [DecidablePred p]
    (l : List (Fin 4)) :
    l.foldl (fun (t : State) g => if p g then t.resolveOne st g else t) (withStation s st x) =
      withStation s st { x with groups := l.foldl (fun (v : Vector Group 4) g =>
        if p g then v.set g (v[g].resolve s.profilesLive (some c.snapshot) x.state.source c.cure.steps[g] g) else v) x.groups } := by
  induction l generalizing x with
  | nil => rfl
  | cons g rest ih =>
    rw [List.foldl_cons, List.foldl_cons]
    split
    · have hrecipe : (withStation s st x).recipeOf st = some c.snapshot :=
        (recipeOf_eq_some_iff _ _ _).mpr (Or.inl ⟨c, (ctx?_withStation s st x).trans hc, rfl⟩)
      have hone : (withStation s st x).resolveOne st g = withStation s st { x with
          groups := x.groups.set g (x.groups[g].resolve s.profilesLive (some c.snapshot) x.state.source c.cure.steps[g] g) } := by
        unfold State.resolveOne
        rw [modStation_withStation, hrecipe]
        simp only [Station.stepIndex, hc]
        rfl
      rw [hone, ih _ (by exact hc)]
    · exact ih x hc

/-! ### The accruing round (R87 to R91) -/

/-- The accrual of a round of a station with context `c`. -/
def roundAccrual (s : State) (st : Fin 6) (c : Context) : Cure :=
  c.cure.accrue s.rates c.snapshot (s.station st).round.lastDt (s.station st).referenceTemps.min?

theorem roundAccrual_keeps (s : State) (st : Fin 6) (c : Context) :
    (roundAccrual s st c).target = c.cure.target ∧ (roundAccrual s st c).start = c.cure.start ∧
    (roundAccrual s st c).steps = c.cure.steps ∧ (roundAccrual s st c).targetMet = c.cure.targetMet ∧
    (roundAccrual s st c).stop = c.cure.stop := accrue_keeps _ _ _ _ _

/-- The progress an accruing round leaves (R90). -/
def roundProgress (s : State) (st : Fin 6) (c : Context) : Nat :=
  min 256 ((roundAccrual s st c).acc / (roundAccrual s st c).target.getD 0)

/-- The step of a group after an accruing round (R90). -/
def roundStep (s : State) (st : Fin 6) (c : Context) (g : Fin 4) : Nat :=
  advancedStep s.profilesLive (s.station st).groups[g] (roundAccrual s st c).steps[g] (roundProgress s st c)

/-- The cure fields an accruing round leaves, the end of cure aside. -/
def roundCure (s : State) (st : Fin 6) (c : Context) : Cure :=
  { roundAccrual s st c with
    progress := roundProgress s st c, steps := Vector.ofFn (roundStep s st c),
    targetMet := (roundAccrual s st c).targetMet || (roundAccrual s st c).reached }

/-- The groups an accruing round leaves (R36, R90). -/
def roundGroups (s : State) (st : Fin 6) (c : Context) : Vector Group 4 :=
  (List.finRange 4).foldl (fun (v : Vector Group 4) (g : Fin 4) =>
    if (roundAccrual s st c).steps[g] < (roundCure s st c).steps[g] then
      v.set g (v[g].resolve s.profilesLive (some c.snapshot) (s.station st).state.source (roundCure s st c).steps[g] g)
    else v) (s.station st).groups

/-- The part once the round has accrued and its groups have advanced. -/
def accrued (s : State) (st : Fin 6) (c : Context) : State :=
  withStation s st { s.station st with ctx := some { c with cure := roundCure s st c }, groups := roundGroups s st c }

theorem cureRound_eq {s : State} {st : Fin 6} {c : Context} (hc : s.ctx? st = some c) : s.cureRound st =
    if (roundCure s st c).reached = true ∧ c.snapshot.wallMin ≤ elapsed s.now ((roundCure s st c).start.getD 0) then
      (accrued s st c).endCure st s.now
    else accrued s st c := by
  have hfold := foldl_resolveOne s st { s.station st with ctx := some { c with cure := roundCure s st c } } (c := { c with cure := roundCure s st c })
    rfl (fun g => (roundAccrual s st c).steps[g] < (roundCure s st c).steps[g]) (List.finRange 4)
  unfold State.cureRound
  rw [hc]
  dsimp only
  rw [modCtx_of_ctx s st hc]
  exact ite_congr rfl (fun _ => congrArg (State.endCure · st s.now) hfold) fun _ => hfold

/-- The end of a cure: the station in OPENING, and the cure of its context stopped (R13, R93). -/
theorem endCure_spec {s : State} {st : Fin 6} {c : Context} (hc : s.ctx? st = some c) (t : Time) :
    ((s.endCure st t).station st).state = .opening ∧ ∃ d, (s.endCure st t).ctx? st = some d ∧ d.cure = c.cure.stopAt t ∧
      d.eject = freshOpening s.now c.snapshot := by
  refine ⟨State.state_setState_self _ _ _, { c with cure := c.cure.stopAt t, eject := freshOpening s.now c.snapshot }, ?_, ?_⟩
  · unfold State.endCure State.startOpening
    rw [State.ctx?_setState_self, State.ctx?_modCtx_self, State.ctx?_modCtx_self, hc]
    rfl
  · exact ⟨rfl, rfl⟩

theorem ctx?_accrued (s : State) (st : Fin 6) (c : Context) : (accrued s st c).ctx? st = some { c with cure := roundCure s st c } :=
  ctx?_withStation s st _

/-- The group `g` after an accruing round. -/
theorem getElem_roundGroups (s : State) (st : Fin 6) (c : Context) (g : Fin 4) : (roundGroups s st c)[g] =
    if c.cure.steps[g] < (roundCure s st c).steps[g] then
      (s.station st).groups[g].resolve s.profilesLive (some c.snapshot) (s.station st).state.source (roundCure s st c).steps[g] g
    else (s.station st).groups[g] := by
  have h := getElem_foldl_set (fun g => (roundAccrual s st c).steps[g] < (roundCure s st c).steps[g])
    (fun g y => y.resolve s.profilesLive (some c.snapshot) (s.station st).state.source (roundCure s st c).steps[g] g)
    (List.finRange 4) (List.nodup_finRange 4) (s.station st).groups g
  obtain ⟨-, -, hsteps, -⟩ := roundAccrual_keeps s st c
  rw [← hsteps]
  exact h.trans (by simp only [List.mem_finRange, true_and])

/-- The steps an accruing round leaves (R90). -/
theorem steps_roundCure (s : State) (st : Fin 6) (c : Context) (g : Fin 4) : let y := (s.station st).groups[g]
    c.cure.steps[g] ≤ (roundCure s st c).steps[g] ∧
    (y.profile = none → (roundCure s st c).steps[g] = c.cure.steps[g]) ∧
    ∀ (n : Fin 16) (h : Nat) (q : CureStep), y.profile = some n → (s.profilesLive[n]).steps[h]? = some q →
      q.threshold ≤ (roundCure s st c).progress →
      (∀ j r, h < j → (s.profilesLive[n]).steps[j]? = some r → (roundCure s st c).progress < r.threshold) →
      (roundCure s st c).steps[g] = max c.cure.steps[g] h := by
  obtain ⟨-, -, hsteps, -⟩ := roundAccrual_keeps s st c
  have hstep : (roundCure s st c).steps[g] =
      advancedStep s.profilesLive (s.station st).groups[g] c.cure.steps[g] (roundCure s st c).progress := by
    rw [← hsteps]
    simp [roundCure, roundStep, roundAccrual]
  rw [hstep]
  refine ⟨le_advancedStep _ _ _ _, fun h => advancedStep_of_no_profile h _ _ _, fun n h q hn hq hpass hafter => ?_⟩
  rw [advancedStep_of_profile hn, highestStep_eq hq hpass hafter]

/-- Settles O26. -/
theorem cureAccrual : Obligations.CureAccrual := by
  refine ⟨fun c rates r dt tref h => accrue_cases c rates r dt tref h, fun x => rfl, fun s st c e b hc he hb hstate => ?_⟩
  obtain ⟨htarget, hstart, -, hmet, hstop⟩ := roundAccrual_keeps s st c
  have hreached : ∀ {x : Cure}, x.target = some e → (x.reached = true ↔ e * 256 ≤ x.acc) := fun h => by simp [Cure.reached, h]
  have hprogress : (roundCure s st c).progress = min 256 ((roundCure s st c).acc / e) := by
    show min 256 (_ / (roundAccrual s st c).target.getD 0) = _
    rw [htarget, he]
    rfl
  have htargetMet : (roundCure s st c).targetMet = true ↔ c.cure.targetMet = true ∨ e * 256 ≤ (roundCure s st c).acc := by
    show ((roundAccrual s st c).targetMet || (roundAccrual s st c).reached) = true ↔ _
    rw [Bool.or_eq_true, hreached (htarget.trans he), hmet]
    rfl
  have hends : (roundCure s st c).reached = true ∧ c.snapshot.wallMin ≤ elapsed s.now ((roundCure s st c).start.getD 0) ↔
      e * 256 ≤ (roundCure s st c).acc ∧ c.snapshot.wallMin ≤ (s.now - b).toNat := by
    rw [hreached (x := roundCure s st c) (htarget.trans he), show (roundCure s st c).start = some b from hstart.trans hb]
    rfl
  have hgroups : ∀ g : Fin 4, ((accrued s st c).station st).groups[g] =
      if c.cure.steps[g] < (roundCure s st c).steps[g] then
        (s.station st).groups[g].resolve s.profilesLive (some c.snapshot) .step (roundCure s st c).steps[g] g
      else (s.station st).groups[g] := fun g => by
    have h := getElem_roundGroups s st c g
    rw [hstate] at h
    simp only [accrued, station_withStation]
    exact h
  intro a t
  by_cases h : e * 256 ≤ (roundCure s st c).acc ∧ c.snapshot.wallMin ≤ (s.now - b).toNat
  · have ht : t = (accrued s st c).endCure st s.now := (cureRound_eq hc).trans (if_pos (hends.mpr h))
    obtain ⟨hopening, d, hd, hcure, heject⟩ := endCure_spec (ctx?_accrued s st c) s.now
    rw [← ht] at hopening hd
    refine ⟨d, hd, ?_⟩
    rw [hcure, heject]
    refine ⟨rfl, hprogress, rfl, htargetMet, fun g => ?_, fun _ _ => ⟨hopening, rfl, rfl⟩, fun hnot => ?_⟩
    · obtain ⟨hle, hnone, hsome⟩ := steps_roundCure s st c g
      exact ⟨hle, hnone, hsome, fun hcuring => absurd (hopening.symm.trans hcuring) nofun⟩
    · exact absurd h (fun ⟨h1, h2⟩ => hnot.elim (not_lt.mpr h1) (not_lt.mpr h2))
  · have ht : t = accrued s st c := (cureRound_eq hc).trans (if_neg (mt hends.mp h))
    have hcuring : (t.station st).state = .curing := by rw [ht, accrued, station_withStation]; exact hstate
    refine ⟨_, ht ▸ ctx?_accrued s st c, rfl, hprogress, rfl, htargetMet, fun g => ?_, fun h1 h2 => absurd ⟨h1, h2⟩ h,
      fun _ => ⟨hcuring, hstop⟩⟩
    obtain ⟨hle, hnone, hsome⟩ := steps_roundCure s st c g
    exact ⟨hle, hnone, hsome, fun _ => ht ▸ hgroups g⟩

end Sys2Proof.Claim
end

section
/-! PROOFS. The records (R152, R153, R193): the bytes at an offset of a record, field by field, and the outcome of a part (R95). -/

namespace Sys2Proof.Claim

open Sys2Proof.Machine

/-! ### Bytes at an offset -/

@[simp] theorem length_putTime (t : Time) : (putTime t).length = 4 := length_put32 _

@[simp] theorem bytesAt_append_right {a : List Byte} {o : Nat} (h : a.length ≤ o) (r : List Byte) (n : Nat) :
    bytesAt (a ++ r) o n = bytesAt r (o - a.length) n := by
  simp [bytesAt, List.drop_append, List.drop_eq_nil_of_le h]

@[simp] theorem bytesAt_append_left {a : List Byte} {n : Nat} (h : a.length = n) (r : List Byte) : bytesAt (a ++ r) 0 n = a := by
  simp [bytesAt, ← h]

@[simp] theorem bytesAt_self {a : List Byte} {n : Nat} (h : a.length = n) : bytesAt a 0 n = a := by simp [bytesAt, ← h]

theorem bytesAt_add (a r : List Byte) (j n : Nat) : bytesAt (a ++ r) (a.length + j) n = bytesAt r j n := by
  rw [bytesAt_append_right (Nat.le_add_right _ _), Nat.add_sub_cancel_left]

/-- A list of entries of one width has the sum of the widths. -/
theorem length_flatMap_width {α : Type} {k : Nat} {f : α → List Byte} (hf : ∀ a, (f a).length = k) (l : List α) :
    (l.flatMap f).length = k * l.length := by
  simp [hf, Nat.mul_comm]

/-- An entry of a list of entries of one width, whatever follows the list. -/
theorem bytesAt_flatMap {α : Type} {k : Nat} {f : α → List Byte} (hf : ∀ a, (f a).length = k) (r : List Byte) {l : List α} {i : Nat} {a : α}
    (h : l[i]? = some a) : bytesAt (l.flatMap f ++ r) (k * i) k = f a := by
  induction l generalizing i with
  | nil => simp at h
  | cons b l ih =>
    rw [List.flatMap_cons, List.append_assoc]
    cases i with
    | zero =>
      obtain rfl : b = a := by simpa using h
      exact bytesAt_append_left (hf b) _
    | succ i =>
      rw [Nat.mul_succ, Nat.add_comm, show k + k * i = (f b).length + k * i by rw [hf], bytesAt_add]
      exact ih (by simpa using h)

theorem getElem?_of_bytesAt {r : List Byte} {o n : Nat} (h : bytesAt r o 1 = put8 n) : r[o]? = some (BitVec.ofNat 8 n) := by
  have h0 : (bytesAt r o 1)[0]? = (put8 n)[0]? := by rw [h]
  simpa [bytesAt, put8, List.getElem?_take] using h0

/-! ### The four records -/

/-- The fixed part of a PART record with its kind and size (R152). -/
theorem partRecord_fixed (st : Fin 6) (c : Context) (e : Ending) :
    ∃ h : List Byte, h.length = 56 ∧ partRecord st c e = h ++ (c.pieces.flatMap putS32 ++
      ((c.faults.flatMap fun f => put8 f.zone.val ++ put8 f.fault.code ++ put16 f.progress) ++ putAttempts c.eject.attempts)) := by
  refine ⟨_, ?_, by unfold partRecord; rw [List.append_assoc, List.append_assoc]⟩
  simp only [List.length_append, length_put8, length_put16, length_put32, length_putS32, length_putTime]

theorem length_faultEntries (l : List FaultEntry) :
    (l.flatMap fun f => put8 f.zone.val ++ put8 f.fault.code ++ put16 f.progress).length = 4 * l.length :=
  length_flatMap_width (fun _ => by simp) l

theorem length_pieces (l : List Int) : (l.flatMap putS32).length = 4 * l.length := length_flatMap_width length_putS32 l

theorem length_putAttempts (l : List Attempt) : (putAttempts l).length = 4 * l.length := by
  unfold putAttempts
  rw [length_flatMap_width (k := 4) (fun _ => by simp), List.length_zipIdx]

theorem length_partRecord (st : Fin 6) (c : Context) (e : Ending) :
    (partRecord st c e).length = 56 + 4 * (c.pieces.length + c.faults.length + c.eject.attempts.length) := by
  obtain ⟨h, hlength, heq⟩ := partRecord_fixed st c e
  rw [heq]
  simp only [List.length_append, hlength, length_pieces, length_faultEntries, length_putAttempts]
  omega

theorem partFlags_bits (c : Context) : let flags : Byte := BitVec.ofNat 8 (partFlags c)
    flags.getLsbD 0 = c.cure.undercured ∧ flags.getLsbD 1 = c.cure.blind ∧ flags.getLsbD 2 = c.suspect ∧
    flags.getLsbD 3 = c.slowSamples ∧ flags.getLsbD 4 = c.aborted ∧ flags.getLsbD 5 = c.cure.start.isNone ∧
    flags.getLsbD 6 = c.cure.stop.isNone ∧ flags.getLsbD 7 = false := by
  unfold partFlags
  have hbits : ∀ b0 b1 b2 b3 b4 b5 b6 : Bool,
      let flags : Byte := BitVec.ofNat 8 ((if b0 then 1 else 0) + (if b1 then 2 else 0) + (if b2 then 4 else 0) + (if b3 then 8 else 0) +
        (if b4 then 16 else 0) + (if b5 then 32 else 0) + (if b6 then 64 else 0))
      flags.getLsbD 0 = b0 ∧ flags.getLsbD 1 = b1 ∧ flags.getLsbD 2 = b2 ∧ flags.getLsbD 3 = b3 ∧ flags.getLsbD 4 = b4 ∧
      flags.getLsbD 5 = b5 ∧ flags.getLsbD 6 = b6 ∧ flags.getLsbD 7 = false := by decide
  exact hbits _ _ _ _ _ _ _

theorem wallTime_of_some {c : Cure} {a b : Time} (ha : c.start = some a) (hb : c.stop = some b) : c.wallTime = (b - a).toNat := by
  unfold Cure.wallTime
  rw [ha, hb]
  rfl

theorem wallTime_of_none {c : Cure} (h : c.start = none ∨ c.stop = none) : c.wallTime = 0 := by
  unfold Cure.wallTime
  obtain h | h := h <;> rw [h]
  cases c.start <;> rfl

theorem take_two {r : List Byte} {k n : Nat} (hk : bytesAt r 0 1 = put8 k) (hn : bytesAt r 1 1 = put8 n) :
    r.take 2 = [BitVec.ofNat 8 k, BitVec.ofNat 8 n] := by
  match r, getElem?_of_bytesAt hk, getElem?_of_bytesAt hn with
  | a :: b :: r, ha, hb => simpa using And.intro ha hb

/-- The fields of the fixed part of a PART record. -/
theorem partRecord_fields (st : Fin 6) (c : Context) (e : Ending) : let r := partRecord st c e
    bytesAt r 0 1 = put8 1 ∧ bytesAt r 1 1 = put8 (56 + 4 * (c.pieces.length + c.faults.length + c.eject.attempts.length)) ∧
    bytesAt r 2 1 = put8 st.val ∧ bytesAt r 3 1 = put8 c.recipeNo.val ∧ bytesAt r 4 2 = put16 c.snapshot.revision.toNat ∧
    bytesAt r 6 4 = putTime c.cycle ∧ bytesAt r 10 4 = putTime c.grantTime ∧ bytesAt r 14 4 = putTime (c.acceptTime.getD 0) ∧
    bytesAt r 18 4 = putTime (c.cure.start.getD 0) ∧ bytesAt r 22 4 = putTime (c.cure.stop.getD 0) ∧
    bytesAt r 26 4 = putTime (c.eject.demouldEnd.getD 0) ∧ bytesAt r 30 4 = putS32 (c.netMass.getD 0) ∧
    bytesAt r 34 4 = put32 (c.cure.target.getD 0) ∧ bytesAt r 38 4 = put32 (c.cure.acc / 256) ∧ bytesAt r 42 4 = put32 c.cure.wallTime ∧
    bytesAt r 46 2 = put16 c.excursions ∧ bytesAt r 48 2 = put16 c.budgetLimited ∧ bytesAt r 50 1 = put8 (partFlags c) ∧
    bytesAt r 51 1 = put8 (partOutcome c e).code ∧ bytesAt r 52 1 = put8 c.lastCause.code ∧ bytesAt r 53 1 = put8 c.pieces.length ∧
    bytesAt r 54 1 = put8 c.faults.length ∧ bytesAt r 55 1 = put8 c.eject.attempts.length := by
  intro r
  have hr : r = partRecord st c e := rfl
  unfold partRecord at hr
  simp only [List.append_assoc] at hr
  rw [hr]
  refine ⟨?_, ?_, ?_, ?_, ?_, ?_, ?_, ?_, ?_, ?_, ?_, ?_, ?_, ?_, ?_, ?_, ?_, ?_, ?_, ?_, ?_, ?_, ?_⟩ <;> simp [kPart]

/-- The entries of the lists of a PART record. -/
theorem partRecord_lists (st : Fin 6) (c : Context) (e : Ending) : let r := partRecord st c e
    (∀ i p, c.pieces[i]? = some p → bytesAt r (56 + 4 * i) 4 = putS32 p) ∧
    (∀ i f, c.faults[i]? = some f → bytesAt r (56 + 4 * (c.pieces.length + i)) 4 =
      put8 f.zone.val ++ put8 f.fault.code ++ put16 f.progress) ∧
    ∀ i a, c.eject.attempts[i]? = some a → bytesAt r (56 + 4 * (c.pieces.length + c.faults.length + i)) 4 =
      put8 (i + 1) ++ put8 a.outcome.code ++ put16 a.peak := by
  intro r
  obtain ⟨h, hlength, heq⟩ := partRecord_fixed st c e
  rw [show r = _ from heq, ← hlength]
  refine ⟨fun i p hp => ?_, fun i f hf => ?_, fun i a ha => ?_⟩ <;> rw [bytesAt_add]
  · exact bytesAt_flatMap length_putS32 _ hp
  · rw [show 4 * (c.pieces.length + i) = (c.pieces.flatMap putS32).length + 4 * i by rw [length_pieces]; omega, bytesAt_add]
    exact bytesAt_flatMap (fun _ => by simp) _ hf
  · rw [show 4 * (c.pieces.length + c.faults.length + i) = (c.pieces.flatMap putS32).length +
      ((c.faults.flatMap fun f => put8 f.zone.val ++ put8 f.fault.code ++ put16 f.progress).length + 4 * i) by
        rw [length_pieces, length_faultEntries]; omega, bytesAt_add, bytesAt_add]
    have hzip : c.eject.attempts.zipIdx[i]? = some (a, i) := by simp [List.getElem?_zipIdx, ha]
    have := bytesAt_flatMap (k := 4) (f := fun (x : Attempt × Nat) => put8 (x.2 + 1) ++ put8 x.1.outcome.code ++ put16 x.1.peak)
      (fun _ => by simp) [] hzip
    rwa [List.append_nil] at this

theorem rejectRecord_fields (st : Fin 6) (c : Context) (reason : RejectReason) (v : Int) (l : List Int) (time : Time) :
    let r := rejectRecord st c reason v l time
    let n := 24 + 4 * l.length
    r.length = n ∧ r.take 2 = [2, BitVec.ofNat 8 n] ∧
      bytesAt r 2 1 = put8 st.val ∧ bytesAt r 3 1 = put8 reason.code ∧ bytesAt r 4 4 = putTime c.cycle ∧
      bytesAt r 8 1 = put8 c.recipeNo.val ∧ bytesAt r 9 1 = put8 l.length ∧ bytesAt r 10 2 = put16 c.snapshot.revision.toNat ∧
      bytesAt r 12 4 = putTime c.grantTime ∧ bytesAt r 16 4 = putTime time ∧ bytesAt r 20 4 = putS32 v ∧
      ∀ i p, l[i]? = some p → bytesAt r (24 + 4 * i) 4 = putS32 p := by
  intro r n
  have hr : r = rejectRecord st c reason v l time := rfl
  have hlength : r.length = n := by
    rw [hr]
    unfold rejectRecord
    simp only [List.length_append, length_put8, length_put16, length_putS32, length_putTime, length_pieces]
    rfl
  refine ⟨hlength, take_two ?_ ?_, ?_, ?_, ?_, ?_, ?_, ?_, ?_, ?_, ?_, fun i p hp => ?_⟩
  case refine_12 =>
    have hfixed : ∃ h : List Byte, h.length = 24 ∧ r = h ++ (l.flatMap putS32 ++ []) := by
      refine ⟨_, ?_, by rw [hr, List.append_nil]; rfl⟩
      simp only [List.length_append, length_put8, length_put16, length_putS32, length_putTime]
    obtain ⟨h, h24, heq⟩ := hfixed
    rw [heq, ← h24, bytesAt_add]
    exact bytesAt_flatMap length_putS32 _ hp
  all_goals
    rw [hr]
    unfold rejectRecord
    simp [List.append_assoc, kReject, n]

/-- Room not reserved (R151). -/
theorem store_room (x : Store) : x.room = 16384 - x.held - 168 * x.reservations := rfl

theorem lotMarkRecord_fields (src : Byte) (x : Store) (lot : Nat) (time : Time) :
    let r := lotMarkRecord src x lot time
    r.length = 16 ∧ r.take 2 = [3, 16] ∧ bytesAt r 2 1 = [src] ∧ bytesAt r 3 1 = put8 x.settings.policy.code ∧
      bytesAt r 4 4 = put32 lot ∧ bytesAt r 8 4 = putTime time ∧ bytesAt r 12 2 = put16 (x.held + 16) ∧
      bytesAt r 14 2 = put16 (16384 - (x.held + 16) - 168 * x.reservations) := by
  intro r
  have hr : r = lotMarkRecord src x lot time := rfl
  have hsrc : [src] = put8 src.toNat := by simp [put8]
  unfold lotMarkRecord at hr
  simp only [List.append_assoc] at hr
  rw [hr, hsrc]
  refine ⟨?_, rfl, ?_, ?_, ?_, ?_, ?_, ?_⟩ <;> simp [store_room]

theorem restartMarkRecord_fields (s : State) (k : Nat) (l : List (Fin 6 × StationState × Time)) :
    let r := restartMarkRecord s k l
    let n := 12 + 6 * l.length
    r.length = n ∧ r.take 2 = [4, BitVec.ofNat 8 n] ∧ bytesAt r 2 1 = put8 l.length ∧ bytesAt r 3 1 = put8 s.mode.code ∧
      bytesAt r 4 4 = putTime s.now ∧ bytesAt r 8 2 = put16 s.port.lineErrors ∧ bytesAt r 10 1 = put8 k ∧
      bytesAt r 11 1 = put8 (s.arbiter.granted.elim 255 (·.val)) ∧
      ∀ (i : Nat) (y : Fin 6 × StationState × Time), l[i]? = some y →
        bytesAt r (12 + 6 * i) 6 = put8 y.1.val ++ put8 y.2.1.code ++ putTime y.2.2 := by
  intro r n
  have hr : r = restartMarkRecord s k l := rfl
  have hwidth (y : Fin 6 × StationState × Time) : (put8 y.1.val ++ put8 y.2.1.code ++ putTime y.2.2).length = 6 := by simp
  have hfixed : ∃ h : List Byte, h.length = 12 ∧
      r = h ++ (l.flatMap (fun y => put8 y.1.val ++ put8 y.2.1.code ++ putTime y.2.2) ++ []) := by
    refine ⟨_, ?_, by rw [hr, List.append_nil]; rfl⟩
    simp only [List.length_append, length_put8, length_put16, length_putTime]
  refine ⟨?_, take_two ?_ ?_, ?_, ?_, ?_, ?_, ?_, ?_, fun i y hy => ?_⟩
  case refine_1 =>
    obtain ⟨h, h12, heq⟩ := hfixed
    rw [heq, List.append_nil, List.length_append, h12, length_flatMap_width hwidth]
  case refine_10 =>
    obtain ⟨h, h12, heq⟩ := hfixed
    rw [heq, ← h12, bytesAt_add]
    exact bytesAt_flatMap hwidth _ hy
  all_goals
    rw [hr]
    unfold restartMarkRecord
    simp [List.append_assoc, kRestartMark, n]

/-! ### The outcome of a part (R95) -/

theorem partOutcome_of_aborted {c : Context} (h : c.aborted = true) (e : Ending) : partOutcome c e = .aborted := by
  unfold partOutcome
  rw [if_pos h]

theorem partOutcome_of_not_aborted {c : Context} (h : c.aborted = false) (e : Ending) :
    (e = .openTimeout → partOutcome c e = .notDemoulded) ∧
    (e = .stuckPart ∨ e = .ejectorJam → partOutcome c e = .stuck) ∧
    (e = .released →
      (c.cure.undercured = true → partOutcome c e = .undercured) ∧
      (c.cure.undercured = false → c.suspect = true ∨ c.cure.blind = true ∨ c.slowSamples = true → partOutcome c e = .suspect) ∧
      (c.cure.undercured = false → c.suspect = false → c.cure.blind = false → c.slowSamples = false → partOutcome c e = .good)) := by
  unfold partOutcome
  simp only [h]
  refine ⟨?_, ?_, ?_⟩
  · rintro rfl
    rfl
  · rintro (rfl | rfl) <;> rfl
  · rintro rfl
    refine ⟨fun hu => by simp [hu], fun hu hs => ?_, fun hu hs hb hl => by simp [hu, hs, hb, hl]⟩
    have hany : (c.suspect || c.cure.blind || c.slowSamples) = true := by simpa [or_assoc] using hs
    simp [hu, hany]

/-- Settles O31. -/
theorem recordsCarryKindAndSize : Obligations.RecordsCarryKindAndSize := by
  refine ⟨fun st c e => ?_, rejectRecord_fields, lotMarkRecord_fields, restartMarkRecord_fields,
    fun c e => ⟨fun h => partOutcome_of_aborted h e, fun h => partOutcome_of_not_aborted h e⟩⟩
  obtain ⟨hkind, hsize, h2, h3, h4, h6, h10, h14, h18, h22, h26, h30, h34, h38, h42, h46, h48, h50, h51, h52, h53, h54, h55⟩ :=
    partRecord_fields st c e
  obtain ⟨hpieces, hfaults, hattempts⟩ := partRecord_lists st c e
  refine ⟨length_partRecord st c e, take_two hkind hsize, h2, h3, h4, h6, h10, h14, h18, h22, h26, h30, h34, h38,
    fun a b ha hb => ?_, fun h => ?_, h46, h48, ⟨_, getElem?_of_bytesAt h50, partFlags_bits c⟩, h51, h52, h53, h54, h55, hpieces, hfaults,
    hattempts⟩
  · rw [h42, wallTime_of_some ha hb]
    rfl
  · rw [h42, wallTime_of_none h]

end Sys2Proof.Claim
end

section
/-! PROOFS. The store's append (R151, R154 to R156, R167): the records room takes, the push, and the notices on their edges. -/

namespace Sys2Proof.Claim

open Sys2Proof.Machine

/-! ### The oldest records dropped (R156) -/

/-- The store without its `k` oldest records. -/
def dropped (x : Store) (k : Nat) : Store :=
  let oldest := x.oldest + BitVec.ofNat 32 k
  { x with
    ring := x.ring.drop k, oldest := oldest, held := x.held - ((x.ring.take k).map List.length).sum,
    cursor := if (x.cursor - x.oldest).toNat < k then oldest else x.cursor,
    autoPos := if (x.autoPos - x.oldest).toNat < k then oldest else x.autoPos,
    sender := x.sender.map fun z => if (z.seq - x.oldest).toNat < k then { z with cut := true } else z }

theorem dropped_zero (x : Store) : dropped x 0 = x := by simp [dropped]

/-- A position above the oldest record is one place nearer to the record after it. -/
theorem dist_succ {p o : Time} (h : p ≠ o) : (p - (o + 1)).toNat + 1 = (p - o).toNat := by
  have hne : p.toNat ≠ o.toNat := fun e => h (BitVec.eq_of_toNat_eq e)
  bv_omega

/-- The place of a position when the oldest record goes, and `k` more. -/
theorem position_dropped (p o : Time) (k : Nat) :
    (if ((if p = o then o + 1 else p) - (o + 1)).toNat < k then o + 1 + BitVec.ofNat 32 k else if p = o then o + 1 else p) =
      if (p - o).toNat < k + 1 then o + BitVec.ofNat 32 (k + 1) else p := by
  have hnext : o + 1 + BitVec.ofNat 32 k = o + BitVec.ofNat 32 (k + 1) := by rw [BitVec.ofNat_add, BitVec.add_assoc, BitVec.add_comm 1]; rfl
  by_cases h : p = o
  · subst h
    rw [if_pos rfl, BitVec.sub_self, BitVec.sub_self, hnext, BitVec.toNat_ofNat, Nat.zero_mod, if_pos (Nat.succ_pos k)]
    cases k with
    | zero => rfl
    | succ k => exact if_pos (Nat.succ_pos k)
  · have := dist_succ h
    rw [if_neg h, hnext]
    by_cases hk : (p - o).toNat < k + 1
    · rw [if_pos hk, if_pos (by omega)]
    · rw [if_neg hk, if_neg (by omega)]

theorem dropped_dropOldest {x : Store} {r : List Byte} {rest : List (List Byte)} (h : x.ring = r :: rest) (k : Nat) :
    dropped (x.dropOldest r.length rest) k = dropped x (k + 1) := by
  have hsend (z : Sending) : (if ((if z.seq = x.oldest then { z with cut := true } else z).seq - (x.oldest + 1)).toNat < k then
      { (if z.seq = x.oldest then { z with cut := true } else z) with cut := true }
      else if z.seq = x.oldest then { z with cut := true } else z) =
      if (z.seq - x.oldest).toNat < k + 1 then { z with cut := true } else z := by
    by_cases hz : z.seq = x.oldest
    · simp [hz]
    · have := dist_succ hz
      simp only [hz, if_false]
      by_cases hk : (z.seq - x.oldest).toNat < k + 1
      · rw [if_pos hk, if_pos (by omega)]
      · rw [if_neg hk, if_neg (by omega)]
  unfold dropped Store.dropOldest
  simp only [position_dropped, h, List.drop_succ_cons, List.take_succ_cons, List.map_cons, List.sum_cons, Option.map_map, Nat.sub_sub]
  have hnext : x.oldest + 1 + BitVec.ofNat 32 k = x.oldest + BitVec.ofNat 32 (k + 1) := by
    rw [BitVec.ofNat_add, BitVec.add_assoc, BitVec.add_comm 1]; rfl
  rw [hnext]
  congr 1
  cases x.sender with
  | none => rfl
  | some z => exact congrArg some (hsend z)

/-- The free space with the `k` oldest records dropped. -/
def freeWithout (x : Store) (k : Nat) : Nat := 16384 - (x.held - ((x.ring.take k).map List.length).sum)

/-- The fewest oldest records that free the bytes are dropped, or all of them. -/
theorem dropFor_eq (n : Nat) {l : List (List Byte)} {x : Store} (hl : x.ring = l) {k : Nat} (hk : k ≤ l.length)
    (hless : ∀ j, j < k → freeWithout x j < n) (hend : k = l.length ∨ n ≤ freeWithout x k) : Store.dropFor n l x = dropped x k := by
  induction l generalizing x k with
  | nil =>
    obtain rfl : k = 0 := by simpa using hk
    exact (dropped_zero x).symm
  | cons r rest ih =>
    have hfree : freeWithout x 0 = x.free := by simp [freeWithout, Store.free, Config.ringBytes]
    unfold Store.dropFor
    cases k with
    | zero =>
      have hge : n ≤ freeWithout x 0 := by simpa using hend
      rw [if_neg (by omega), dropped_zero]
    | succ k =>
      have hnext (j : Nat) : freeWithout (x.dropOldest r.length rest) j = freeWithout x (j + 1) := by
        simp [freeWithout, Store.dropOldest, hl, Nat.sub_sub]
      rw [if_pos (by have := hless 0 (by omega); omega), ← dropped_dropOldest hl]
      refine ih rfl (by simpa using hk) (fun j hj => ?_) ?_
      · rw [hnext]
        exact hless (j + 1) (by omega)
      · rw [hnext]
        simpa using hend

theorem position_moved (x : Store) {p : Time} {k : Nat} (hk : k < 4294967296) :
    (if (p - x.oldest).toNat < k then x.oldest + BitVec.ofNat 32 k else p) = p ↔ ¬(p - x.oldest).toNat < k := by
  refine ⟨fun h hlt => ?_, fun h => if_neg h⟩
  rw [if_pos hlt] at h
  bv_omega

/-- Room for a record under OVERWRITE (R156). -/
theorem makeRoom_overwrite {s : State} {n k : Nat} (hpolicy : s.store.settings.policy = .overwrite)
    (hlength : s.store.ring.length < 4294967296) (hk : k ≤ s.store.ring.length) (hless : ∀ j, j < k → freeWithout s.store j < n)
    (hend : k = s.store.ring.length ∨ n ≤ freeWithout s.store k) :
    s.makeRoom n =
      if k ≤ (s.store.cursor - s.store.oldest).toNat ∧ k ≤ (s.store.autoPos - s.store.oldest).toNat then
        { s with store := dropped s.store k }
      else State.raise { s with store := { dropped s.store k with overrun := true } } .cursorOverrun none
        (putTime (dropped s.store k).oldest ++ put16 ((dropped s.store k).autoPos - s.store.autoPos).toNat) := by
  have hmoved : (dropped s.store k).cursor = s.store.cursor ∧ (dropped s.store k).autoPos = s.store.autoPos ↔
      k ≤ (s.store.cursor - s.store.oldest).toNat ∧ k ≤ (s.store.autoPos - s.store.oldest).toNat := by
    unfold dropped
    dsimp only
    rw [position_moved _ (by omega), position_moved _ (by omega), Nat.not_lt, Nat.not_lt]
  unfold State.makeRoom
  rw [hpolicy]
  dsimp only
  rw [dropFor_eq n rfl hk hless hend]
  simp only [hmoved]
  rfl

theorem makeRoom_hold {s : State} (n : Nat) (h : s.store.settings.policy = .hold) : s.makeRoom n = s := by
  unfold State.makeRoom
  rw [h]

/-! ### The push and the notices -/

theorem nodeOf_isSome (s : State) (r : Role) (n : Nat) : (s.nodeOf r n).isSome = true ↔ s.nodeOf r n ≠ none := Option.isSome_iff_ne_none

/-- A record takes the number next holds (R154). -/
theorem pushRecord_rule (s : State) (bytes : List Byte) (pass : Bool) : let x := s.store
    s.pushRecord bytes pass = (State.testBacklog { s with store := { x with
      ring := x.ring ++ [bytes], next := x.next + 1, held := x.held + bytes.length,
      cursor := if pass = true ∧ x.settings.autoSend = true ∧ x.cursor = x.next ∧ s.nodeOf .master 255 ≠ none then x.next + 1
        else x.cursor } }).testLow := by
  intro x
  have hmoves : (pass && x.settings.autoSend && x.cursor == x.next && (s.nodeOf .master noStation).isSome) = true ↔
      pass = true ∧ x.settings.autoSend = true ∧ x.cursor = x.next ∧ s.nodeOf .master 255 ≠ none := by
    simp only [Bool.and_eq_true, beq_iff_eq, and_assoc, nodeOf_isSome]
    rfl
  unfold State.pushRecord
  dsimp only
  simp only [hmoves, x]
  rfl

/-- BACKLOG and STORE_LOW on their edges (R167). -/
theorem storeNotices (s : State) : let x := s.store
    let n := (x.next - x.cursor).toNat
    (n < x.settings.backlog → s.testBacklog = { s with store := { x with backlogArmed := true } }) ∧
    (x.settings.backlog ≤ n → x.backlogArmed = false → s.testBacklog = s) ∧
    (x.settings.backlog ≤ n → x.backlogArmed = true → s.testBacklog =
      State.raise { s with store := { x with backlogArmed := false } } .backlog none (put16 n ++ putTime x.cursor ++ putTime x.next)) ∧
    (x.settings.lowWater ≤ x.room → s.testLow = { s with store := { x with storeLowArmed := true } }) ∧
    (x.room < x.settings.lowWater → x.storeLowArmed = false → s.testLow = s) ∧
    (x.room < x.settings.lowWater → x.storeLowArmed = true → s.testLow =
      State.raise { s with store := { x with storeLowArmed := false } } .storeLow none
        (put16 x.room ++ put16 (16384 - x.held) ++ put8 x.reservations)) := by
  intro x n
  have hraise (t : State) (f : Store → Store) (k : NoticeKind) (key : Option (Fin 6)) (v : List Byte) :
      (t.raise k key v).modStore f = (t.modStore f).raise k key v := by
    unfold State.raise
    by_cases h : t.port.mask[k.index] = true
    · rw [if_pos h, if_pos (by exact h)]
      rfl
    · rw [if_neg h, if_neg (by exact h)]
  refine ⟨fun h => ?_, fun h ha => ?_, fun h ha => ?_, fun h => ?_, fun h ha => ?_, fun h ha => ?_⟩
  · exact if_neg (Nat.not_le.mpr h)
  · exact (if_pos h).trans (if_neg (by rw [ha]; exact Bool.false_ne_true))
  · exact (if_pos h).trans ((if_pos ha).trans (hraise _ _ _ _ _))
  · exact if_neg (Nat.not_lt.mpr h)
  · exact (if_pos h).trans (if_neg (by rw [ha]; exact Bool.false_ne_true))
  · exact (if_pos h).trans ((if_pos ha).trans (hraise _ _ _ _ _))

/-- Settles O32. -/
theorem storeAppendRule : Obligations.StoreAppendRule := by
  refine ⟨store_room, fun s n => ⟨makeRoom_hold n, fun k hpolicy hlength hk hless hend => ⟨fun hc ha => ?_, fun h => ?_⟩⟩, pushRecord_rule,
    storeNotices, fun s r bytes => rfl⟩
  · rw [makeRoom_overwrite hpolicy hlength hk hless hend, if_pos ⟨hc, ha⟩]
    rfl
  · rw [makeRoom_overwrite hpolicy hlength hk hless hend, if_neg (by omega)]
    rfl

end Sys2Proof.Claim
end

section
/-! PROOFS. An EJECT-SAMPLE at its station (R133, R140 to R146) and the wall timers of the cure (R91, R92): each a write of the station
with a command frame. -/

namespace Sys2Proof.Claim

open Sys2Proof.Machine

section Eject
variable (s : State) (st : Fin 6)

@[simp] theorem stations_withEject (w : EjectCmd) : (withEject s st w).stations = s.stations := by
  unfold withEject
  cases s.nodeOf .ejector st.val <;> rfl

@[simp] theorem now_withEject (w : EjectCmd) : (withEject s st w).now = s.now := by
  unfold withEject
  cases s.nodeOf .ejector st.val <;> rfl

@[simp] theorem station_withEject (w : EjectCmd) (sx : Fin 6) : (withEject s st w).station sx = s.station sx := by
  unfold State.station
  rw [stations_withEject]

/-- The station once an EJECT-SAMPLE's items are noted: its demould items alone (R133). -/
theorem station_ejectNoted (m : EjectSample) : (ejectNoted s st m).station st = { s.station st with demould := { (s.station st).demould with
    echoed := some m.echo, position := some m.position, force := some m.force } } := by
  unfold ejectNoted
  dsimp only
  split <;> simp

theorem ctx?_ejectNoted (m : EjectSample) : (ejectNoted s st m).ctx? st = s.ctx? st := by
  unfold State.ctx?
  rw [station_ejectNoted]

theorem now_ejectNoted (m : EjectSample) : (ejectNoted s st m).now = s.now := by
  unfold ejectNoted
  dsimp only
  split
  · rfl
  · exact now_withEject _ _ _

theorem ejectWork_eq (m : EjectSample) : s.ejectWork st m = (ejectNoted s st m).judgeEject st m := by
  unfold State.ejectWork ejectNoted
  dsimp only
  rw [modStation_eq, station_withStation, placeEject_eq, station_withStation]

/-! ### The judgement by the sub-state -/

theorem judgeEject_of_no_ctx {m : EjectSample} (h : s.ctx? st = none) : s.judgeEject st m = s := by
  unfold State.judgeEject
  rw [h]

variable {c : Context}

theorem judgeEject_of_idle (m : EjectSample) (hc : s.ctx? st = some c)
    (h : c.eject.sub = .none ∨ c.eject.sub = .waitOpen ∨ c.eject.sub = .dwelling) : s.judgeEject st m = s := by
  unfold State.judgeEject
  rw [hc]
  obtain h | h | h := h <;> simp only [h]

theorem judgeEject_of_other_echo {m : EjectSample} (hc : s.ctx? st = some c) (h : c.eject.sub = .extending)
    (hecho : m.echo ≠ .extend c.eject.limit) : s.judgeEject st m = s := by
  unfold State.judgeEject
  rw [hc]
  simp only [h, if_neg hecho]

theorem judgeEject_extending {m : EjectSample} (hc : s.ctx? st = some c) (h : c.eject.sub = .extending)
    (hecho : m.echo = .extend c.eject.limit) : s.judgeEject st m =
      let t := s.modCtx st fun c => { c with eject := { c.eject with peak := max c.eject.peak m.force } }
      if judge c.snapshot c.eject.limit m.position m.force = .none then t
      else t.takeOutcome st (judge c.snapshot c.eject.limit m.position m.force) := by
  unfold State.judgeEject
  rw [hc]
  simp only [h, if_pos hecho]
  cases judge c.snapshot c.eject.limit m.position m.force <;> rfl

theorem judgeEject_of_not_retracted {m : EjectSample} (hc : s.ctx? st = some c) (h : c.eject.sub = .retracting)
    (hm : m.echo ≠ .retract ∨ (s.station st).settings.retractThreshold < m.position) : s.judgeEject st m = s := by
  unfold State.judgeEject
  rw [hc]
  simp only [h]
  exact if_neg fun ⟨hecho, hpos⟩ => hm.elim (· hecho) (Nat.not_lt.mpr hpos)

theorem judgeEject_retracted {m : EjectSample} (hc : s.ctx? st = some c) (h : c.eject.sub = .retracting)
    (hecho : m.echo = .retract) (hpos : m.position ≤ (s.station st).settings.retractThreshold) :
    s.judgeEject st m = s.retractComplete st c := by
  unfold State.judgeEject
  rw [hc]
  simp only [h]
  exact if_pos ⟨hecho, hpos⟩

/-- An attempt that takes its outcome (R142). -/
theorem takeOutcome_eq (hc : s.ctx? st = some c) (o : AttemptOutcome) : s.takeOutcome st o =
    wantingEject (withStation s st { s.station st with ctx := some { c with eject := { c.eject with
      attempts := c.eject.attempts ++ [{ peak := c.eject.peak, outcome := o }], outcome := o, sub := .retracting,
      attemptTimer := .running s.now c.snapshot.attemptTimeout } } }) st .retract := by
  unfold State.takeOutcome
  rw [modCtx_of_ctx s st hc, wantEject_eq]

/-- An attempt that starts (R139). -/
theorem startAttempt_eq (hc : s.ctx? st = some c) (j : Nat) : s.startAttempt st j =
    let lim := attemptLimit (s.station st).settings c.snapshot j
    wantingEject (withStation s st { s.station st with ctx := some { c with eject := { c.eject with
      number := j, limit := lim, peak := 0, outcome := .none, sub := .extending,
      attemptTimer := .running s.now c.snapshot.attemptTimeout } } }) st (.extend lim) := by
  unfold State.startAttempt
  rw [hc]
  dsimp only
  rw [modCtx_of_ctx s st hc, wantEject_eq]

end Eject

/-- Settles O29. -/
theorem judgedSampleEndsAttempt : Obligations.JudgedSampleEndsAttempt := by
  refine ⟨fun s st m => ?_, wantEject_eq⟩
  intro n t
  have ht : t = n.judgeEject st m := ejectWork_eq s st m
  have hnctx : n.ctx? st = s.ctx? st := ctx?_ejectNoted s st m
  have hnow : n.now = s.now := now_ejectNoted s st m
  have hsettings : (n.station st).settings = (s.station st).settings := by rw [show n.station st = _ from station_ejectNoted s st m]
  refine ⟨fun hc => ?_, fun c hc => ⟨fun h => ?_, fun h hecho => ?_, fun h hm => ?_, fun o h hecho ho => ⟨fun hnone => ?_, fun hsome => ?_⟩⟩⟩
  · rw [ht, judgeEject_of_no_ctx _ _ (hnctx.trans hc)]
  · rw [ht, judgeEject_of_idle _ _ _ (hnctx.trans hc) h]
  · rw [ht, judgeEject_of_other_echo _ _ (hnctx.trans hc) h hecho]
  · rw [ht, judgeEject_of_not_retracted _ _ (hnctx.trans hc) h (by rwa [hsettings])]
  · have hjudge : judge c.snapshot c.eject.limit m.position m.force = .none := ho.symm.trans hnone
    rw [ht, judgeEject_extending _ _ (hnctx.trans hc) h hecho, hjudge]
    exact modCtx_of_ctx n st (hnctx.trans hc) _
  · have hjudge : judge c.snapshot c.eject.limit m.position m.force = o := ho.symm
    rw [ht, judgeEject_extending _ _ (hnctx.trans hc) h hecho, hjudge]
    dsimp only
    rw [if_neg hsome, modCtx_of_ctx n st (hnctx.trans hc), takeOutcome_eq _ _ (ctx?_withStation _ _ _), station_withStation,
      withStation_withStation, ← hnow]
    rfl

/-! ### The entry to OPENING (R25, R36, R135) -/

section Opening
variable (s : State) (st : Fin 6)

@[simp] theorem resolved_withStation (x y : Station) : resolved (withStation s st x) st y = resolved s st y :=
  congrArg (State.resolveAfresh · st) (withStation_withStation s st x y)

@[simp] theorem opened_withStation (x y : Station) (c : Context) : opened (withStation s st x) st y c = opened s st y c := by
  unfold opened
  rw [resolved_withStation]
  rfl

/-- An opening from a state of another permission and source kind. -/
theorem startOpening_eq {c : Context} (hc : s.ctx? st = some c) (hp : (s.station st).state.permission ≠ .openPress)
    (hk : (s.station st).state.source ≠ .opening) : s.startOpening st = opened s st (s.station st) c := by
  unfold State.startOpening
  rw [modCtx_of_ctx s st hc, setState_permit _ _ (new := .opening) (by rwa [station_withStation]) (by rwa [station_withStation]) nofun, station_withStation,
    resolved_withStation]
  rfl

/-- The end of a cure (R13, R93). -/
theorem endCure_eq {c : Context} (hc : s.ctx? st = some c) (hstate : (s.station st).state = .curing) (t : Time) :
    s.endCure st t = opened s st (s.station st) { c with cure := c.cure.stopAt t } := by
  unfold State.endCure
  rw [modCtx_of_ctx s st hc, startOpening_eq _ _ (ctx?_withStation _ _ _) (by simp [hstate, StationState.permission])
    (by simp [hstate, StationState.source]), station_withStation, opened_withStation]
  rfl

theorem cycleTimer_of_state {x : StationState} {c : Context} (hstate : (s.station st).state = x) (hc : s.ctx? st = some c)
    (timer : Context → Timer) : s.cycleTimer st x timer = timer c := by
  unfold State.cycleTimer
  rw [if_pos hstate, hc]
  rfl

theorem withCtx_eq {c : Context} (hc : s.ctx? st = some c) (act : Context → State) : s.withCtx st act = act c := by
  unfold State.withCtx
  rw [hc]
  rfl

end Opening

/-- The accumulator is short of its target. -/
theorem not_reached {c : Cure} {e : Nat} (h : c.target = some e) : (!c.reached) = decide (c.acc < e * 256) := by
  unfold Cure.reached
  rw [h, Option.any_some, ← decide_not, decide_eq_decide, Nat.not_le]

/-- Settles O40. -/
theorem wallTimersEndCure : Obligations.WallTimersEndCure := by
  intro s st c since len hstate hc hlen x stopped
  refine ⟨fun hmin => ?_, fun e he hmax => ?_⟩
  · have hexec : exec (.wallMinimumExpiry st) s =
        .next (s.wallMinExpired st c (since + BitVec.ofNat 32 len)).beginSend := by
      rw [exec_eq_work]
      dsimp only [State.work]
      rw [State.wallMinTimer, cycleTimer_of_state s st hstate hc, hmin, onDue_of_due hlen, withCtx_eq s st hc]
    rw [hexec]
    unfold State.wallMinExpired
    refine ⟨fun hmet => ?_, fun hmet => ?_⟩
    · rw [if_pos hmet, endCure_eq s st hc hstate]
      rfl
    · rw [if_neg (by rw [hmet]; nofun), modCtx_of_ctx s st hc]
  · rw [exec_eq_work]
    dsimp only [State.work]
    rw [State.wallMaxTimer, cycleTimer_of_state s st hstate hc, hmax, onDue_of_due hlen]
    unfold State.wallMaxExpired
    rw [modCtx_of_ctx s st hc, endCure_eq _ _ (ctx?_withStation _ _ _) (by rw [station_withStation]; exact hstate), station_withStation,
      opened_withStation, not_reached he]
    rfl

end Sys2Proof.Claim
end

section
/-! PROOFS. What the store's append and the arbiter's test leave beside them: the line, the duties in the slate and the notices of other
kinds; a station that the call queue does not hold; and the records. -/

namespace Sys2Proof.Machine

/-! ### Beside the store and the arbiter -/

/-- The kinds that neither the store's append nor a change of a station's state nor the arbiter's test raises. -/
def NoticeKind.aside : NoticeKind → Bool
  | .stationState | .recipeMissing | .storeLow | .backlog | .cursorOverrun => false
  | _ => true

/-- The line, the duties that wait in the slate, and the pending notices of the kinds `NoticeKind.aside`. -/
structure SideView where
  line : LineView
  duty : Fin 6 → Option OutFrame
  notices : NoticeKind → Option (Fin 6) → Option NoticeFlag

def State.side (s : State) : SideView :=
  { line := s.line, duty := fun st => s.port.slate[dutySlot st],
    notices := fun k key => if k.aside then s.port.notices[noticeSlot k key] else none }

theorem State.line_of_side {s t : State} (h : t.side = s.side) : t.line = s.line := congrArg SideView.line h

theorem State.duty_of_side {s t : State} (h : t.side = s.side) (st : Fin 6) : t.port.slate[dutySlot st] = s.port.slate[dutySlot st] :=
  congrFun (congrArg SideView.duty h) st

theorem State.notices_of_side {s t : State} (h : t.side = s.side) {k : NoticeKind} (hk : k.aside = true) (key : Option (Fin 6)) :
    t.port.notices[noticeSlot k key] = s.port.notices[noticeSlot k key] := by
  have := congrFun (congrFun (congrArg SideView.notices h) k) key
  simpa only [State.side, hk, if_true] using this

theorem keyIndex_injective : ∀ key key' : Option (Fin 6), keyIndex key = keyIndex key' → key = key' := by decide

theorem noticeSlot_injective {k k' : NoticeKind} {key key' : Option (Fin 6)} (h : noticeSlot k key = noticeSlot k' key') :
    k = k' ∧ key = key' := by
  have hkey : ∀ key : Option (Fin 6), (keyIndex key).val < 7 := fun key => (keyIndex key).isLt
  have hval : k.index.val * 7 + (keyIndex key).val = k'.index.val * 7 + (keyIndex key').val := congrArg Fin.val h
  have h1 := hkey key
  have h2 := hkey key'
  have hindex : k.index = k'.index := Fin.ext (by omega)
  have hkeys : keyIndex key = keyIndex key' := Fin.ext (by omega)
  exact ⟨by revert hindex; cases k <;> cases k' <;> decide, keyIndex_injective _ _ hkeys⟩

section
variable (s : State)

@[simp] theorem State.side_modStation (st : Fin 6) (f : Station → Station) : (s.modStation st f).side = s.side := rfl

@[simp] theorem State.side_modCtx (st : Fin 6) (f : Context → Context) : (s.modCtx st f).side = s.side := rfl

@[simp] theorem State.side_modStore (f : Store → Store) : (s.modStore f).side = s.side := rfl

@[simp] theorem State.side_modWeigher (f : Weigher → Weigher) : (s.modWeigher f).side = s.side := rfl

@[simp] theorem State.side_arbiter (a : Arbiter) : ({ s with arbiter := a } : State).side = s.side := rfl

@[simp] theorem State.side_store (x : Store) : ({ s with store := x } : State).side = s.side := rfl

@[simp] theorem State.side_removeCall (st : Fin 6) : (s.removeCall st).side = s.side := rfl

@[simp] theorem State.side_endGrant : s.endGrant.side = s.side := rfl

@[simp] theorem State.side_resolveAfresh (st : Fin 6) : (s.resolveAfresh st).side = s.side := rfl

@[simp] theorem State.side_releaseContext (st : Fin 6) : (s.releaseContext st).side = s.side := rfl

@[simp] theorem State.side_createContext (st : Fin 6) (r : Reservation) : (s.createContext st r).side = s.side := rfl

theorem State.side_raise {k : NoticeKind} (hk : k.aside = false) (key : Option (Fin 6)) (v : List Byte) : (s.raise k key v).side = s.side := by
  have hslate : (s.raise k key v).port.slate = s.port.slate := by unfold State.raise; split <;> rfl
  unfold State.side
  rw [s.line_raise k key v, hslate]
  congr 1
  funext k' key'
  split
  · next hk' =>
    refine Claim.notices_raise_of_ne (fun e => ?_) v
    obtain ⟨rfl, -⟩ := noticeSlot_injective e
    exact Bool.false_ne_true (hk.symm.trans hk')
  · rfl

@[simp] theorem State.side_raiseStationState (st : Fin 6) : (s.raiseStationState st).side = s.side := s.side_raise rfl _ _

theorem State.side_placeCommand {slot : Fin 19} (h : ∀ st, slot ≠ dutySlot st) (r : Role) (n : Nat) (k : Byte) (b : List Byte) :
    (s.placeCommand slot r n k b).side = s.side := by
  have hnotices : (s.placeCommand slot r n k b).port.notices = s.port.notices := by unfold State.placeCommand; split <;> rfl
  unfold State.side
  rw [s.line_placeCommand slot r n k b, hnotices]
  congr 1
  funext st
  unfold State.placeCommand
  split
  · exact Vector.getElem_set_ne slot.isLt (dutySlot st).isLt fun e => h st (Fin.ext e)
  · rfl

@[simp] theorem State.side_placePermit (st : Fin 6) : (s.placePermit st).side = s.side :=
  s.side_placeCommand (fun sx e => by have := congrArg Fin.val e; simp only [permitSlot, dutySlot] at this; omega) _ _ _ _

@[simp] theorem State.side_placeEject (st : Fin 6) : (s.placeEject st).side = s.side :=
  s.side_placeCommand (fun sx e => by have := congrArg Fin.val e; simp only [ejectSlot, dutySlot] at this; omega) _ _ _ _

@[simp] theorem State.side_placeGate : s.placeGate.side = s.side :=
  s.side_placeCommand (fun sx e => by have := congrArg Fin.val e; simp only [gateSlot, dutySlot] at this; omega) _ _ _ _

@[simp] theorem State.side_wantGate (g : Gate) : (s.wantGate g).side = s.side := by
  unfold State.wantGate
  split <;> simp

@[simp] theorem State.side_wantEject (st : Fin 6) (w : EjectCmd) : (s.wantEject st w).side = s.side := by
  unfold State.wantEject
  split <;> simp

@[simp] theorem State.side_setState (st : Fin 6) (x : StationState) : (s.setState st x).side = s.side := by
  unfold State.setState
  dsimp only
  split <;> split <;> simp

@[simp] theorem State.side_enterClearing (g : Gate) : (s.enterClearing g).side = s.side := by simp [State.enterClearing]

@[simp] theorem State.side_testBacklog : s.testBacklog.side = s.side := by
  unfold State.testBacklog
  dsimp only
  split
  · split
    · exact s.side_raise rfl _ _
    · rfl
  · rfl

@[simp] theorem State.side_testLow : s.testLow.side = s.side := by
  unfold State.testLow
  dsimp only
  split
  · split
    · exact s.side_raise rfl _ _
    · rfl
  · rfl

@[simp] theorem State.side_reserve : s.reserve.side = s.side := by simp [State.reserve]

@[simp] theorem State.side_useReservation (r : Reservation) : (s.useReservation r).side = s.side := by
  unfold State.useReservation
  split <;> simp

@[simp] theorem State.side_makeRoom (n : Nat) : (s.makeRoom n).side = s.side := by
  unfold State.makeRoom
  split
  · rfl
  · dsimp only
    split
    · simp
    · rw [State.side_raise _ rfl]
      simp

@[simp] theorem State.side_pushRecord (b : List Byte) (pass : Bool) : (s.pushRecord b pass).side = s.side := by
  unfold State.pushRecord
  simp

@[simp] theorem State.side_armWeigher (st : Fin 6) : (s.armWeigher st).side = s.side := by simp [State.armWeigher]

@[simp] theorem State.side_grant (st : Fin 6) : (s.grant st).side = s.side := by
  unfold State.grant
  dsimp only
  split <;> simp

@[simp] theorem State.side_recipeMissing (st : Fin 6) : (s.recipeMissing st).side = s.side := by
  unfold State.recipeMissing
  rw [State.side_raise _ rfl]
  simp

end

/-! ### The arbiter's test -/

/-- What a grant and a missing recipe of the stations in the queue keep, the arbiter's test keeps (R127). -/
theorem State.consider_induction {P : State → Prop} {s : State} (h0 : P s)
    (hmissing : ∀ t, ∀ st ∈ s.arbiter.queue, P t → P (t.recipeMissing st))
    (hgrant : ∀ t, ∀ st ∈ s.arbiter.queue, P t → t.canGrant = true → t.recipes[(t.station st).boundRecipe].present = true → P (t.grant st)) :
    P s.consider := by
  have hfrom : ∀ (l : List (Fin 6)) (t : State), (∀ st ∈ l, st ∈ s.arbiter.queue) → P t → P (State.considerFrom l t) := by
    intro l
    induction l with
    | nil => exact fun t _ ht => ht
    | cons a l ih =>
      intro t hl ht
      unfold State.considerFrom
      split
      · next hcan =>
        split
        · next hpresent => exact hgrant t a (hl a (by simp)) ht hcan hpresent
        · exact ih _ (fun st hst => hl st (by simp [hst])) (hmissing t a (hl a (by simp)) ht)
      · exact ht
  exact hfrom _ s (fun _ h => h) h0

section
variable (s : State)

@[simp] theorem State.side_consider : s.consider.side = s.side :=
  State.consider_induction (P := fun t => t.side = s.side) rfl (fun t st _ h => (t.side_recipeMissing st).trans h)
    (fun t st _ h _ _ => (t.side_grant st).trans h)

@[simp] theorem State.side_leaveQueue (st : Fin 6) : (s.leaveQueue st).side = s.side := by
  unfold State.leaveQueue
  dsimp only
  split <;> simp

@[simp] theorem State.side_enterCalling (st : Fin 6) (atHead : Bool) : (s.enterCalling st atHead).side = s.side := by
  unfold State.enterCalling
  dsimp only
  rw [State.side_consider, State.side_arbiter, State.side_setState]

@[simp] theorem State.side_lookCalling (st : Fin 6) : (s.lookCalling st).side = s.side := by
  unfold State.lookCalling
  dsimp only
  split <;> simp

@[simp] theorem State.side_enterReady (st : Fin 6) : (s.enterReady st).side = s.side := by simp [State.enterReady]

@[simp] theorem State.side_pushAndReport (n : Nat) (b : List Byte) : (s.pushAndReport n b).side = s.side := by
  unfold State.pushAndReport
  dsimp only
  split <;> simp

@[simp] theorem State.side_appendCycle (r : Reservation) (b : List Byte) : (s.appendCycle r b).side = s.side := by simp [State.appendCycle]

/-! ### A station beside the call queue -/

/-- A station and its pending STATION_STATE. -/
def State.beside (s : State) (st : Fin 6) : Station × Option NoticeFlag := (s.station st, s.port.notices[noticeSlot .stationState (some st)])

theorem State.station_of_beside {s t : State} {st : Fin 6} (h : t.beside st = s.beside st) : t.station st = s.station st :=
  congrArg Prod.fst h

theorem State.told_of_beside {s t : State} {st : Fin 6} (h : t.beside st = s.beside st) :
    t.port.notices[noticeSlot .stationState (some st)] = s.port.notices[noticeSlot .stationState (some st)] := congrArg Prod.snd h

variable {sx : Fin 6}

theorem State.beside_raise {k : NoticeKind} (h : k ≠ .stationState) (key : Option (Fin 6)) (v : List Byte) :
    (s.raise k key v).beside sx = s.beside sx :=
  Prod.ext (s.station_raise k key v sx) (Claim.notices_raise_of_ne (fun e => h (noticeSlot_injective e).1.symm) v)

theorem State.beside_raiseStationState {st : Fin 6} (h : sx ≠ st) : (s.raiseStationState st).beside sx = s.beside sx :=
  Prod.ext (s.station_raise _ _ _ sx) (Claim.notices_raise_of_ne (fun e => h (Option.some.inj (noticeSlot_injective e).2)) _)

theorem State.beside_placeCommand (slot : Fin 19) (r : Role) (n : Nat) (k : Byte) (b : List Byte) :
    (s.placeCommand slot r n k b).beside sx = s.beside sx := by
  unfold State.placeCommand
  split <;> rfl

theorem State.beside_modStation {st : Fin 6} (h : sx ≠ st) (f : Station → Station) : (s.modStation st f).beside sx = s.beside sx :=
  Prod.ext (s.station_modStation_of_ne f h) rfl

theorem State.beside_setState {st : Fin 6} (h : sx ≠ st) (x : StationState) : (s.setState st x).beside sx = s.beside sx := by
  unfold State.setState State.placePermit State.resolveAfresh
  dsimp only
  split <;> split <;> simp only [State.beside_placeCommand, State.beside_modStation _ h]

@[simp] theorem State.beside_wantGate (g : Gate) : (s.wantGate g).beside sx = s.beside sx := by
  unfold State.wantGate
  split
  · rfl
  · exact State.beside_placeCommand _ _ _ _ _ _

@[simp] theorem State.beside_testLow : s.testLow.beside sx = s.beside sx := by
  unfold State.testLow
  dsimp only
  split
  · split
    · exact s.beside_raise (k := .storeLow) (by decide) _ _
    · rfl
  · rfl

@[simp] theorem State.beside_testBacklog : s.testBacklog.beside sx = s.beside sx := by
  unfold State.testBacklog
  dsimp only
  split
  · split
    · exact s.beside_raise (k := .backlog) (by decide) _ _
    · rfl
  · rfl

@[simp] theorem State.beside_reserve : s.reserve.beside sx = s.beside sx := State.beside_testLow _

theorem State.beside_recipeMissing {st : Fin 6} (h : sx ≠ st) : (s.recipeMissing st).beside sx = s.beside sx := by
  unfold State.recipeMissing
  rw [State.beside_raise _ (k := .recipeMissing) (by decide), State.beside_raiseStationState _ h, State.beside_setState _ h]
  rfl

theorem State.beside_resolveAfresh {st : Fin 6} (h : sx ≠ st) : (s.resolveAfresh st).beside sx = s.beside sx :=
  State.beside_modStation s h _

theorem State.beside_createContext {st : Fin 6} (h : sx ≠ st) (r : Reservation) : (s.createContext st r).beside sx = s.beside sx :=
  State.beside_modStation s h _

theorem State.beside_armWeigher (st : Fin 6) : (s.armWeigher st).beside sx = s.beside sx := State.beside_wantGate _ _

theorem State.beside_grant {st : Fin 6} (h : sx ≠ st) : (s.grant st).beside sx = s.beside sx := by
  have hreserve : (if s.store.settings.policy = .hold then s.reserve else s).beside sx = s.beside sx := by split <;> simp
  unfold State.grant
  dsimp only
  rw [State.beside_armWeigher, State.beside_resolveAfresh _ h, State.beside_setState _ h, State.beside_createContext _ h]
  exact hreserve

/-- The arbiter's test leaves a station that the queue does not hold. -/
theorem State.beside_consider (h : sx ∉ s.arbiter.queue) : s.consider.beside sx = s.beside sx :=
  State.consider_induction (P := fun t => t.beside sx = s.beside sx) rfl
    (fun t _ hst ht => (t.beside_recipeMissing (ne_of_mem_of_not_mem hst h).symm).trans ht)
    (fun t _ hst ht _ _ => (t.beside_grant (ne_of_mem_of_not_mem hst h).symm).trans ht)

/-- A station that leaves the queue stands beside the test its leaving makes. -/
theorem State.beside_leaveQueue (st : Fin 6) : (s.leaveQueue st).beside st = s.beside st := by
  unfold State.leaveQueue
  dsimp only
  split
  · rfl
  · rw [State.beside_consider _ (by simp [State.removeCall])]
    rfl

theorem State.beside_useReservation (r : Reservation) : (s.useReservation r).beside sx = s.beside sx := by
  unfold State.useReservation
  split <;> rfl

theorem State.beside_makeRoom (n : Nat) : (s.makeRoom n).beside sx = s.beside sx := by
  unfold State.makeRoom
  split
  · rfl
  · dsimp only
    split
    · rfl
    · exact State.beside_raise _ (k := .cursorOverrun) (by decide) _ _

theorem State.beside_pushRecord (b : List Byte) (pass : Bool) : (s.pushRecord b pass).beside sx = s.beside sx := by
  unfold State.pushRecord
  simp only [State.beside_testLow, State.beside_testBacklog]
  rfl

theorem State.arbiter_makeRoom (n : Nat) : (s.makeRoom n).arbiter = s.arbiter := by
  obtain ⟨p, x, h, -⟩ := s.makeRoom_eq n
  rw [h]

theorem State.arbiter_pushRecord (b : List Byte) (pass : Bool) : (s.pushRecord b pass).arbiter = s.arbiter := by
  obtain ⟨p, c, bl, l, h⟩ := s.pushRecord_eq b pass
  rw [h]

theorem State.arbiter_useReservation (r : Reservation) : (s.useReservation r).arbiter = s.arbiter := by
  obtain ⟨n, h⟩ := s.useReservation_eq r
  rw [h]

/-- An append leaves a station that the queue does not hold. -/
theorem State.beside_appendCycle (h : sx ∉ s.arbiter.queue) (r : Reservation) (b : List Byte) :
    (s.appendCycle r b).beside sx = s.beside sx := by
  have hpushed : (((s.useReservation r).makeRoom b.length).pushRecord b true).beside sx = s.beside sx := by
    rw [State.beside_pushRecord, State.beside_makeRoom, State.beside_useReservation]
  unfold State.appendCycle State.pushAndReport
  dsimp only
  split
  · rw [State.beside_consider _ (by rwa [State.arbiter_pushRecord, State.arbiter_makeRoom, State.arbiter_useReservation]), hpushed]
  · exact hpushed

/-! ### The records -/

/-- The records and the numbers of the store, which the arbiter's test leaves: it reserves alone. -/
theorem State.store_testLow : ∃ n b, s.testLow.store = { s.store with reservations := n, storeLowArmed := b } := by
  obtain ⟨p, b, h⟩ := s.testLow_eq
  exact ⟨s.store.reservations, b, by rw [h]⟩

theorem State.store_reserve : ∃ n b, s.reserve.store = { s.store with reservations := n, storeLowArmed := b } :=
  State.store_testLow (s.modStore fun x => { x with reservations := x.reservations + 1 })

@[simp] theorem State.store_createContext (st : Fin 6) (r : Reservation) : (s.createContext st r).store = s.store := rfl

@[simp] theorem State.store_armWeigher (st : Fin 6) : (s.armWeigher st).store = s.store := by simp [State.armWeigher]

@[simp] theorem State.store_recipeMissing (st : Fin 6) : (s.recipeMissing st).store = s.store := by
  simp only [State.recipeMissing, State.store_raise, State.store_raiseStationState, State.store_setState]
  rfl

theorem State.store_grant (st : Fin 6) : ∃ n b, (s.grant st).store = { s.store with reservations := n, storeLowArmed := b } := by
  unfold State.grant
  dsimp only
  rw [State.store_armWeigher, State.store_resolveAfresh, State.store_setState, State.store_createContext]
  split
  · exact s.store_reserve
  · exact ⟨_, _, rfl⟩

theorem State.store_consider : ∃ n b, s.consider.store = { s.store with reservations := n, storeLowArmed := b } := by
  refine State.consider_induction (P := fun t => ∃ n b, t.store = { s.store with reservations := n, storeLowArmed := b })
    ⟨_, _, rfl⟩ (fun t st _ h => by rwa [State.store_recipeMissing]) fun t st _ h _ _ => ?_
  obtain ⟨n, b, h⟩ := h
  obtain ⟨m, c, e⟩ := t.store_grant st
  exact ⟨m, c, by rw [e, h]⟩

theorem State.store_leaveQueue (st : Fin 6) : ∃ n b, (s.leaveQueue st).store = { s.store with reservations := n, storeLowArmed := b } := by
  unfold State.leaveQueue
  dsimp only
  split
  · exact ⟨_, _, rfl⟩
  · exact State.store_consider _

/-- An append leaves its record the newest, under the number next held (R154). -/
theorem State.store_appendCycle (r : Reservation) (b : List Byte) :
    (s.appendCycle r b).store.next = s.store.next + 1 ∧ (s.appendCycle r b).store.ring.getLast? = some b := by
  obtain ⟨n, e1⟩ := s.useReservation_eq r
  obtain ⟨p, x, e2, hnext, -⟩ := (s.useReservation r).makeRoom_eq b.length
  obtain ⟨q, c, bl, l, e3⟩ := ((s.useReservation r).makeRoom b.length).pushRecord_eq b true
  have hstore : (((s.useReservation r).makeRoom b.length).pushRecord b true).store.next = s.store.next + 1 ∧
      (((s.useReservation r).makeRoom b.length).pushRecord b true).store.ring.getLast? = some b := by
    rw [e3, e2]
    refine ⟨?_, by simp⟩
    show x.next + 1 = _
    rw [hnext, e1]
  unfold State.appendCycle State.pushAndReport
  dsimp only
  split
  · obtain ⟨m, d, e⟩ := (((s.useReservation r).makeRoom b.length).pushRecord b true).store_consider
    rw [e]
    exact hstore
  · exact hstore

end

end Sys2Proof.Machine
end

section
/-! PROOFS. What a command tells and sends (R175, R181), the end of a charge (R113, R114) and the end of a cycle after its accept (R7,
R14). -/

namespace Sys2Proof.Claim

open Sys2Proof.Machine

/-! ### Notices told and frames placed -/

theorem told_raise {s t : State} (hline : t.line = s.line) {k : NoticeKind} {st : Fin 6}
    (hnotice : t.port.notices[noticeSlot k (some st)] = s.port.notices[noticeSlot k (some st)]) (v : List Byte) :
    Told s (t.raise k (some st) v) k st v := by
  intro hmask
  rw [notices_raise_self (by rw [State.mask_of_line hline]; exact hmask), hnotice, State.now_of_line hline]

theorem Told.of_notice {s t u : State} {k : NoticeKind} {st : Fin 6} {v : List Byte} (h : Told s t k st v)
    (hnotice : u.port.notices[noticeSlot k (some st)] = t.port.notices[noticeSlot k (some st)]) : Told s u k st v :=
  fun hmask => hnotice.trans (h hmask)

theorem Told.beginSend {s t : State} {k : NoticeKind} {st : Fin 6} {v : List Byte} (h : Told s t k st v) : Told s t.beginSend k st v :=
  h.of_notice (by rw [State.notices_beginSend])

/-- Ring-out's turn leaves a slot of the slate, or takes its frame. -/
theorem slate_beginSend (s : State) (i : Fin 19) : s.beginSend.port.slate[i] = s.port.slate[i] ∨
    s.port.sending = none ∧ ∃ f g, s.port.slate[i] = some f ∧ s.beginSend.port.sending = some g ∧ Originates s f g := by
  have hkeep (p : Port) (own : Byte) (f : OutFrame) : (p.transmit own f).slate = p.slate := by unfold Port.transmit; split <;> rfl
  unfold State.beginSend
  split
  · exact Or.inl rfl
  · next hsending =>
    have hnone : s.port.sending = none := by simpa using hsending
    split
    · exact Or.inl rfl
    · next c _ =>
      cases c with
      | forward =>
        refine Or.inl ?_
        show (Port.serve s.port (s.nodeAddress.getD 0) .forward).slate[i] = _
        unfold Port.serve
        dsimp only
        split <;> rfl
      | report =>
        refine Or.inl ?_
        show (Port.serve s.port (s.nodeAddress.getD 0) .report).slate[i] = _
        unfold Port.serve
        dsimp only
        split
        · rfl
        · rw [hkeep]
      | slate =>
        show (Port.serve s.port _ .slate).slate[i] = _ ∨ _
        unfold Port.serve
        dsimp only
        split
        · exact Or.inl rfl
        · next j hj =>
          split
          · exact Or.inl rfl
          · next f hf =>
            by_cases hij : j = i
            · subst hij
              refine Or.inr ⟨hnone, f, ?_⟩
              obtain ⟨g, hg, htransmit⟩ :=
                transmit_originates s { s.port with slate := s.port.slate.set j none, lastSlot := j, lastRing := .slate } rfl f
              refine ⟨g, hf, ?_, hg⟩
              show (Port.serve s.port _ .slate).sending = _
              unfold Port.serve
              simp only [hj, hf, htransmit]
            · refine Or.inl ?_
              rw [hkeep]
              exact Vector.getElem_set_ne j.isLt i.isLt fun e => hij (Fin.ext e)

/-- A frame in its slot is still there, or on its way, after ring-out's turn. -/
theorem placedOrSent_beginSend {s t : State} (hsending : t.port.sending = s.port.sending) (haddress : t.nodeAddress = s.nodeAddress)
    (hseq : t.port.seqCounter = s.port.seqCounter) {i : Fin 19} {f : OutFrame} (h : t.port.slate[i] = some f) :
    PlacedOrSent s t.beginSend i f := by
  obtain hkeep | ⟨hnone, f', g, hf', hg, horiginates⟩ := slate_beginSend t i
  · exact Or.inl (hkeep.trans h)
  · obtain rfl : f' = f := Option.some.inj (hf'.symm.trans h)
    unfold Originates at horiginates
    rw [haddress, hseq] at horiginates
    exact Or.inr ⟨hsending.symm.trans hnone, g, hg, horiginates⟩

/-! ### The end of a charge -/

theorem rejectCycle_of_no_ctx {s : State} {st : Fin 6} (h : s.ctx? st = none) (reason : RejectReason) (total : Int) (time : Time) :
    s.rejectCycle st reason total time = s.endGrant := by
  unfold State.rejectCycle
  rw [h]

theorem rejectCycle_of_ctx {s : State} {st : Fin 6} {c : Context} (h : s.ctx? st = some c) (reason : RejectReason) (total : Int)
    (time : Time) : s.rejectCycle st reason total time =
      (((s.appendCycle c.reservation (rejectRecord st c reason total s.weigher.pieces time)).releaseContext st).endGrant).raise
        .chargeReject (some st) (put8 reason.code ++ putTime c.cycle ++ putS32 total ++ put8 s.weigher.pieces.length) := by
  unfold State.rejectCycle
  rw [h]

/-- The record of a reject is the newest, and CHARGE_REJECT is raised. -/
theorem rejectCycle_told {s : State} {st : Fin 6} {c : Context} (h : s.ctx? st = some c) (reason : RejectReason) (total : Int) (time : Time) :
    let t := s.rejectCycle st reason total time
    t.store.ring.getLast? = some (rejectRecord st c reason total s.weigher.pieces time) ∧
    Told s t .chargeReject st (put8 reason.code ++ putTime c.cycle ++ putS32 total ++ put8 s.weigher.pieces.length) := by
  intro t
  rw [show t = _ from rejectCycle_of_ctx h reason total time]
  refine ⟨?_, told_raise (State.line_of_side (by simp)) (State.notices_of_side (by simp) rfl _) _⟩
  rw [State.store_raise, State.store_endGrant, State.store_releaseContext]
  exact (s.store_appendCycle _ _).2

theorem port_releaseContext (s : State) (st : Fin 6) : (s.releaseContext st).port = s.port := rfl

theorem port_endGrant (s : State) : s.endGrant.port = s.port := rfl

/-- A reject leaves the pending STATION_STATE while the arbiter cannot grant. -/
theorem stationState_rejectCycle {s : State} (hw : s.weigher.state ≠ .idle) (st sx : Fin 6) (reason : RejectReason) (total : Int)
    (time : Time) : (s.rejectCycle st reason total time).port.notices[noticeSlot .stationState (some sx)] =
      s.port.notices[noticeSlot .stationState (some sx)] := by
  cases hc : s.ctx? st with
  | none =>
    rw [rejectCycle_of_no_ctx hc]
    rfl
  | some c =>
    rw [rejectCycle_of_ctx hc, notices_raise_of_ne fun e => NoticeKind.noConfusion (noticeSlot_injective e).1]
    rw [port_endGrant, port_releaseContext]
    have hpushed (r : Reservation) (b : List Byte) : (((s.useReservation r).makeRoom b.length).pushRecord b true).beside sx = s.beside sx := by
      rw [State.beside_pushRecord, State.beside_makeRoom, State.beside_useReservation]
    have hidle (r : Reservation) (b : List Byte) : (((s.useReservation r).makeRoom b.length).pushRecord b true).weigher = s.weigher := by
      obtain ⟨n, h1⟩ := s.useReservation_eq r
      obtain ⟨p, x, h2, -⟩ := (s.useReservation r).makeRoom_eq b.length
      obtain ⟨q, d, bl, l, h3⟩ := ((s.useReservation r).makeRoom b.length).pushRecord_eq b true
      rw [h3, h2, h1]
    unfold State.appendCycle State.pushAndReport
    dsimp only
    split
    · rw [State.consider_of_not_idle _ (by rw [hidle]; exact hw)]
      exact State.told_of_beside (hpushed _ _)
    · exact State.told_of_beside (hpushed _ _)

section Abort
variable {s : State} {st : Fin 6} {c : Context}

/-- A station ends the weigh of its own cycle (R114). -/
theorem weighAborted_abortWeigh (hw : s.weigher.state ≠ .idle) (hc : s.ctx? st = some c) : WeighAborted s (s.abortWeigh st) st c := by
  obtain ⟨hstation, -, hweigher, harbiter, hnext, -, hnow⟩ := s.rejectCycle_spec st c .aborted s.weigher.vPrev s.now hw hc
  obtain ⟨hlast, htold⟩ := rejectCycle_told hc .aborted s.weigher.vPrev s.now
  unfold State.abortWeigh
  refine ⟨?_, ?_, ?_, ?_, ?_, ?_, ?_, htold.of_notice (State.notices_of_side (by simp) rfl _)⟩
  · rw [State.ctx?_enterClearing]
    exact congrArg Station.ctx hstation
  · rw [State.station_enterClearing, hstation]
  · rw [State.arbiter_enterClearing, harbiter]
  · rw [State.arbiter_enterClearing, harbiter]
  · rw [State.weigher_enterClearing, hweigher, hnow]
  · rw [State.store_enterClearing, hnext]
  · rw [State.store_enterClearing, hlast]

theorem station_abortWeigh (hw : s.weigher.state ≠ .idle) (hc : s.ctx? st = some c) : ∃ groups, (s.abortWeigh st).station st =
    { s.station st with ctx := none, holdCount := 0, groups := groups } := by
  obtain ⟨hstation, -⟩ := s.rejectCycle_spec st c .aborted s.weigher.vPrev s.now hw hc
  unfold State.abortWeigh
  rw [State.station_enterClearing, hstation]
  exact ⟨_, rfl⟩

theorem stationState_abortWeigh (hw : s.weigher.state ≠ .idle) (sx : Fin 6) :
    (s.abortWeigh st).port.notices[noticeSlot .stationState (some sx)] = s.port.notices[noticeSlot .stationState (some sx)] := by
  have hclear (t : State) (g : Gate) : (t.enterClearing g).port.notices = t.port.notices := by
    unfold State.enterClearing State.wantGate State.placeGate State.placeCommand
    split
    · rfl
    · split <;> rfl
  unfold State.abortWeigh
  rw [hclear]
  exact stationState_rejectCycle hw _ _ _ _ _

/-- What `WeighAborted` says is kept by what leaves the weigher, the arbiter, the store, the context and CHARGE_REJECT. -/
theorem WeighAborted.mono {t u : State} (h : WeighAborted s t st c) (hctx : u.ctx? st = none) (hcount : (u.station st).holdCount = 0)
    (hweigher : u.weigher = t.weigher) (harbiter : u.arbiter = t.arbiter) (hstore : u.store = t.store) (hside : u.side = t.side) :
    WeighAborted s u st c := by
  obtain ⟨-, -, hgranted, hqueue, hw, hnext, hlast, htold⟩ := h
  refine ⟨hctx, hcount, by rw [harbiter, hgranted], by rw [harbiter, hqueue], by rw [hweigher, hw], by rw [hstore, hnext],
    by rw [hstore, hlast], htold.of_notice (State.notices_of_side hside rfl _)⟩

theorem WeighAborted.beginSend {t : State} (h : WeighAborted s t st c) : WeighAborted s t.beginSend st c := by
  obtain ⟨hctx, hcount, hgranted, hqueue, hw, hnext, hlast, htold⟩ := h
  exact ⟨by simpa using hctx, by simpa using hcount, by simpa using hgranted, by simpa using hqueue, by simpa using hw,
    by simpa using hnext, by simpa using hlast, htold.beginSend⟩

end Abort

/-! ### The end of a cycle after its accept -/

/-- The part once a cycle's PART record is appended, its context released and PART_DONE raised (R7, R14). -/
def cycleOut (s : State) (st : Fin 6) (c : Context) (e : Ending) : State :=
  (((withStation s st { s.station st with ctx := some c }).appendCycle c.reservation (partRecord st c e)).releaseContext st).raise .partDone
    (some st) (putTime c.cycle ++ put8 (partOutcome c e).code)

section CycleOut
variable {s : State} {st : Fin 6} {c : Context} {e : Ending}

theorem handOver_eq (c : Context) (e : Ending) (t : Time) : c.handOver e t = ending c e.cause t := by
  cases e <;> rfl

theorem endCycle_eq (hc : s.ctx? st = some c) (e : Ending) (t : Time) : s.endCycle st e t =
    let u := cycleOut s st (ending c e.cause t) e
    if e = .released then
      if (u.station st).runEnable = true ∧ (u.station st).pressAuto = true then u.enterCalling st false else u.enterReady st
    else u.enterLatched st e.cause := by
  unfold State.endCycle
  rw [hc]
  dsimp only
  rw [handOver_eq, modCtx_of_ctx s st hc]
  unfold cycleOut
  with_reducible rfl

theorem cycleEnded_cycleOut : CycleEnded s (cycleOut s st c e) st c e := by
  have hside : (((withStation s st { s.station st with ctx := some c }).appendCycle c.reservation (partRecord st c e)).releaseContext
      st).side = s.side := by
    rw [State.side_releaseContext, State.side_appendCycle]
    rfl
  obtain ⟨hnext, hlast⟩ := (withStation s st { s.station st with ctx := some c }).store_appendCycle c.reservation (partRecord st c e)
  unfold cycleOut
  refine ⟨?_, ?_, ?_, ?_, told_raise (State.line_of_side hside) (State.notices_of_side hside rfl _) _⟩
  · rw [State.ctx?_raise]
    unfold State.ctx?
    rw [State.station_releaseContext_self]
  · rw [State.station_raise, State.station_releaseContext_self]
  · rw [State.store_raise, State.store_releaseContext, hnext]
    rfl
  · rw [State.store_raise, State.store_releaseContext, hlast]

theorem line_cycleOut : (cycleOut s st c e).line = s.line := by
  unfold cycleOut
  rw [State.line_raise, State.line_releaseContext, State.line_appendCycle]
  rfl

/-- The station beside the queue once its cycle is out: without its context, its groups resolved from its bound recipe. -/
theorem beside_cycleOut (h : st ∉ s.arbiter.queue) : ∃ groups, (cycleOut s st c e).station st =
      { s.station st with ctx := none, holdCount := 0, groups := groups } ∧
    (cycleOut s st c e).port.notices[noticeSlot .stationState (some st)] = s.port.notices[noticeSlot .stationState (some st)] := by
  have hbeside := (withStation s st { s.station st with ctx := some c }).beside_appendCycle (sx := st) h c.reservation (partRecord st c e)
  have hreleased := State.station_releaseContext_self
    ((withStation s st { s.station st with ctx := some c }).appendCycle c.reservation (partRecord st c e)) st
  rw [State.station_of_beside hbeside, station_withStation] at hreleased
  refine ⟨_, (State.station_raise _ _ _ _ _).trans hreleased, ?_⟩
  unfold cycleOut
  rw [notices_raise_of_ne fun h => NoticeKind.noConfusion (noticeSlot_injective h).1, port_releaseContext]
  exact (State.told_of_beside hbeside).trans rfl

/-- What `CycleEnded` says is kept by what leaves the station without a context, the records and PART_DONE. -/
theorem CycleEnded.mono {t u : State} (h : CycleEnded s t st c e) (hctx : u.ctx? st = t.ctx? st)
    (hcount : (u.station st).holdCount = (t.station st).holdCount) (hnext : u.store.next = t.store.next) (hring : u.store.ring = t.store.ring)
    (hside : u.side = t.side) : CycleEnded s u st c e := by
  obtain ⟨hc, hn, hs, hr, ht⟩ := h
  exact ⟨hctx.trans hc, hcount.trans hn, hnext.trans hs, by rw [hring, hr], ht.of_notice (State.notices_of_side hside rfl _)⟩

theorem CycleEnded.beginSend {t : State} (h : CycleEnded s t st c e) : CycleEnded s t.beginSend st c e := by
  obtain ⟨hc, hn, hs, hr, ht⟩ := h
  exact ⟨by simpa using hc, by simpa using hn, by simpa using hs, by simpa using hr, ht.beginSend⟩

end CycleOut

end Sys2Proof.Claim
end

section
/-! PROOFS. The entries to HOLD and LATCHED (R16, R18): what stops, what is written, what is told, and the place in the call queue. -/

namespace Sys2Proof.Claim

open Sys2Proof.Machine

/-! ### The work that stops -/

/-- What stops in a context when its station leaves this state for HOLD or LATCHED. -/
def stoppedCtx (now : Time) (x : StationState) (c : Context) : Context :=
  match x with
  | .loading => { c with loadTimer := .stopped }
  | .curing => { c with cure := c.cure.stopAt now }
  | .opening | .ejecting => { c with eject := c.eject.stopWork }
  | _ => c

/-- A station with its work stopped: the context, and RETRACT wanted where it demoulds. -/
def stoppedStation (now : Time) (x : Station) : Station :=
  { x with
    ctx := x.ctx.map (stoppedCtx now x.state),
    demould := if x.state = .opening ∨ x.state = .ejecting then { x.demould with wanted := .retract } else x.demould }

/-- The part with the EJECT-COMMAND a stop of the demoulding places. -/
def ejectStopped (s : State) (st : Fin 6) : State :=
  if ((s.station st).state = .opening ∨ (s.station st).state = .ejecting) ∧ (s.station st).demould.wanted ≠ .retract then
    withEject s st .retract
  else s

section Stop
variable (s : State) (st : Fin 6)

theorem stopWork_of_demoulding (h : (s.station st).state = .opening ∨ (s.station st).state = .ejecting) :
    s.stopWork st = withStation (ejectStopped s st) st (stoppedStation s.now (s.station st)) := by
  have hwork : s.stopWork st = (s.modCtx st fun c => { c with eject := c.eject.stopWork }).wantEject st .retract := by
    unfold State.stopWork
    obtain h | h := h <;> rw [h]
  have hctx : stoppedCtx s.now (s.station st).state = fun c => { c with eject := c.eject.stopWork } := by
    funext c
    obtain h | h := h <;> rw [h] <;> rfl
  rw [hwork, wantEject_eq, modCtx_eq]
  unfold wantingEject ejectStopped stoppedStation
  simp only [station_withStation, withStation_withStation, h, if_true, true_and, hctx]
  by_cases hw : (s.station st).demould.wanted = .retract
  · rw [if_pos hw, if_neg (not_not.mpr hw), ← hw]
  · rw [if_neg hw, if_pos hw, withEject_withStation]

theorem stopWork_eq : s.stopWork st = withStation (ejectStopped s st) st (stoppedStation s.now (s.station st)) := by
  by_cases h : (s.station st).state = .opening ∨ (s.station st).state = .ejecting
  · exact stopWork_of_demoulding s st h
  · have hno : ejectStopped s st = s := if_neg fun hd => h hd.1
    rw [hno]
    unfold State.stopWork stoppedStation stoppedCtx
    rw [if_neg h]
    cases hstate : (s.station st).state with
    | loading => dsimp only; rw [modCtx_eq]; simp only [hstate]
    | curing => dsimp only; rw [modCtx_eq]; simp only [hstate]
    | opening => exact absurd (Or.inl hstate) h
    | ejecting => exact absurd (Or.inr hstate) h
    | offline | warming | ready | calling | charging | hold | latched | parked =>
      simp only [Option.map_id']
      rw [← hstate]
      exact (withStation_self s st).symm

@[simp] theorem line_ejectStopped : (ejectStopped s st).line = s.line := by
  unfold ejectStopped withEject
  split
  · cases s.nodeOf .ejector st.val <;> rfl
  · rfl

@[simp] theorem side_ejectStopped : (ejectStopped s st).side = s.side := by
  unfold ejectStopped
  split
  · rw [show withEject s st .retract = _ from (placeCommand_eq s _ .ejector _ _ _).symm]
    exact s.side_placeCommand (fun sx e => by have := congrArg Fin.val e; simp only [ejectSlot, dutySlot] at this; omega) _ _ _ _
  · rfl

/-- A stop of the demoulding changes the slate alone. -/
theorem ejectStopped_eq : ∃ slate, ejectStopped s st = { s with port := { s.port with slate := slate } } := by
  unfold ejectStopped withEject
  split
  · cases s.nodeOf .ejector st.val with
    | none => exact ⟨s.port.slate, rfl⟩
    | some a => exact ⟨_, rfl⟩
  · exact ⟨s.port.slate, rfl⟩

theorem slate_ejectStopped (h : (s.station st).state = .opening ∨ (s.station st).state = .ejecting)
    (hw : (s.station st).demould.wanted ≠ .retract) {a : Byte} (ha : s.nodeOf .ejector st.val = some a) :
    (ejectStopped s st).port.slate[ejectSlot st] = some { dest := a, kind := 6, seq := none, payload := put8 0 ++ put16 0 } := by
  unfold ejectStopped withEject
  rw [if_pos ⟨h, hw⟩, ha]
  exact Vector.getElem_set_self _

end Stop

/-! ### The entry itself -/

/-- The part when a station, with its stopped work and what the entry writes, has gone to HOLD or LATCHED (R16, R18). -/
def enteredFrom (s : State) (st : Fin 6) (z : Station) (new : StationState) : State :=
  let t := ((withStation s st z).setState st new).raiseStationState st
  if z.state = .calling then t.leaveQueue st else t

/-- What an entry to LATCHED writes (R18). -/
def latchedStation (cause : Cause) (x : Station) : Station :=
  { x with holdTimer := .stopped, runEnable := false, cause := cause, ctx := x.ctx.map (·.markHeld cause) }

/-- What an entry to HOLD writes (R16). -/
def heldStation (now : Time) (cause : Cause) (x : Station) : Station :=
  { x with
    holdCount := if x.ctx.isSome then x.holdCount + 1 else x.holdCount, ctx := x.ctx.map (·.markHeld cause), cause := cause,
    holdTimer := .running now x.settings.holdTime }

section Enter
variable (s : State) (st : Fin 6)

theorem stoppedStation_of_charging {x : Station} (h : x.state = .charging) (now : Time) : stoppedStation now x = x := by
  have hctx : stoppedCtx now x.state = id := by
    funext c
    rw [h]
    rfl
  unfold stoppedStation
  rw [hctx, Option.map_id, if_neg (by simp [h])]
  rfl

theorem enterLatched_eq (h : (s.station st).state ≠ .charging) (cause : Cause) : s.enterLatched st cause =
    enteredFrom (ejectStopped s st) st (latchedStation cause (stoppedStation s.now (s.station st))) .latched := by
  unfold State.enterLatched enteredFrom
  dsimp only
  rw [if_neg h, stopWork_eq, modStation_withStation]
  rfl

theorem enterLatched_of_charging (h : (s.station st).state = .charging) (ha : ((s.abortWeigh st).station st).state = .charging)
    (cause : Cause) : s.enterLatched st cause =
      enteredFrom (s.abortWeigh st) st (latchedStation cause ((s.abortWeigh st).station st)) .latched := by
  have hno : ejectStopped (s.abortWeigh st) st = s.abortWeigh st := if_neg fun hd => by simp [ha] at hd
  have hcalling : ¬(latchedStation cause ((s.abortWeigh st).station st)).state = .calling := by
    show ¬((s.abortWeigh st).station st).state = .calling
    rw [ha]
    nofun
  unfold State.enterLatched enteredFrom
  dsimp only
  rw [if_pos h, h, if_neg StationState.noConfusion, if_neg hcalling, stopWork_eq, hno, modStation_withStation,
    stoppedStation_of_charging ha]
  rfl

theorem enterHold_eq (h : (s.station st).state ≠ .charging) (hcount : ¬((s.station st).ctx.isSome = true ∧ 2 ≤ (s.station st).holdCount))
    (cause : Cause) : s.enterHold st cause =
      enteredFrom (ejectStopped s st) st (heldStation s.now cause (stoppedStation s.now (s.station st))) .hold := by
  unfold State.enterHold enteredFrom
  dsimp only
  rw [if_neg hcount, if_neg h, stopWork_eq, modStation_withStation]
  rfl

theorem enterHold_of_charging (h : (s.station st).state = .charging) (ha : ((s.abortWeigh st).station st).state = .charging)
    (hcount : ¬((s.station st).ctx.isSome = true ∧ 2 ≤ (s.station st).holdCount)) (cause : Cause) : s.enterHold st cause =
      enteredFrom (s.abortWeigh st) st (heldStation s.now cause ((s.abortWeigh st).station st)) .hold := by
  have hno : ejectStopped (s.abortWeigh st) st = s.abortWeigh st := if_neg fun hd => by simp [ha] at hd
  have hcalling : ¬(heldStation s.now cause ((s.abortWeigh st).station st)).state = .calling := by
    show ¬((s.abortWeigh st).station st).state = .calling
    rw [ha]
    nofun
  unfold State.enterHold enteredFrom
  dsimp only
  rw [if_neg hcount, if_pos h, h, if_neg StationState.noConfusion, if_neg hcalling, stopWork_eq, hno, modStation_withStation,
    stoppedStation_of_charging ha]
  rfl

theorem enterHold_repeat (hcount : (s.station st).ctx.isSome = true ∧ 2 ≤ (s.station st).holdCount) (cause : Cause) :
    s.enterHold st cause = (withStation s st { s.station st with holdCount := 3 }).enterLatched st .holdRepeat := by
  unfold State.enterHold
  dsimp only
  rw [if_pos hcount, modStation_eq]

end Enter

/-! ### What an entry leaves and brings about -/

section Entered
variable {s : State} {st : Fin 6} {z : Station} {new : StationState}

@[simp] theorem side_withStation (s : State) (st : Fin 6) (x : Station) : (withStation s st x).side = s.side := rfl

theorem side_enteredFrom : (enteredFrom s st z new).side = s.side := by
  unfold enteredFrom
  dsimp only
  split <;> simp

theorem line_enteredFrom : (enteredFrom s st z new).line = s.line := State.line_of_side side_enteredFrom

/-- The station and its pending STATION_STATE are those before the place in the queue is left. -/
theorem beside_enteredFrom : (enteredFrom s st z new).beside st = (((withStation s st z).setState st new).raiseStationState st).beside st := by
  unfold enteredFrom
  dsimp only
  split
  · exact State.beside_leaveQueue _ _
  · rfl

theorem station_enteredFrom : (enteredFrom s st z new).station st =
    { z with state := new, groups := (((withStation s st z).setState st new).station st).groups } := by
  rw [State.station_of_beside beside_enteredFrom, State.station_raiseStationState, State.station_setState_self, station_withStation]

theorem notices_setState (t : State) (x : StationState) : (t.setState st x).port.notices = t.port.notices := by
  have hplace (u : State) : (u.placePermit st).port.notices = u.port.notices := by
    rw [placePermit_eq]
    unfold withPermit
    cases u.nodeOf .press st.val <;> rfl
  unfold State.setState
  dsimp only
  split <;> split
  · rfl
  · rw [hplace]; rfl
  · rfl
  · rw [State.port_resolveAfresh, hplace]; rfl

theorem told_enteredFrom : Told s (enteredFrom s st z new) .stationState st
    (put8 new.code ++ put8 z.cause.code ++ putTime z.cycleNumber) := by
  have hstation : ((withStation s st z).setState st new).station st =
      { z with state := new, groups := (((withStation s st z).setState st new).station st).groups } := by
    rw [State.station_setState_self, station_withStation]
  have htold : Told s (((withStation s st z).setState st new).raiseStationState st) .stationState st
      (put8 new.code ++ put8 z.cause.code ++ putTime z.cycleNumber) := by
    unfold State.raiseStationState
    rw [hstation]
    exact told_raise (by rw [State.line_setState]; rfl) (by rw [notices_setState]; rfl) _
  exact htold.of_notice (State.told_of_beside beside_enteredFrom)

/-- With another source kind the groups are resolved afresh (R36). -/
theorem groups_enteredFrom (hk : z.state.source ≠ new.source) (hnew : new ≠ .offline) :
    ((enteredFrom s st z new).station st).groups = ((resolved s st { z with state := new }).station st).groups := by
  have hresolved : (((withStation s st z).setState st new).station st).groups = ((resolved s st { z with state := new }).station st).groups := by
    rw [setState_eq]
    simp only [station_withStation, hk, hnew, or_self, if_false, resolved_withStation]
    split
    · rfl
    · rw [station_withPermit]
  rw [station_enteredFrom]
  exact hresolved

theorem slate_raise (t : State) (k : NoticeKind) (key : Option (Fin 6)) (v : List Byte) : (t.raise k key v).port.slate = t.port.slate := by
  unfold State.raise
  split <;> rfl

/-- The PERMIT of an entry that changes the wanted permission (R25). -/
theorem permit_enteredFrom (hp : z.state.permission ≠ new.permission) (hcalling : z.state ≠ .calling) (hk : z.state.source ≠ new.source)
    (hnew : new ≠ .offline) {a : Byte} (ha : s.nodeOf .press st.val = some a) :
    (enteredFrom s st z new).port.slate[permitSlot st] = some { dest := a, kind := 4, seq := none, payload := put8 new.permission.code } := by
  unfold enteredFrom State.raiseStationState
  dsimp only
  rw [if_neg hcalling, setState_permit _ _ (by rwa [station_withStation]) (by rwa [station_withStation]) hnew, slate_raise]
  unfold withPermit
  rw [show (resolved (withStation s st z) st _).nodeOf .press st.val = some a from ha]
  exact Vector.getElem_set_self _

/-- The EJECT-COMMANDs that wait are left by an entry. -/
theorem eject_enteredFrom (hcalling : z.state ≠ .calling) :
    (enteredFrom s st z new).port.slate[ejectSlot st] = s.port.slate[ejectSlot st] := by
  have hplace (t : State) (q : Permission) : (withPermit t st q).port.slate[ejectSlot st] = t.port.slate[ejectSlot st] := by
    unfold withPermit
    cases t.nodeOf .press st.val with
    | none => rfl
    | some a => exact Vector.getElem_set_ne (permitSlot st).isLt (ejectSlot st).isLt (by simp only [permitSlot, ejectSlot]; omega)
  have hset : ((withStation s st z).setState st new).port.slate[ejectSlot st] = s.port.slate[ejectSlot st] := by
    rw [setState_eq]
    dsimp only
    split <;> split
    · rfl
    · rfl
    · rw [hplace]; rfl
    · rw [hplace]; rfl
  unfold enteredFrom State.raiseStationState
  dsimp only
  rw [if_neg hcalling, slate_raise]
  exact hset

theorem weigher_enteredFrom (hcalling : z.state ≠ .calling) : (enteredFrom s st z new).weigher = s.weigher := by
  unfold enteredFrom
  dsimp only
  rw [if_neg hcalling, State.weigher_raiseStationState, State.weigher_setState]
  rfl

theorem arbiter_enteredFrom (hcalling : z.state ≠ .calling) : (enteredFrom s st z new).arbiter = s.arbiter := by
  unfold enteredFrom
  dsimp only
  rw [if_neg hcalling, State.arbiter_raiseStationState, State.arbiter_setState]
  rfl

theorem store_enteredFrom (hcalling : z.state ≠ .calling) : (enteredFrom s st z new).store = s.store := by
  unfold enteredFrom
  dsimp only
  rw [if_neg hcalling, State.store_raiseStationState, State.store_setState]
  rfl

/-- An entry leaves the records, whatever the place in the queue. -/
theorem records_enteredFrom : (enteredFrom s st z new).store.next = s.store.next ∧ (enteredFrom s st z new).store.ring = s.store.ring := by
  unfold enteredFrom
  dsimp only
  split
  · obtain ⟨n, b, h⟩ := State.store_leaveQueue (((withStation s st z).setState st new).raiseStationState st) st
    rw [h, State.store_raiseStationState, State.store_setState]
    exact ⟨rfl, rfl⟩
  · rw [State.store_raiseStationState, State.store_setState]
    exact ⟨rfl, rfl⟩

@[simp] theorem queue_armWeigher (t : State) (sx : Fin 6) : (t.armWeigher sx).arbiter = t.arbiter := by simp [State.armWeigher]

@[simp] theorem arbiter_createContext (t : State) (sx : Fin 6) (r : Reservation) : (t.createContext sx r).arbiter = t.arbiter := rfl

theorem arbiter_reserve (t : State) : t.reserve.arbiter = t.arbiter := by
  obtain ⟨p, b, h⟩ := (t.modStore fun x => { x with reservations := x.reservations + 1 }).testLow_eq
  unfold State.reserve
  rw [h]
  rfl

theorem arbiter_grant (t : State) (sx : Fin 6) : (t.grant sx).arbiter =
    { queue := t.arbiter.queue.filter (· ≠ sx), granted := some sx } := by
  unfold State.grant
  dsimp only
  rw [queue_armWeigher, State.arbiter_resolveAfresh, State.arbiter_setState, arbiter_createContext]
  split
  · show ({ queue := (t.reserve).arbiter.queue.filter (· ≠ sx), granted := some sx } : Arbiter) = _
    rw [arbiter_reserve]
  · rfl

theorem arbiter_recipeMissing (t : State) (sx : Fin 6) : (t.recipeMissing sx).arbiter =
    { t.arbiter with queue := t.arbiter.queue.filter (· ≠ sx) } := by
  unfold State.recipeMissing
  rw [State.arbiter_raise, State.arbiter_raiseStationState, State.arbiter_setState]
  rfl

/-- The arbiter's test puts no station into the queue. -/
theorem queue_consider (t : State) : ∀ sx ∈ t.consider.arbiter.queue, sx ∈ t.arbiter.queue := by
  refine State.consider_induction (P := fun u => ∀ sx ∈ u.arbiter.queue, sx ∈ t.arbiter.queue) (fun _ h => h) (fun u sy _ hu sx hx => ?_)
    fun u sy _ hu _ _ sx hx => ?_
  · rw [arbiter_recipeMissing] at hx
    exact hu sx (List.mem_filter.mp hx).1
  · rw [arbiter_grant] at hx
    exact hu sx (List.mem_filter.mp hx).1

theorem not_mem_leaveQueue (t : State) : st ∉ (t.leaveQueue st).arbiter.queue := by
  have hremoved : st ∉ (t.removeCall st).arbiter.queue := by simp [State.removeCall]
  unfold State.leaveQueue
  dsimp only
  split
  · exact hremoved
  · exact fun h => hremoved (queue_consider _ _ h)

/-- A CALLING station leaves the queue on its entry; with the weigher at work the arbiter grants nothing. -/
theorem queue_enteredFrom (hcalling : z.state = .calling) : st ∉ (enteredFrom s st z new).arbiter.queue ∧
    (s.weigher.state ≠ .idle → (enteredFrom s st z new).arbiter.queue = s.arbiter.queue.filter (· ≠ st)) := by
  have hweigher : (((withStation s st z).setState st new).raiseStationState st).weigher = s.weigher := by
    rw [State.weigher_raiseStationState, State.weigher_setState]; rfl
  unfold enteredFrom
  dsimp only
  rw [if_pos hcalling]
  refine ⟨not_mem_leaveQueue _, fun hw => ?_⟩
  rw [State.leaveQueue_of_not_idle _ _ (by rwa [hweigher])]
  show List.filter _ (State.arbiter _).queue = _
  rw [State.arbiter_raiseStationState, State.arbiter_setState]
  rfl

end Entered

end Sys2Proof.Claim
end

section
/-! PROOFS. A cause that reaches a station (R15, R16, R18): what `Held`, `HeldOut` and `CauseTaken` say, of the model's entries. -/

namespace Sys2Proof.Claim

open Sys2Proof.Machine

/-! ### Statements over states that agree -/

/-- The items of the part that those statements read of the base are the same. -/
structure SamePart (s n : State) (st : Fin 6) : Prop where
  now : n.now = s.now
  nodeAddress : n.nodeAddress = s.nodeAddress
  mask : n.port.mask = s.port.mask
  sending : n.port.sending = s.port.sending
  seqCounter : n.port.seqCounter = s.port.seqCounter
  routes : n.port.routes = s.port.routes
  recipes : n.recipes = s.recipes
  profilesLive : n.profilesLive = s.profilesLive
  told : n.port.notices[noticeSlot .stationState (some st)] = s.port.notices[noticeSlot .stationState (some st)]
  rejected : n.port.notices[noticeSlot .chargeReject (some st)] = s.port.notices[noticeSlot .chargeReject (some st)]
  weigher : n.weigher = s.weigher
  arbiter : n.arbiter = s.arbiter
  store : n.store = s.store

/-- Contexts that agree in what an entry to HOLD or LATCHED leaves of them. -/
structure CtxKin (c d : Context) : Prop where
  cycle : d.cycle = c.cycle
  snapshot : d.snapshot = c.snapshot
  cure : d.cure = c.cure
  attempts : d.eject.attempts = c.eject.attempts
  stopped : d.eject.stopWork = c.eject.stopWork

/-- A base for what is said of an entry of the station `st` to HOLD or LATCHED; an opening press counts as one that demoulds. -/
structure Kin (s n : State) (st : Fin 6) : Prop extends SamePart s n st where
  state : (n.station st).state = (s.station st).state ∨ (s.station st).state = .opening ∧ (n.station st).state = .ejecting
  settings : (n.station st).settings = (s.station st).settings
  runEnable : (n.station st).runEnable = (s.station st).runEnable
  cycleNumber : (n.station st).cycleNumber = (s.station st).cycleNumber
  holdCount : (n.station st).holdCount = (s.station st).holdCount
  groups : (n.station st).groups = (s.station st).groups
  boundRecipe : (n.station st).boundRecipe = (s.station st).boundRecipe
  wanted : (n.station st).demould.wanted = (s.station st).demould.wanted
  ctx : Option.Rel CtxKin (s.ctx? st) (n.ctx? st)

/-- A base whose station differs in its press flags, its echo and its round alone. -/
structure Twin (s n : State) (st : Fin 6) : Prop extends SamePart s n st where
  station : ∃ auto stop echo round, n.station st =
    { s.station st with pressAuto := auto, pressStop := stop, echoedPermission := echo, round := round }

theorem Twin.ctx? {s n : State} {st : Fin 6} (k : Twin s n st) : n.ctx? st = s.ctx? st := by
  obtain ⟨a, b, e, r, hx⟩ := k.station
  unfold State.ctx?
  rw [hx]

theorem Twin.kin {s n : State} {st : Fin 6} (k : Twin s n st) : Kin s n st := by
  have hctx := k.ctx?
  obtain ⟨a, b, e, r, hx⟩ := k.station
  refine ⟨k.toSamePart, Or.inl (by rw [hx]), by rw [hx], by rw [hx], by rw [hx], by rw [hx], by rw [hx], by rw [hx], by rw [hx], ?_⟩
  rw [hctx]
  cases s.ctx? st with
  | none => exact .none
  | some c => exact .some ⟨rfl, rfl, rfl, rfl, rfl⟩

theorem Kin.permission {s n : State} {st : Fin 6} (k : Kin s n st) :
    (n.station st).state.permission = (s.station st).state.permission := by
  obtain h | ⟨h, h'⟩ := k.state
  · rw [h]
  · rw [h, h']; rfl

/-- The context of a base, with its context of the state it stands for. -/
theorem Kin.ctx_some {s n : State} {st : Fin 6} (k : Kin s n st) {c : Context} (hc : s.ctx? st = some c) :
    ∃ d, n.ctx? st = some d ∧ CtxKin c d := by
  have h := k.ctx
  rw [hc] at h
  cases h' : n.ctx? st with
  | none => rw [h'] at h; exact nomatch h
  | some d =>
    rw [h'] at h
    obtain ⟨h⟩ := h
    exact ⟨d, rfl, h⟩

theorem Kin.ctx_none {s n : State} {st : Fin 6} (k : Kin s n st) (hc : s.ctx? st = none) : n.ctx? st = none := by
  have h := k.ctx
  rw [hc] at h
  cases h' : n.ctx? st with
  | none => rfl
  | some d => rw [h'] at h; exact nomatch h

theorem nodeOf_of_routes {s n : State} (h : n.port.routes = s.port.routes) (r : Role) (k : Nat) : n.nodeOf r k = s.nodeOf r k := by
  unfold State.nodeOf State.findEntry
  rw [h]

theorem recipeOf_withStation (s : State) (st : Fin 6) (y : Station) : (withStation s st y).recipeOf st =
    match y.ctx.map (·.snapshot) with
    | some r => some r
    | none => if (s.recipes[y.boundRecipe]).present then some s.recipes[y.boundRecipe] else none := by
  unfold State.recipeOf
  simp only [station_withStation]
  cases y.ctx <;> rfl

theorem stepIndex_eq (x : Station) (g : Fin 4) : x.stepIndex g = (x.ctx.map (·.cure.steps)).elim 0 (·[g]) := by
  unfold Station.stepIndex
  cases x.ctx <;> rfl

/-- The groups of a resolution come from the live profiles, the recipe in use, the state, the groups and the step indexes (R34 to R37). -/
theorem groups_resolved_congr {s n : State} {st : Fin 6} {y z : Station} (hlive : n.profilesLive = s.profilesLive)
    (hrecipes : n.recipes = s.recipes) (hstate : z.state = y.state) (hgroups : z.groups = y.groups)
    (hbound : z.boundRecipe = y.boundRecipe) (hsnapshot : z.ctx.map (·.snapshot) = y.ctx.map (·.snapshot))
    (hsteps : z.ctx.map (·.cure.steps) = y.ctx.map (·.cure.steps)) :
    ((resolved n st z).station st).groups = ((resolved s st y).station st).groups := by
  have hrecipe : (withStation n st z).recipeOf st = (withStation s st y).recipeOf st := by
    simp only [recipeOf_withStation, hrecipes, hbound, hsnapshot]
  have hlive' : (withStation n st z).profilesLive = (withStation s st y).profilesLive := hlive
  unfold resolved
  rw [State.station_resolveAfresh_self, State.station_resolveAfresh_self, station_withStation, station_withStation, hrecipe, hlive', hstate,
    hgroups]
  simp only [stepIndex_eq, hsteps]

section Transfer
variable {s n t : State} {st : Fin 6} {c d : Context} {cause : Cause}

theorem Told.of_part (k : SamePart s n st) {v : List Byte} (h : Told n t .stationState st v) : Told s t .stationState st v := by
  intro hmask
  rw [h (by rw [k.mask]; exact hmask), k.told, k.now]

theorem PlacedOrSent.of_part (k : SamePart s n st) {i : Fin 19} {f : OutFrame} (h : PlacedOrSent n t i f) : PlacedOrSent s t i f := by
  obtain h | ⟨hnone, g, hg, horiginates⟩ := h
  · exact Or.inl h
  · unfold Originates at horiginates
    rw [k.nodeAddress, k.seqCounter] at horiginates
    exact Or.inr ⟨k.sending.symm.trans hnone, g, hg, horiginates⟩

theorem WeighAborted.of_part (k : SamePart s n st) (h : WeighAborted n t st c) : WeighAborted s t st c := by
  obtain ⟨hctx, hcount, hgranted, hqueue, hw, hnext, hlast, htold⟩ := h
  rw [k.arbiter] at hqueue
  rw [k.weigher, k.now] at hw
  rw [k.store] at hnext
  rw [k.weigher, k.now] at hlast
  rw [k.weigher] at htold
  refine ⟨hctx, hcount, hgranted, hqueue, hw, hnext, hlast, fun hmask => ?_⟩
  rw [htold (by rw [k.mask]; exact hmask), k.rejected, k.now]

theorem WorkStopped.of_kin (k : Kin s n st) {c' : Context} (hc : CtxKin c c') (h : WorkStopped n t st c' d) : WorkStopped s t st c d := by
  obtain ⟨hload, hcure, heject⟩ := h
  rw [k.now, hc.cure] at hcure
  rw [k.wanted] at heject
  refine ⟨fun hx => ?_, fun hx => ?_, fun hx => ?_⟩
  · obtain h | ⟨h, -⟩ := k.state
    · exact hload (h.trans hx)
    · rw [hx] at h; exact nomatch h
  · obtain h | ⟨h, -⟩ := k.state
    · exact hcure (h.trans hx)
    · rw [hx] at h; exact nomatch h
  · have hn : (n.station st).state = .opening ∨ (n.station st).state = .ejecting := by
      obtain h | ⟨-, h⟩ := k.state
      · rwa [h]
      · exact Or.inr h
    obtain ⟨hw, hfields, hplaced⟩ := heject hn
    exact ⟨hw, hfields.trans hc.stopped, fun hne a ha => (hplaced hne a (by rw [nodeOf_of_routes k.routes]; exact ha)).of_part k.toSamePart⟩

theorem HoldEntered.of_kin (k : Kin s n st) {new : StationState} (h : HoldEntered n t st new cause) : HoldEntered s t st new cause := by
  obtain ⟨hstate, hcause, hgroups, hpermit, htold⟩ := h
  rw [k.permission] at hpermit
  rw [k.cycleNumber] at htold
  have hmaps : (n.ctx? st).map (·.snapshot) = (s.ctx? st).map (·.snapshot) ∧ (n.ctx? st).map (·.cure.steps) = (s.ctx? st).map (·.cure.steps) := by
    cases hc : s.ctx? st with
    | none => rw [k.ctx_none hc]; exact ⟨rfl, rfl⟩
    | some c =>
      obtain ⟨d, hd, hk⟩ := k.ctx_some hc
      rw [hd, Option.map_some, Option.map_some, Option.map_some, Option.map_some, hk.snapshot, hk.cure]
      exact ⟨rfl, rfl⟩
  exact ⟨hstate, hcause, hgroups.trans (groups_resolved_congr k.profilesLive k.recipes rfl k.groups k.boundRecipe hmaps.1 hmaps.2),
    fun hp a ha => (hpermit hp a (by rw [nodeOf_of_routes k.routes]; exact ha)).of_part k.toSamePart, htold.of_part k.toSamePart⟩

theorem Held.of_kin (k : Kin s n st) (h : Held n t st cause) : Held s t st cause := by
  obtain ⟨hentered, htimer, hrun, hnone, hsome⟩ := h
  rw [k.settings, k.now] at htimer
  rw [k.runEnable] at hrun
  refine ⟨hentered.of_kin k, htimer, hrun, fun hc => hnone (k.ctx_none hc), fun c hc => ?_⟩
  obtain ⟨c', hc', hk⟩ := k.ctx_some hc
  obtain ⟨hcount, d, hd, ha, hl, hcy, hs, hat, hw⟩ := hsome c' hc'
  rw [k.holdCount] at hcount
  exact ⟨hcount, d, hd, ha, hl, hcy.trans hk.cycle, hs.trans hk.snapshot, hat.trans hk.attempts, hw.of_kin k hk⟩

theorem HeldOut.of_kin (k : Kin s n st) (h : HeldOut n t st) : HeldOut s t st := by
  obtain ⟨hentered, hcount, hrun, htimer, hsome⟩ := h
  refine ⟨hentered.of_kin k, hcount, hrun, htimer, fun c hc => ?_⟩
  obtain ⟨c', hc', hk⟩ := k.ctx_some hc
  obtain ⟨d, hd, ha, hl, hcy, hw⟩ := hsome c' hc'
  exact ⟨d, hd, ha, hl, hcy.trans hk.cycle, hw.of_kin k hk⟩

theorem CauseTaken.of_twin (k : Twin s n st) (h : CauseTaken n t st cause) : CauseTaken s t st cause := by
  have hctx := k.ctx?
  have hpart := k.toSamePart
  have hkin := k.kin
  obtain ⟨a, b, e, r, hx⟩ := k.station
  unfold CauseTaken at h
  simp only [hctx, hx, k.weigher, k.arbiter, k.now] at h
  obtain ⟨hfree, hcalling, hcharging, hcycle, hhold⟩ := h
  refine ⟨fun h1 h2 => (hfree h1 h2).of_kin hkin, fun h1 h2 => ?_, fun c h1 h2 h3 h4 h5 => ?_, fun c h1 h2 => ?_, fun h1 => ?_⟩
  · obtain ⟨hheld, hmem, hqueue⟩ := hcalling h1 h2
    exact ⟨hheld.of_kin hkin, hmem, hqueue⟩
  · obtain ⟨habort, hstate, hcause, htimer, hrun, htold⟩ := hcharging c h1 h2 h3 h4 h5
    exact ⟨habort.of_part hpart, hstate, hcause, htimer, hrun, htold.of_part hpart⟩
  · obtain ⟨hheld, hout⟩ := hcycle c h1 h2
    exact ⟨fun h => (hheld h).of_kin hkin, fun h => (hout h).of_kin hkin⟩
  · obtain ⟨hstate, hcause, hsame, hother⟩ := hhold h1
    refine ⟨hstate, hcause, hsame, fun hne => ?_⟩
    obtain ⟨htimer, hc, htold⟩ := hother hne
    exact ⟨htimer, hc, htold.of_part hpart⟩

/-! ### Statements before and after ring-out's turn -/

theorem PlacedOrSent.beginSend {i : Fin 19} {f : OutFrame} (hline : t.line = s.line) (h : PlacedOrSent s t i f) :
    PlacedOrSent s t.beginSend i f := by
  obtain h | ⟨hnone, g, hg, -⟩ := h
  · exact placedOrSent_beginSend (State.sending_of_line hline) (State.nodeAddress_of_line hline) (State.seqCounter_of_line hline) h
  · rw [State.sending_of_line hline, hnone] at hg
    exact absurd hg nofun

theorem WorkStopped.beginSend (hline : t.line = s.line) (h : WorkStopped s t st c d) : WorkStopped s t.beginSend st c d := by
  obtain ⟨hload, hcure, heject⟩ := h
  refine ⟨hload, hcure, fun hstate => ?_⟩
  obtain ⟨hw, hfields, hplaced⟩ := heject hstate
  exact ⟨by simpa using hw, hfields, fun hne a ha => (hplaced hne a ha).beginSend hline⟩

theorem HoldEntered.beginSend (hline : t.line = s.line) {new : StationState} (h : HoldEntered s t st new cause) :
    HoldEntered s t.beginSend st new cause := by
  obtain ⟨hstate, hcause, hgroups, hpermit, htold⟩ := h
  exact ⟨by simpa using hstate, by simpa using hcause, by simpa using hgroups, fun hp a ha => (hpermit hp a ha).beginSend hline,
    htold.beginSend⟩

theorem Held.beginSend (hline : t.line = s.line) (h : Held s t st cause) : Held s t.beginSend st cause := by
  obtain ⟨hentered, htimer, hrun, hnone, hsome⟩ := h
  refine ⟨hentered.beginSend hline, by simpa using htimer, by simpa using hrun, by simpa using hnone, fun c hc => ?_⟩
  obtain ⟨hcount, d, hd, ha, hl, hcy, hs, hat, hw⟩ := hsome c hc
  exact ⟨by simpa using hcount, d, by simpa using hd, ha, hl, hcy, hs, hat, hw.beginSend hline⟩

theorem HeldOut.beginSend (hline : t.line = s.line) (h : HeldOut s t st) : HeldOut s t.beginSend st := by
  obtain ⟨hentered, hcount, hrun, htimer, hsome⟩ := h
  refine ⟨hentered.beginSend hline, by simpa using hcount, by simpa using hrun, by simpa using htimer, fun c hc => ?_⟩
  obtain ⟨d, hd, ha, hl, hcy, hw⟩ := hsome c hc
  exact ⟨d, by simpa using hd, ha, hl, hcy, hw.beginSend hline⟩

theorem CauseTaken.beginSend (hline : t.line = s.line) (h : CauseTaken s t st cause) : CauseTaken s t.beginSend st cause := by
  obtain ⟨hfree, hcalling, hcharging, hcycle, hhold⟩ := h
  refine ⟨fun h1 h2 => (hfree h1 h2).beginSend hline, fun h1 h2 => ?_, fun c h1 h2 h3 h4 h5 => ?_, fun c h1 h2 => ?_, fun h1 => ?_⟩
  · obtain ⟨hheld, hmem, hqueue⟩ := hcalling h1 h2
    exact ⟨hheld.beginSend hline, by simpa using hmem, by simpa using hqueue⟩
  · obtain ⟨habort, hstate, hcause, htimer, hrun, htold⟩ := hcharging c h1 h2 h3 h4 h5
    exact ⟨habort.beginSend, by simpa using hstate, by simpa using hcause, by simpa using htimer, by simpa using hrun, htold.beginSend⟩
  · obtain ⟨hheld, hout⟩ := hcycle c h1 h2
    exact ⟨fun h => (hheld h).beginSend hline, fun h => (hout h).beginSend hline⟩
  · obtain ⟨hstate, hcause, hsame, hother⟩ := hhold h1
    refine ⟨by simpa using hstate, by simpa using hcause, by simpa using hsame, fun hne => ?_⟩
    obtain ⟨htimer, hc, htold⟩ := hother hne
    exact ⟨by simpa using htimer, by simpa using hc, htold.beginSend⟩

end Transfer

end Sys2Proof.Claim
end

section
/-! PROOFS. HOLD and LATCHED entered (R15, R16, R18): the entries of the model meet `Held`, `HeldOut` and `CauseTaken`. -/

namespace Sys2Proof.Claim

open Sys2Proof.Machine

/-! ### What an entry writes -/

/-- A context with its work stopped, marked with the cause of an entry to HOLD or LATCHED. -/
def heldCtx (now : Time) (x : StationState) (cause : Cause) (c : Context) : Context := (stoppedCtx now x c).markHeld cause

/-- `z` is the station `x` with its work stopped and the cause written, as an entry to HOLD or LATCHED does. -/
structure Written (x z : Station) (now : Time) (cause : Cause) : Prop where
  state : z.state = x.state
  causeIs : z.cause = cause
  cycleNumber : z.cycleNumber = x.cycleNumber
  groups : z.groups = x.groups
  boundRecipe : z.boundRecipe = x.boundRecipe
  ctx : z.ctx = x.ctx.map fun c => heldCtx now x.state cause c
  wanted : x.state = .opening ∨ x.state = .ejecting → z.demould.wanted = .retract

theorem wanted_stoppedStation (now : Time) {x : Station} (h : x.state = .opening ∨ x.state = .ejecting) :
    (stoppedStation now x).demould.wanted = .retract := by
  unfold stoppedStation
  simp only [h, if_true]

theorem written_held (now : Time) (cause : Cause) (x : Station) : Written x (heldStation now cause (stoppedStation now x)) now cause :=
  ⟨rfl, rfl, rfl, rfl, rfl, Option.map_map _ _ _, wanted_stoppedStation now⟩

theorem written_latched (now : Time) (cause : Cause) (x : Station) : Written x (latchedStation cause (stoppedStation now x)) now cause :=
  ⟨rfl, rfl, rfl, rfl, rfl, Option.map_map _ _ _, wanted_stoppedStation now⟩

/-- The mark, the cause, the cycle number, the snapshot and the step indexes of a stopped context. -/
theorem stoppedCtx_keeps (now : Time) (x : StationState) (cause : Cause) (c : Context) :
    let d := heldCtx now x cause c
    d.aborted = true ∧ d.lastCause = cause ∧ d.cycle = c.cycle ∧ d.snapshot = c.snapshot ∧ d.eject.attempts = c.eject.attempts ∧
    d.cure.steps = c.cure.steps ∧ d.excursions = c.excursions ∧ d.suspect = c.suspect ∧ d.faults = c.faults ∧ d.pieces = c.pieces := by
  cases x <;> exact ⟨rfl, rfl, rfl, rfl, rfl, rfl, rfl, rfl, rfl, rfl⟩

section Entry
variable {s : State} {st : Fin 6} {z : Station} {new : StationState} {cause : Cause}

/-- An entry to HOLD or LATCHED from a state of another source kind than HOLD. -/
theorem holdEntered_enteredFrom (hz : Written (s.station st) z s.now cause) (hnew : new = .hold ∨ new = .latched)
    (hk : (s.station st).state.source ≠ .hold) : HoldEntered s (enteredFrom (ejectStopped s st) st z new) st new cause := by
  have hpermission : new.permission = .none := by obtain rfl | rfl := hnew <;> rfl
  have hsource : new.source = .hold := by obtain rfl | rfl := hnew <;> rfl
  have honline : new ≠ .offline := by obtain rfl | rfl := hnew <;> nofun
  have hline := line_ejectStopped s st
  have hother : z.state.source ≠ new.source := by rwa [hz.state, hsource]
  obtain ⟨slate, hslate⟩ := ejectStopped_eq s st
  refine ⟨by rw [station_enteredFrom], by rw [station_enteredFrom]; exact hz.causeIs, ?_, fun hp a ha => Or.inl ?_, ?_⟩
  · rw [groups_enteredFrom hother honline]
    refine groups_resolved_congr (State.profilesLive_of_line hline) (State.recipes_of_line hline) rfl hz.groups hz.boundRecipe ?_ ?_
    · show z.ctx.map _ = (s.station st).ctx.map _
      rw [hz.ctx, Option.map_map]
      congr 1
      funext c
      exact (stoppedCtx_keeps s.now _ cause c).2.2.2.1
    · show z.ctx.map _ = (s.station st).ctx.map _
      rw [hz.ctx, Option.map_map]
      congr 1
      funext c
      exact (stoppedCtx_keeps s.now _ cause c).2.2.2.2.2.1
  · rw [permit_enteredFrom (by rwa [hz.state, hpermission]) (by rw [hz.state]; intro e; exact hp (by rw [e]; rfl)) hother honline
      ((nodeOf_of_routes (State.routes_of_line hline) _ _).trans ha), hpermission]
    rfl
  · have htold := told_enteredFrom (s := ejectStopped s st) (st := st) (z := z) (new := new)
    rw [hz.causeIs, hz.cycleNumber] at htold
    refine fun hmask => (htold (by rw [hslate]; exact hmask)).trans ?_
    rw [hslate]

/-- What stops in a context on an entry to HOLD or LATCHED. -/
theorem workStopped_enteredFrom (hz : Written (s.station st) z s.now cause) (c : Context) :
    WorkStopped s (enteredFrom (ejectStopped s st) st z new) st c (heldCtx s.now (s.station st).state cause c) := by
  refine ⟨fun h => by rw [h]; rfl, fun h => by rw [h]; rfl, fun h => ⟨?_, ?_, fun hw a ha => Or.inl ?_⟩⟩
  · rw [station_enteredFrom]
    exact hz.wanted h
  · obtain h | h := h <;> rw [h] <;> rfl
  · rw [eject_enteredFrom (by rw [hz.state]; obtain h | h := h <;> rw [h] <;> nofun)]
    exact slate_ejectStopped s st h hw ha

theorem ctx_enteredFrom (hz : Written (s.station st) z s.now cause) : (enteredFrom (ejectStopped s st) st z new).ctx? st =
    (s.ctx? st).map fun c => heldCtx s.now (s.station st).state cause c := by
  unfold State.ctx?
  rw [station_enteredFrom]
  exact hz.ctx

end Entry

/-! ### Entry to HOLD (R16) and to LATCHED (R18) -/

section Hold
variable {s : State} {st : Fin 6}

/-- Entry to HOLD from a state other than HOLD, LATCHED and CHARGING, below the third hold of a cycle. -/
theorem held_enterHold (hcharging : (s.station st).state ≠ .charging) (hk : (s.station st).state.source ≠ .hold)
    (hcount : s.ctx? st ≠ none → (s.station st).holdCount < 2) (cause : Cause) : Held s (s.enterHold st cause) st cause := by
  have hbelow : ¬((s.station st).ctx.isSome = true ∧ 2 ≤ (s.station st).holdCount) := fun ⟨hsome, htwo⟩ => by
    have := hcount (Option.isSome_iff_ne_none.mp hsome)
    omega
  have hz := written_held s.now cause (s.station st)
  rw [enterHold_eq s st hcharging hbelow]
  refine ⟨holdEntered_enteredFrom hz (Or.inl rfl) hk, ?_, ?_, fun hnone => ?_, fun c hc => ⟨?_, heldCtx s.now (s.station st).state cause c, ?_, ?_⟩⟩
  · rw [station_enteredFrom]; rfl
  · rw [station_enteredFrom]; rfl
  · rw [ctx_enteredFrom hz, hnone]; rfl
  · have hsome : (stoppedStation s.now (s.station st)).ctx.isSome = true := by
      show ((s.station st).ctx.map _).isSome = true
      rw [show (s.station st).ctx = some c from hc]; rfl
    rw [station_enteredFrom]
    exact if_pos hsome
  · rw [ctx_enteredFrom hz, hc]; rfl
  · obtain ⟨ha, hl, hcy, hs, hat, -⟩ := stoppedCtx_keeps s.now (s.station st).state cause c
    exact ⟨ha, hl, hcy, hs, hat, workStopped_enteredFrom hz c⟩

/-- The third hold of a cycle latches its station (R16). -/
theorem heldOut_enterHold (hcharging : (s.station st).state ≠ .charging) (hk : (s.station st).state.source ≠ .hold)
    (hsome : s.ctx? st ≠ none) (hcount : 2 ≤ (s.station st).holdCount) (cause : Cause) : HeldOut s (s.enterHold st cause) st := by
  have heq : s.enterHold st cause = enteredFrom (ejectStopped s st) st
      (latchedStation .holdRepeat { stoppedStation s.now (s.station st) with holdCount := 3 }) .latched := by
    rw [enterHold_repeat s st ⟨Option.isSome_iff_ne_none.mpr hsome, hcount⟩,
      enterLatched_eq _ _ (by rw [station_withStation]; exact hcharging), station_withStation]
    have hstopped : ejectStopped (withStation s st { s.station st with holdCount := 3 }) st =
        withStation (ejectStopped s st) st { s.station st with holdCount := 3 } := by
      unfold ejectStopped
      simp only [station_withStation, withEject_withStation]
      split <;> rfl
    rw [hstopped]
    unfold enteredFrom
    rw [withStation_withStation]
    rfl
  have hz : Written (s.station st) (latchedStation .holdRepeat { stoppedStation s.now (s.station st) with holdCount := 3 }) s.now
      .holdRepeat := by
    obtain ⟨h1, h2, h3, h4, h5, h6, h7⟩ := written_latched s.now .holdRepeat (s.station st)
    exact ⟨h1, h2, h3, h4, h5, h6, h7⟩
  rw [heq]
  refine ⟨holdEntered_enteredFrom hz (Or.inr rfl) hk, ?_, ?_, ?_, fun c hc => ⟨heldCtx s.now (s.station st).state .holdRepeat c, ?_, ?_⟩⟩
  · rw [station_enteredFrom]; rfl
  · rw [station_enteredFrom]; rfl
  · rw [station_enteredFrom]; rfl
  · rw [ctx_enteredFrom hz, hc]; rfl
  · obtain ⟨ha, hl, hcy, -⟩ := stoppedCtx_keeps s.now (s.station st).state .holdRepeat c
    exact ⟨ha, hl, hcy, workStopped_enteredFrom hz c⟩

/-- A CHARGING station that goes to HOLD ends its charge (R114, R16). -/
theorem charging_enterHold {c : Context} (hstate : (s.station st).state = .charging) (hc : s.ctx? st = some c)
    (hw : s.weigher.state ≠ .idle) (hcount : (s.station st).holdCount < 2) (cause : Cause) :
    let t := s.enterHold st cause
    WeighAborted s t st c ∧ (t.station st).state = .hold ∧ (t.station st).cause = cause ∧
      (t.station st).holdTimer = .running s.now (s.station st).settings.holdTime ∧ (t.station st).runEnable = (s.station st).runEnable ∧
      Told s t .stationState st (put8 9 ++ put8 cause.code ++ putTime (s.station st).cycleNumber) := by
  obtain ⟨groups, hstation⟩ := station_abortWeigh hw hc
  have ha : ((s.abortWeigh st).station st).state = .charging := by rw [hstation]; exact hstate
  have hcalling : (heldStation s.now cause ((s.abortWeigh st).station st)).state ≠ .calling := by
    show ((s.abortWeigh st).station st).state ≠ .calling
    rw [ha]
    nofun
  have hline : (s.abortWeigh st).line = s.line := s.line_abortWeigh st
  intro t
  rw [show t = _ from enterHold_of_charging s st hstate ha (by omega) cause]
  refine ⟨(weighAborted_abortWeigh hw hc).mono ?_ ?_ (weigher_enteredFrom hcalling) (arbiter_enteredFrom hcalling) (store_enteredFrom hcalling)
    side_enteredFrom, ?_, ?_, ?_, ?_, ?_⟩
  · unfold State.ctx?
    rw [station_enteredFrom, hstation]; rfl
  · rw [station_enteredFrom, hstation]; rfl
  · rw [station_enteredFrom]
  · rw [station_enteredFrom]; rfl
  · rw [station_enteredFrom, hstation]; rfl
  · rw [station_enteredFrom, hstation]; rfl
  · have htold := told_enteredFrom (s := s.abortWeigh st) (st := st) (z := heldStation s.now cause ((s.abortWeigh st).station st)) (new := .hold)
    have hcycle : ((s.abortWeigh st).station st).cycleNumber = (s.station st).cycleNumber := by rw [hstation]
    refine fun hmask => (htold (by rw [State.mask_of_line hline]; exact hmask)).trans ?_
    rw [stationState_abortWeigh hw, State.now_of_line hline, ← hcycle]
    rfl

/-- A charging station that latches ends its charge (R114, R18). -/
theorem charging_enterLatched {c : Context} (hstate : (s.station st).state = .charging) (hc : s.ctx? st = some c)
    (hw : s.weigher.state ≠ .idle) (cause : Cause) :
    let t := s.enterLatched st cause
    WeighAborted s t st c ∧ Told s t .stationState st (put8 10 ++ put8 cause.code ++ putTime (s.station st).cycleNumber) := by
  obtain ⟨groups, hstation⟩ := station_abortWeigh hw hc
  have ha : ((s.abortWeigh st).station st).state = .charging := by rw [hstation]; exact hstate
  have hcalling : (latchedStation cause ((s.abortWeigh st).station st)).state ≠ .calling := by
    show ((s.abortWeigh st).station st).state ≠ .calling
    rw [ha]
    nofun
  have hline : (s.abortWeigh st).line = s.line := s.line_abortWeigh st
  intro t
  rw [show t = _ from enterLatched_of_charging s st hstate ha cause]
  refine ⟨(weighAborted_abortWeigh hw hc).mono ?_ ?_ (weigher_enteredFrom hcalling) (arbiter_enteredFrom hcalling) (store_enteredFrom hcalling)
    side_enteredFrom, ?_⟩
  · unfold State.ctx?
    rw [station_enteredFrom, hstation]; rfl
  · rw [station_enteredFrom, hstation]; rfl
  · have htold := told_enteredFrom (s := s.abortWeigh st) (st := st) (z := latchedStation cause ((s.abortWeigh st).station st))
      (new := .latched)
    have hcycle : ((s.abortWeigh st).station st).cycleNumber = (s.station st).cycleNumber := by rw [hstation]
    refine fun hmask => (htold (by rw [State.mask_of_line hline]; exact hmask)).trans ?_
    rw [stationState_abortWeigh hw, State.now_of_line hline, ← hcycle]
    rfl

/-- A new cause in HOLD (R16). -/
theorem replaceHold_eq (cause : Cause) (h : (s.station st).cause ≠ cause) : s.replaceHold st cause =
    announced s st { s.station st with
      cause := cause, holdTimer := .running s.now (s.station st).settings.holdTime,
      ctx := (s.station st).ctx.map fun c => { c with lastCause := cause } } := by
  unfold State.replaceHold
  rw [if_neg h, modStation_eq, raiseStationState_withStation]

theorem told_announced (x : Station) : Told s (announced s st x) .stationState st
    (put8 x.state.code ++ put8 x.cause.code ++ putTime x.cycleNumber) := told_raise (by rfl) (by rfl) _

/-- A HOLD cause that the state of a station takes (R15, R16). -/
theorem causeTaken_takeCause {cause : Cause} (htaken : cause.takenIn (s.station st).state = true) :
    CauseTaken s (s.takeCause st cause) st cause := by
  have heq : s.takeCause st cause = if (s.station st).state = .hold then s.replaceHold st cause else s.enterHold st cause := if_pos htaken
  have hnothold (h : (s.station st).state ≠ .hold) : s.takeCause st cause = s.enterHold st cause := heq.trans (if_neg h)
  refine ⟨fun h hnone => ?_, fun h hnone => ?_, fun c h hc _ hw hcount => ?_, fun c h hc => ⟨fun hcount => ?_, fun hcount => ?_⟩, fun h => ?_⟩
  · rw [hnothold (by obtain h | h | h := h <;> rw [h] <;> nofun)]
    exact held_enterHold (by obtain h | h | h := h <;> rw [h] <;> nofun) (by obtain h | h | h := h <;> rw [h] <;> nofun)
      (fun hne => absurd hnone hne) cause
  · rw [hnothold (by rw [h]; nofun)]
    refine ⟨held_enterHold (by rw [h]; nofun) (by rw [h]; nofun) (fun hne => absurd hnone hne) cause, ?_⟩
    rw [enterHold_eq s st (by rw [h]; nofun) (by rw [hnone]; rintro ⟨hf, -⟩; exact Bool.noConfusion hf)]
    obtain ⟨hmem, hqueue⟩ := queue_enteredFrom (s := ejectStopped s st) (st := st) (new := .hold)
      (z := heldStation s.now cause (stoppedStation s.now (s.station st))) h
    obtain ⟨slate, hslate⟩ := ejectStopped_eq s st
    refine ⟨hmem, fun hw => (hqueue (by rw [hslate]; exact hw)).trans ?_⟩
    rw [hslate]
  · rw [hnothold (by rw [h]; nofun)]
    exact charging_enterHold h hc hw hcount cause
  · rw [hnothold (by obtain h | h | h | h := h <;> rw [h] <;> nofun)]
    exact held_enterHold (by obtain h | h | h | h := h <;> rw [h] <;> nofun) (by obtain h | h | h | h := h <;> rw [h] <;> nofun)
      (fun _ => hcount) cause
  · rw [hnothold (by obtain h | h | h | h := h <;> rw [h] <;> nofun)]
    exact heldOut_enterHold (by obtain h | h | h | h := h <;> rw [h] <;> nofun) (by obtain h | h | h | h := h <;> rw [h] <;> nofun)
      (by rw [hc]; nofun) hcount cause
  · rw [heq, if_pos h]
    by_cases hsame : (s.station st).cause = cause
    · rw [show s.replaceHold st cause = s from if_pos hsame]
      exact ⟨h, hsame, fun _ => ⟨rfl, rfl⟩, fun hne => absurd hsame hne⟩
    · rw [replaceHold_eq cause hsame]
      have hcode : put8 9 = put8 (s.station st).state.code := by rw [h]; rfl
      refine ⟨by rw [station_announced]; exact h, by rw [station_announced], fun he => absurd he hsame, fun _ =>
        ⟨by rw [station_announced], ?_, by rw [hcode]; exact told_announced _⟩⟩
      unfold State.ctx?
      rw [station_announced]

end Hold

end Sys2Proof.Claim
end

section
/-! PROOFS. A PRESS-SAMPLE at its station (R1, R10, R12, R13, R15, R136). -/

namespace Sys2Proof.Claim

open Sys2Proof.Machine

section Press
variable (s : State) (st : Fin 6) (m : PressSample)

/-- The station once a PRESS-SAMPLE's flags and echo are noted (R1). -/
theorem station_noted : (noted s st m).station st =
    { s.station st with pressAuto := m.auto, pressStop := m.stop, echoedPermission := m.echo } := by
  unfold noted
  dsimp only
  split <;> simp

theorem ctx?_noted : (noted s st m).ctx? st = s.ctx? st := by
  unfold State.ctx?
  rw [station_noted]

/-- A PERMIT changes the slate alone. -/
theorem withPermit_eq (q : Permission) : ∃ slate, withPermit s st q = { s with port := { s.port with slate := slate } } := by
  unfold withPermit
  cases s.nodeOf .press st.val with
  | none => exact ⟨s.port.slate, rfl⟩
  | some a => exact ⟨_, rfl⟩

theorem noted_eq : ∃ slate, noted s st m =
    { withStation s st { s.station st with pressAuto := m.auto, pressStop := m.stop, echoedPermission := m.echo } with
      port := { s.port with slate := slate } } := by
  unfold noted
  dsimp only
  split
  · exact ⟨s.port.slate, rfl⟩
  · exact withPermit_eq _ _ _

/-- What is said of a cause before the flags of a PRESS-SAMPLE are noted is what is said after. -/
theorem twin_noted : Twin s (noted s st m) st := by
  have hstation := station_noted s st m
  obtain ⟨slate, h⟩ := noted_eq s st m
  refine ⟨?_, ⟨_, _, _, (s.station st).round, hstation⟩⟩
  rw [h]
  exact ⟨rfl, rfl, rfl, rfl, rfl, rfl, rfl, rfl, rfl, rfl, rfl, rfl, rfl⟩

theorem pressWork_eq : s.pressWork st m =
    (if m.stop then (noted s st m).takeCause st .pressStop else noted s st m).testPress st m := by
  have hnoted : (s.modStation st (·.notePress m)).comparePermit st m.echo = noted s st m := by
    unfold State.comparePermit noted
    rw [modStation_eq, placePermit_eq, station_withStation]
    rfl
  unfold State.pressWork
  dsimp only
  rw [hnoted]

/-- A PRESS-SAMPLE makes no test in these states. -/
theorem testPress_of_idle (h : (s.station st).state = .offline ∨ (s.station st).state = .warming ∨ (s.station st).state = .charging ∨
    (s.station st).state = .ejecting ∨ (s.station st).state = .hold ∨ (s.station st).state = .latched ∨ (s.station st).state = .parked) :
    s.testPress st m = s := by
  unfold State.testPress
  obtain h | h | h | h | h | h | h := h <;> rw [h]

theorem state_enterLatched (cause : Cause) : ((s.enterLatched st cause).station st).state = .latched := by
  unfold State.enterLatched
  dsimp only
  split
  · rw [State.station_of_beside (State.beside_leaveQueue _ _), State.station_raiseStationState, State.state_setState_self]
  · rw [State.station_raiseStationState, State.state_setState_self]

/-- Whatever its state, a station that is held is in HOLD or LATCHED. -/
theorem state_enterHold (cause : Cause) : ((s.enterHold st cause).station st).state = .hold ∨
    ((s.enterHold st cause).station st).state = .latched := by
  unfold State.enterHold
  dsimp only
  split
  · exact Or.inr (state_enterLatched _ _ _)
  · refine Or.inl ?_
    split
    · rw [State.station_of_beside (State.beside_leaveQueue _ _), State.station_raiseStationState, State.state_setState_self]
    · rw [State.station_raiseStationState, State.state_setState_self]

theorem state_takeCause {cause : Cause} (htaken : cause.takenIn (s.station st).state = true) :
    ((s.takeCause st cause).station st).state = .hold ∨ ((s.takeCause st cause).station st).state = .latched := by
  unfold State.takeCause
  dsimp only
  rw [if_pos htaken]
  split
  · next h =>
    refine Or.inl ?_
    unfold State.replaceHold
    split
    · exact h
    · rw [State.station_raiseStationState, State.station_modStation_self]
      exact h
  · exact state_enterHold _ _ _

theorem takeCause_of_not_taken {cause : Cause} (h : cause.takenIn (s.station st).state = false) : s.takeCause st cause = s := by
  unfold State.takeCause
  dsimp only
  rw [if_neg (by rw [h]; nofun)]

end Press

/-- Settles O27. -/
theorem stopFlagHolds : Obligations.StopFlagHolds := by
  intro s st m hstop x
  have hn := station_noted s st m
  have hwork : s.pressWork st m = ((noted s st m).takeCause st .pressStop).testPress st m := by
    rw [pressWork_eq, if_pos hstop]
  have hstate : ((noted s st m).station st).state = x.state := by rw [hn]
  refine ⟨fun h => ?_, fun hoff hparked hlatched => ?_, fun h hcause => ?_⟩
  · rw [hwork, takeCause_of_not_taken _ _ (by rw [hstate]; obtain h | h | h := h <;> rw [h] <;> rfl), testPress_of_idle]
    rw [hstate]
    obtain h | h | h := h <;> simp [h]
  · have htaken : Cause.takenIn .pressStop ((noted s st m).station st).state = true := by
      rw [hstate]
      simp [Cause.takenIn, hoff, hparked, hlatched]
    rw [hwork, testPress_of_idle]
    · exact (causeTaken_takeCause htaken).of_twin (twin_noted s st m)
    · obtain h | h := state_takeCause _ _ htaken <;> simp [h]
  · have hsame : (noted s st m).takeCause st .pressStop = noted s st m := by
      unfold State.takeCause State.replaceHold
      simp only [hstate, h]
      rw [if_pos (by rfl), if_pos trivial, if_pos (by rw [hn]; exact hcause)]
    rw [hwork, hsame, testPress_of_idle]
    rw [hstate]
    simp [h]

/-! ### The tests of a sample with its stop flag clear -/

section Tests
variable {s : State} {st : Fin 6} {m : PressSample}

theorem testPress_ready (h : (s.station st).state = .ready) : s.testPress st m = s.lookCalling st := by
  unfold State.testPress
  rw [h]

theorem testPress_calling (h : (s.station st).state = .calling) :
    s.testPress st m = if m.auto then s else left (announced s st { s.station st with state := .ready }) st := by
  unfold State.testPress State.callToReady
  rw [h]
  dsimp only
  rw [setState_quiet s st (new := .ready) (by rw [h]; rfl) (Or.inl (by rw [h]; rfl)), raiseStationState_withStation, leaveQueue_eq_left]

theorem testPress_loading (h : (s.station st).state = .loading) :
    s.testPress st m = if m.closes (s.station st).settings then s.closePress st else s := by
  unfold State.testPress
  rw [h]

theorem testPress_curing (h : (s.station st).state = .curing) : s.testPress st m = s.watchPressure st m.tonnage := by
  unfold State.testPress
  rw [h]

theorem testPress_opening (h : (s.station st).state = .opening) : s.testPress st m = s.watchOpening st m.ram := by
  unfold State.testPress
  rw [h]

theorem closes_iff (x : StationSettings) : m.closes x = true ↔ m.ram ≤ x.closedThreshold ∧ x.minTonnage ≤ m.tonnage := by
  simp [PressSample.closes]

/-- The closing press (R12, R86). -/
theorem closePress_spec {c : Context} (hc : s.ctx? st = some c) :
    ((s.closePress st).station st).state = .curing ∧ (s.closePress st).ctx? st = some (c.startCure s.now) := by
  unfold State.closePress
  rw [modCtx_of_ctx s st hc]
  exact ⟨State.state_setState_self _ _ _, by rw [State.ctx?_setState_self, ctx?_withStation]⟩

/-- The pressure watch of a sample (R13). -/
theorem watchPressure_eq {c : Context} (hc : s.ctx? st = some c) (tonnage : Nat) : s.watchPressure st tonnage =
    let low := if tonnage < (s.station st).settings.minTonnage then c.lowTonnage + 1 else 0
    let t := withStation s st { s.station st with ctx := some { c with lowTonnage := low } }
    if 3 ≤ low then t.takeCause st .pressureLoss else t := by
  unfold State.watchPressure
  rw [hc]
  dsimp only
  rw [modCtx_of_ctx s st hc]
  rfl

/-- The opening press (R14, R136). -/
theorem pressOpen_eq {c : Context} (hstate : (s.station st).state = .opening) (hc : s.ctx? st = some c) : s.pressOpen st =
    let t := withStation s st { s.station st with state := .ejecting, ctx := some { c with eject := { c.eject with openTimer := .stopped } } }
    if s.isSilent .ejector st.val then t.takeCause st .ejectorSilent else t.startAttempt st 1 := by
  unfold State.pressOpen
  rw [modCtx_of_ctx s st hc, setState_quiet _ _ (new := .ejecting) (by rw [station_withStation, hstate]; rfl)
    (Or.inl (by rw [station_withStation, hstate]; rfl)), station_withStation, withStation_withStation]
  rfl

theorem watchOpening_of_not_open {c : Context} (hc : s.ctx? st = some c) {ram : Nat}
    (h : c.eject.sub ≠ .waitOpen ∨ ram < c.snapshot.openThreshold) : s.watchOpening st ram = s := by
  unfold State.watchOpening
  rw [hc]
  exact if_neg fun ⟨hsub, hram⟩ => h.elim (· hsub) (Nat.not_lt.mpr hram)

theorem watchOpening_of_open {c : Context} (hc : s.ctx? st = some c) {ram : Nat} (hsub : c.eject.sub = .waitOpen)
    (hram : c.snapshot.openThreshold ≤ ram) : s.watchOpening st ram = s.pressOpen st := by
  unfold State.watchOpening
  rw [hc]
  exact if_pos ⟨hsub, hram⟩

/-- The base of an entry may have its context, and an opening press its state, written. -/
theorem kin_withStation {n : State} (k : Twin s n st) {c d : Context} (hc : s.ctx? st = some c) (hd : CtxKin c d) {x : StationState}
    (hx : x = (s.station st).state ∨ (s.station st).state = .opening ∧ x = .ejecting) :
    Kin s (withStation n st { n.station st with state := x, ctx := some d }) st := by
  have hpart := k.toSamePart
  have hkin := k.kin
  refine ⟨?_, ?_, ?_, ?_, ?_, ?_, ?_, ?_, ?_, ?_⟩
  · exact ⟨hpart.now, hpart.nodeAddress, hpart.mask, hpart.sending, hpart.seqCounter, hpart.routes, hpart.recipes, hpart.profilesLive,
      hpart.told, hpart.rejected, hpart.weigher, hpart.arbiter, hpart.store⟩
  · rw [station_withStation]; exact hx
  · rw [station_withStation]; exact hkin.settings
  · rw [station_withStation]; exact hkin.runEnable
  · rw [station_withStation]; exact hkin.cycleNumber
  · rw [station_withStation]; exact hkin.holdCount
  · rw [station_withStation]; exact hkin.groups
  · rw [station_withStation]; exact hkin.boundRecipe
  · rw [station_withStation]; exact hkin.wanted
  · rw [ctx?_withStation, hc]
    exact .some hd

/-- A HOLD cause taken while the station cures or demoulds. -/
theorem takeCause_held {n : State} (k : Kin s n st) {cause : Cause} (htaken : cause.takenIn (n.station st).state = true)
    (hstate : (n.station st).state = .loading ∨ (n.station st).state = .curing ∨ (n.station st).state = .opening ∨
      (n.station st).state = .ejecting) (hc : s.ctx? st ≠ none) :
    ((s.station st).holdCount < 2 → Held s (n.takeCause st cause) st cause) ∧
    (2 ≤ (s.station st).holdCount → HeldOut s (n.takeCause st cause) st) := by
  obtain ⟨c, hc⟩ := Option.ne_none_iff_exists'.mp hc
  obtain ⟨d, hd, -⟩ := k.ctx_some hc
  obtain ⟨-, -, -, hcycle, -⟩ := causeTaken_takeCause htaken
  obtain ⟨hheld, hout⟩ := hcycle d hstate hd
  rw [k.holdCount] at hheld hout
  exact ⟨fun h => (hheld h).of_kin k, fun h => (hout h).of_kin k⟩

end Tests

/-- The port after a change of state: a PERMIT when the wanted permission changes (R25). -/
theorem port_setState (s : State) (st : Fin 6) (new : StationState) :
    ((s.station st).state.permission = new.permission → (s.setState st new).port = s.port) ∧
    ((s.station st).state.permission ≠ new.permission → (s.setState st new).port = (withPermit s st new.permission).port) := by
  have hport (t : State) (hp : t.port = s.port) : (withPermit t st new.permission).port = (withPermit s st new.permission).port := by
    unfold withPermit
    rw [nodeOf_of_routes (congrArg Port.routes hp)]
    cases s.nodeOf .press st.val with
    | none => exact hp
    | some a => simp only [Option.elim_some, hp]
  refine ⟨fun h => ?_, fun h => ?_⟩
  · rw [setState_eq]
    simp only [h, if_true]
    split <;> rfl
  · rw [setState_eq]
    simp only [h, if_false]
    exact hport _ (by split <;> rfl)

end Sys2Proof.Claim
end

section
/-! PROOFS. What the tests of a PRESS-SAMPLE bring about, by the state of the station (R10, R12, R13, R136). -/

namespace Sys2Proof.Claim

open Sys2Proof.Machine

section Sample
variable {s : State} {st : Fin 6} {m : PressSample}

theorem pressWork_of_run (hstop : m.stop = false) : s.pressWork st m = (noted s st m).testPress st m := by
  rw [pressWork_eq, hstop]
  rfl

theorem state_noted : ((noted s st m).station st).state = (s.station st).state := by rw [station_noted]

theorem part_noted : SamePart s (noted s st m) st := (twin_noted s st m).toSamePart

theorem calls_noted : Calls (noted s st m) st ↔
    (s.station st).runEnable = true ∧ (s.recipes[(s.station st).boundRecipe]).present = true ∧ m.auto = true := by
  unfold Calls
  simp only [station_noted, part_noted.recipes]

theorem pressWork_ready (hstop : m.stop = false) (h : (s.station st).state = .ready) :
    ((s.station st).runEnable = false ∨ (s.recipes[(s.station st).boundRecipe]).present = false ∨ m.auto = false →
      s.pressWork st m = noted s st m) ∧
    ((s.station st).runEnable = true → (s.recipes[(s.station st).boundRecipe]).present = true → m.auto = true →
      s.pressWork st m = joined (noted s st m) st) := by
  have hready : ((noted s st m).station st).state = .ready := by rw [state_noted, h]
  rw [pressWork_of_run hstop, testPress_ready hready]
  refine ⟨fun hno => ?_, fun hrun hrecipe hauto => ?_⟩
  · rw [lookCalling_of_not_calls]
    rw [calls_noted]
    rintro ⟨hrun, hrecipe, hauto⟩
    rw [hrun, hrecipe, hauto] at hno
    obtain h | h | h := hno <;> exact absurd h (by decide)
  · rw [lookCalling_of_calls _ _ hready (calls_noted.mpr ⟨hrun, hrecipe, hauto⟩)]

theorem pressWork_calling (hstop : m.stop = false) (h : (s.station st).state = .calling) :
    (m.auto = true → s.pressWork st m = noted s st m) ∧
    (m.auto = false → s.pressWork st m =
      left (announced (noted s st m) st { (noted s st m).station st with state := .ready }) st) := by
  rw [pressWork_of_run hstop, testPress_calling (by rw [state_noted, h])]
  exact ⟨fun hauto => if_pos hauto, fun hauto => if_neg (by simp [hauto])⟩

theorem pressWork_loading (hstop : m.stop = false) (h : (s.station st).state = .loading) :
    ((s.station st).settings.closedThreshold < m.ram ∨ m.tonnage < (s.station st).settings.minTonnage →
      s.pressWork st m = noted s st m) ∧
    ∀ c, s.ctx? st = some c → m.ram ≤ (s.station st).settings.closedThreshold →
      (s.station st).settings.minTonnage ≤ m.tonnage →
      ((s.pressWork st m).station st).state = .curing ∧ (s.pressWork st m).ctx? st = some (c.startCure s.now) := by
  have hsettings : ((noted s st m).station st).settings = (s.station st).settings := by rw [station_noted]
  rw [pressWork_of_run hstop, testPress_loading (by rw [state_noted, h]), hsettings]
  refine ⟨fun hno => if_neg ?_, fun c hc hram hton => ?_⟩
  · rw [closes_iff]
    omega
  · rw [if_pos ((closes_iff _).mpr ⟨hram, hton⟩), ← (part_noted (st := st) (m := m)).now]
    exact closePress_spec (by rw [ctx?_noted, hc])

theorem pressWork_curing (hstop : m.stop = false) {c : Context} {low : Nat} (h : (s.station st).state = .curing) (hc : s.ctx? st = some c)
    (hlow : low = if m.tonnage < (s.station st).settings.minTonnage then c.lowTonnage + 1 else 0) :
    let n := noted s st m
    (low < 3 → s.pressWork st m = withStation n st { n.station st with ctx := some { c with lowTonnage := low } }) ∧
    (3 ≤ low → (s.station st).holdCount < 2 → Held s (s.pressWork st m) st .pressureLoss) ∧
    (3 ≤ low → 2 ≤ (s.station st).holdCount → HeldOut s (s.pressWork st m) st) := by
  have hsettings : ((noted s st m).station st).settings = (s.station st).settings := by rw [station_noted]
  have hcuring : ((noted s st m).station st).state = .curing := by rw [state_noted, h]
  have hwork : s.pressWork st m =
      let t := withStation (noted s st m) st { (noted s st m).station st with ctx := some { c with lowTonnage := low } }
      if 3 ≤ low then t.takeCause st .pressureLoss else t := by
    rw [pressWork_of_run hstop, testPress_curing hcuring, watchPressure_eq (by rw [ctx?_noted, hc]), hsettings, ← hlow]
  have hkin := kin_withStation (twin_noted s st m) hc (d := { c with lowTonnage := low }) ⟨rfl, rfl, rfl, rfl, rfl⟩ (Or.inl rfl)
  rw [← state_noted (m := m)] at hkin
  have hstate : ((withStation (noted s st m) st { (noted s st m).station st with ctx := some { c with lowTonnage := low } }).station st).state =
      .curing := by
    rw [station_withStation]
    exact hcuring
  have htaken := takeCause_held (cause := .pressureLoss) hkin (by rw [hstate]; rfl) (Or.inr (Or.inl hstate)) (by rw [hc]; nofun)
  dsimp only at hwork ⊢
  rw [hwork]
  refine ⟨fun hlt => if_neg (by omega), fun hle hcount => ?_, fun hle hcount => ?_⟩
  · rw [if_pos hle]
    exact htaken.1 hcount
  · rw [if_pos hle]
    exact htaken.2 hcount

/-- The open press starts attempt 1, with the open timer stopped (R136, R138). -/
theorem startAttempt_opened {n : State} {c : Context} (hc : n.ctx? st = some c) (j : Nat) :
    ((n.startAttempt st j).station st).state = (n.station st).state ∧
    ((n.startAttempt st j).station st).demould.wanted = .extend (attemptLimit (n.station st).settings c.snapshot j) ∧
    (n.startAttempt st j).ctx? st = some { c with eject := { c.eject with
      number := j, limit := attemptLimit (n.station st).settings c.snapshot j, peak := 0, outcome := .none, sub := .extending,
      attemptTimer := .running n.now c.snapshot.attemptTimeout } } := by
  rw [startAttempt_eq n st hc]
  unfold wantingEject State.ctx?
  dsimp only
  split
  · next h =>
    rw [station_withStation] at h ⊢
    exact ⟨rfl, h, rfl⟩
  · simp only [station_withEject, station_withStation]
    exact ⟨trivial, trivial, trivial⟩

/-- A held opening has stopped its demould (R147). -/
theorem opening_stopped {t : State} {c : Context} {cause : Cause} (hstate : (s.station st).state = .opening) (hc : s.ctx? st = some c)
    (h : Held s t st cause ∨ HeldOut s t st) : ∃ d, t.ctx? st = some d ∧ d.eject.sub = .none ∧ d.eject.openTimer = .stopped := by
  have hd : ∃ d, t.ctx? st = some d ∧ WorkStopped s t st c d := by
    obtain ⟨-, -, -, -, h⟩ | ⟨-, -, -, -, h⟩ := h
    · obtain ⟨-, d, hd, -, -, -, -, -, hstop⟩ := h c hc
      exact ⟨d, hd, hstop⟩
    · obtain ⟨d, hd, -, -, -, hstop⟩ := h c hc
      exact ⟨d, hd, hstop⟩
  obtain ⟨d, hd, -, -, hopening⟩ := hd
  obtain ⟨-, heject, -⟩ := hopening (Or.inl hstate)
  exact ⟨d, hd, by rw [heject], by rw [heject]⟩

theorem silent_noted : (noted s st m).isSilent .ejector st.val = s.isSilent .ejector st.val := by
  have hroutes := (part_noted (s := s) (st := st) (m := m)).routes
  have hsilence : (noted s st m).port.silence = s.port.silence := by
    obtain ⟨slate, h⟩ := noted_eq s st m
    rw [h]
  unfold State.isSilent State.findEntry
  rw [hroutes, hsilence]

theorem pressWork_opening (hstop : m.stop = false) {c : Context} (h : (s.station st).state = .opening) (hc : s.ctx? st = some c) :
    let t := s.pressWork st m
    (c.eject.sub ≠ .waitOpen ∨ m.ram < c.snapshot.openThreshold → t = noted s st m) ∧
    (c.eject.sub = .waitOpen → c.snapshot.openThreshold ≤ m.ram → ¬SilentEntry s 3 st.val →
      (t.station st).state = .ejecting ∧
      (t.station st).demould.wanted = .extend (attemptLimit (s.station st).settings c.snapshot 1) ∧
      ∃ d, t.ctx? st = some d ∧ d.cycle = c.cycle ∧ d.eject = { c.eject with
        sub := .extending, number := 1, limit := attemptLimit (s.station st).settings c.snapshot 1, peak := 0, outcome := .none,
        openTimer := .stopped, attemptTimer := .running s.now c.snapshot.attemptTimeout }) ∧
    (c.eject.sub = .waitOpen → c.snapshot.openThreshold ≤ m.ram → SilentEntry s 3 st.val →
      ((s.station st).holdCount < 2 → Held s t st .ejectorSilent) ∧ (2 ≤ (s.station st).holdCount → HeldOut s t st) ∧
      ∃ d, t.ctx? st = some d ∧ d.eject.sub = .none ∧ d.eject.openTimer = .stopped) := by
  have hopening : ((noted s st m).station st).state = .opening := by rw [state_noted, h]
  have hcn : (noted s st m).ctx? st = some c := by rw [ctx?_noted, hc]
  have hsilent : (noted s st m).isSilent .ejector st.val = true ↔ SilentEntry s 3 st.val := by
    rw [silent_noted]
    exact s.isSilent_iff .ejector st.val
  rw [pressWork_of_run hstop, testPress_opening hopening]
  refine ⟨fun hno => watchOpening_of_not_open hcn hno, fun hsub hram hquiet => ?_, fun hsub hram hloud => ?_⟩
  · rw [watchOpening_of_open hcn hsub hram, pressOpen_eq hopening hcn]
    dsimp only
    rw [if_neg (mt hsilent.mp hquiet)]
    obtain ⟨hstate, hwanted, hctx⟩ := startAttempt_opened (n := withStation (noted s st m) st { (noted s st m).station st with
      state := .ejecting, ctx := some { c with eject := { c.eject with openTimer := .stopped } } }) (by rw [ctx?_withStation]) 1
    rw [station_withStation] at hstate hwanted
    refine ⟨hstate, ?_, _, hctx, rfl, ?_⟩
    · rw [hwanted, station_noted]
    · rw [station_withStation, station_noted]
      simp only [withStation, part_noted.now]
  · rw [watchOpening_of_open hcn hsub hram, pressOpen_eq hopening hcn]
    dsimp only
    rw [if_pos (hsilent.mpr hloud)]
    have hkin := kin_withStation (twin_noted s st m) hc (d := { c with eject := { c.eject with openTimer := .stopped } })
      ⟨rfl, rfl, rfl, rfl, rfl⟩ (Or.inr ⟨h, rfl⟩)
    have htaken := takeCause_held (cause := .ejectorSilent) hkin (by rw [station_withStation]; rfl)
      (by rw [station_withStation]; simp) (by rw [hc]; nofun)
    refine ⟨htaken.1, htaken.2, opening_stopped (cause := .ejectorSilent) h hc ?_⟩
    · exact (Nat.lt_or_ge (s.station st).holdCount 2).imp htaken.1 htaken.2

end Sample

/-- Settles O25. -/
theorem pressSampleTests : Obligations.PressSampleTests := by
  refine ⟨fun s st m hstop => ⟨fun h => ?_, pressWork_ready hstop, pressWork_calling hstop, fun h => ⟨(pressWork_loading hstop h).1, ?_⟩,
    fun c low h hc hlow => pressWork_curing hstop h hc hlow, fun c h hc => pressWork_opening hstop h hc⟩, port_setState⟩
  · rw [pressWork_of_run hstop, testPress_of_idle]
    rw [state_noted]
    exact h
  · intro c hc hram hton
    obtain ⟨hstate, hctx⟩ := (pressWork_loading hstop h).2 c hc hram hton
    refine ⟨hstate, _, hctx, rfl, rfl, rfl, rfl, fun g => ?_, rfl, rfl, rfl, rfl, rfl, rfl, rfl, rfl⟩
    simp [Context.startCure]

end Sys2Proof.Claim
end

section
/-! PROOFS. Where a station goes when its cycle has ended (R14, R18), and the timers that end one (R137, R141, R145). -/

namespace Sys2Proof.Machine

/-! ### The press flags of a station, which neither the store nor the arbiter writes -/

/-- The run-enable and the press auto flag of a station. -/
def State.flags (s : State) (st : Fin 6) : Bool × Bool := ((s.station st).runEnable, (s.station st).pressAuto)

section
variable (s : State) (st sx : Fin 6)

theorem State.flags_modStation {f : Station → Station} (h : ∀ x, (f x).runEnable = x.runEnable ∧ (f x).pressAuto = x.pressAuto) :
    (s.modStation st f).flags sx = s.flags sx := by
  unfold State.flags
  by_cases e : sx = st
  · subst e
    obtain ⟨hr, ha⟩ := h (s.station sx)
    rw [State.station_modStation_self, hr, ha]
  · rw [State.station_modStation_of_ne _ _ e]

theorem State.flags_of_station {s t : State} {sx : Fin 6} (h : t.station sx = s.station sx) : t.flags sx = s.flags sx := by
  unfold State.flags
  rw [h]

theorem State.runEnable_of_flags {s t : State} {sx : Fin 6} (h : t.flags sx = s.flags sx) :
    (t.station sx).runEnable = (s.station sx).runEnable := congrArg Prod.fst h

theorem State.pressAuto_of_flags {s t : State} {sx : Fin 6} (h : t.flags sx = s.flags sx) :
    (t.station sx).pressAuto = (s.station sx).pressAuto := congrArg Prod.snd h

theorem State.flags_setState (x : StationState) : (s.setState st x).flags sx = s.flags sx := by
  unfold State.flags
  by_cases e : sx = st
  · subst e
    rw [State.station_setState_self]
  · rw [State.station_setState_of_ne _ _ e]

theorem State.flags_recipeMissing : (s.recipeMissing st).flags sx = s.flags sx := by
  unfold State.recipeMissing
  rw [State.flags_of_station (State.station_raise _ _ _ _ _), State.flags_of_station (State.station_raiseStationState _ _ _),
    State.flags_setState]
  rfl

theorem State.flags_resolveAfresh : (s.resolveAfresh st).flags sx = s.flags sx := s.flags_modStation st sx fun _ => ⟨rfl, rfl⟩

theorem State.flags_createContext (r : Reservation) : (s.createContext st r).flags sx = s.flags sx :=
  s.flags_modStation st sx fun _ => ⟨rfl, rfl⟩

theorem State.flags_releaseContext : (s.releaseContext st).flags sx = s.flags sx :=
  (State.flags_resolveAfresh _ _ _).trans (s.flags_modStation st sx fun _ => ⟨rfl, rfl⟩)

theorem State.flags_grant : (s.grant st).flags sx = s.flags sx := by
  have hreserve : (if s.store.settings.policy = .hold then s.reserve else s).flags sx = s.flags sx := by
    split
    · exact State.flags_of_station (State.station_of_beside (State.beside_reserve s))
    · rfl
  unfold State.grant
  dsimp only
  rw [State.flags_of_station (State.station_of_beside (State.beside_armWeigher _ _)), State.flags_resolveAfresh, State.flags_setState,
    State.flags_createContext]
  exact hreserve

theorem State.flags_consider : s.consider.flags sx = s.flags sx :=
  State.consider_induction (P := fun t => t.flags sx = s.flags sx) rfl (fun t sy _ h => (t.flags_recipeMissing sy sx).trans h)
    fun t sy _ h _ _ => (t.flags_grant sy sx).trans h

theorem State.flags_appendCycle (r : Reservation) (b : List Byte) : (s.appendCycle r b).flags sx = s.flags sx := by
  have hpushed : (((s.useReservation r).makeRoom b.length).pushRecord b true).flags sx = s.flags sx :=
    State.flags_of_station (State.station_of_beside (by rw [State.beside_pushRecord, State.beside_makeRoom, State.beside_useReservation]))
  unfold State.appendCycle State.pushAndReport
  dsimp only
  split
  · rw [State.flags_consider, hpushed]
  · exact hpushed

end

end Sys2Proof.Machine

namespace Sys2Proof.Claim

open Sys2Proof.Machine

theorem flags_cycleOut (s : State) (st : Fin 6) (c : Context) (e : Ending) : (cycleOut s st c e).flags st = s.flags st := by
  unfold cycleOut
  rw [State.flags_of_station (State.station_raise _ _ _ _ _), State.flags_releaseContext, State.flags_appendCycle]
  unfold State.flags
  rw [station_withStation]

/-! ### Statements over another base -/

section Base
variable {s n t : State} {st : Fin 6}

theorem Told.of_base {k : NoticeKind} {v : List Byte} (hline : n.line = s.line)
    (hnotice : n.port.notices[noticeSlot k (some st)] = s.port.notices[noticeSlot k (some st)]) (h : Told n t k st v) : Told s t k st v := by
  intro hmask
  rw [h (by rw [State.mask_of_line hline]; exact hmask), hnotice, State.now_of_line hline]

theorem CycleEnded.of_base {c d : Context} {e : Ending} (hside : n.side = s.side) (hstore : n.store = s.store) (hcycle : d.cycle = c.cycle)
    (hrecord : partRecord st d e = partRecord st c e) (houtcome : partOutcome d e = partOutcome c e) (h : CycleEnded n t st d e) :
    CycleEnded s t st c e := by
  obtain ⟨hctx, hcount, hnext, hring, htold⟩ := h
  rw [hcycle, houtcome] at htold
  exact ⟨hctx, hcount, by rw [hnext, hstore], by rw [hring, hrecord],
    htold.of_base (State.line_of_side hside) (State.notices_of_side hside rfl _)⟩

end Base

/-! ### The latch that ends a cycle -/

section Latch
variable {s : State} {st : Fin 6} {cause : Cause}

/-- What a latch brings about at a station without a context. -/
structure LatchedFrom (s t : State) (st : Fin 6) (cause : Cause) : Prop where
  state : (t.station st).state = .latched
  cause : (t.station st).cause = cause
  runEnable : (t.station st).runEnable = false
  holdTimer : (t.station st).holdTimer = .stopped
  ctx : t.ctx? st = none
  holdCount : (t.station st).holdCount = (s.station st).holdCount
  next : t.store.next = s.store.next
  ring : t.store.ring = s.store.ring
  side : t.side = s.side

theorem latchedFrom_enteredFrom {n : State} {x : Station} (hx : x.ctx = none) (hcount : x.holdCount = (s.station st).holdCount)
    (hstore : n.store = s.store) (hside : n.side = s.side) : LatchedFrom s (enteredFrom n st (latchedStation cause x) .latched) st cause := by
  have hstation := station_enteredFrom (s := n) (st := st) (z := latchedStation cause x) (new := .latched)
  have hrecords := records_enteredFrom (s := n) (st := st) (z := latchedStation cause x) (new := .latched)
  refine ⟨by rw [hstation], by rw [hstation]; rfl, by rw [hstation]; rfl, by rw [hstation]; rfl, ?_, by rw [hstation]; exact hcount,
    by rw [hrecords.1, hstore], by rw [hrecords.2, hstore], side_enteredFrom.trans hside⟩
  unfold State.ctx?
  rw [hstation]
  exact congrArg (Option.map _) hx

/-- Without a context the latch of a CHARGING station ends its grant alone (R114). -/
theorem latchedFrom_enterLatched (hc : s.ctx? st = none) : LatchedFrom s (s.enterLatched st cause) st cause := by
  by_cases hcharging : (s.station st).state = .charging
  · have hstation : (s.abortWeigh st).station st = s.station st := by
      unfold State.abortWeigh
      rw [rejectCycle_of_no_ctx hc, State.station_enterClearing, State.station_endGrant]
    have hstore : (s.abortWeigh st).store = s.store := by
      unfold State.abortWeigh
      rw [rejectCycle_of_no_ctx hc, State.store_enterClearing, State.store_endGrant]
    have hside : (s.abortWeigh st).side = s.side := by
      unfold State.abortWeigh
      rw [rejectCycle_of_no_ctx hc, State.side_enterClearing, State.side_endGrant]
    rw [enterLatched_of_charging s st hcharging (by rw [hstation]; exact hcharging), hstation]
    exact latchedFrom_enteredFrom hc rfl hstore hside
  · rw [enterLatched_eq s st hcharging]
    refine latchedFrom_enteredFrom ?_ rfl ?_ (side_ejectStopped s st)
    · exact (congrArg (Option.map _) hc).trans rfl
    · obtain ⟨slate, h⟩ := ejectStopped_eq s st
      rw [h]

/-- A latch is told, of a station that holds no charge (R26). -/
theorem told_enterLatched (h : (s.station st).state ≠ .charging) : Told s (s.enterLatched st cause) .stationState st
    (put8 10 ++ put8 cause.code ++ putTime (s.station st).cycleNumber) := by
  have hnotices : (ejectStopped s st).port.notices = s.port.notices := by
    obtain ⟨slate, h⟩ := ejectStopped_eq s st
    rw [h]
  rw [enterLatched_eq s st h]
  exact Told.of_base (line_ejectStopped s st) (by rw [hnotices]) told_enteredFrom

theorem CycleLatched.beginSend {t : State} (h : CycleLatched s t st cause) : CycleLatched s t.beginSend st cause := by
  obtain ⟨hstate, hcause, hrun, htimer, htold⟩ := h
  unfold CycleLatched
  rw [State.station_beginSend]
  exact ⟨hstate, hcause, hrun, htimer, fun h => (htold h).beginSend⟩

/-- A cycle that ends latched (R14, R18). -/
theorem cycleLatched_endCycle {c : Context} {e : Ending} (hc : s.ctx? st = some c) (he : e ≠ .released) (hstate : (s.station st).state ≠ .charging)
    (t : Time) : CycleEnded s (s.endCycle st e t) st (ending c e.cause t) e ∧ CycleLatched s (s.endCycle st e t) st e.cause := by
  have hend : s.endCycle st e t = (cycleOut s st (ending c e.cause t) e).enterLatched st e.cause := by
    rw [endCycle_eq hc]
    dsimp only
    rw [if_neg he]
  have hended := cycleEnded_cycleOut (s := s) (st := st) (c := ending c e.cause t) (e := e)
  have hlatched : LatchedFrom (cycleOut s st (ending c e.cause t) e) (s.endCycle st e t) st e.cause := by
    rw [hend]
    exact latchedFrom_enterLatched hended.1
  refine ⟨hended.mono (hlatched.ctx.trans hended.1.symm) hlatched.holdCount hlatched.next hlatched.ring hlatched.side,
    hlatched.state, hlatched.cause, hlatched.runEnable, hlatched.holdTimer, fun hqueue => ?_⟩
  obtain ⟨groups, hstation, hnotice⟩ := beside_cycleOut (c := ending c e.cause t) (e := e) hqueue
  have hcycle : ((cycleOut s st (ending c e.cause t) e).station st).cycleNumber = (s.station st).cycleNumber := by rw [hstation]
  rw [hend, ← hcycle]
  exact Told.of_base line_cycleOut hnotice (told_enterLatched (by rw [hstation]; exact hstate))

end Latch

/-- A timer of the station's context that is due. -/
theorem exec_of_cycleTimer {s : State} {st : Fin 6} {c : Context} {x : StationState} {since : Time} {len : Nat}
    (hstate : (s.station st).state = x) (hc : s.ctx? st = some c) {timer : Context → Timer} (htimer : timer c = .running since len)
    (hlen : len ≤ (s.now - since).toNat) (act : State → Time → State) :
    s.onDue (s.cycleTimer st x timer) act = act s (since + BitVec.ofNat 32 len) := by
  rw [cycleTimer_of_state s st hstate hc, htimer, onDue_of_due hlen]

/-- Settles O41. -/
theorem attemptTimerExpires : Obligations.AttemptTimerExpires := by
  intro s st c since len hstate hc htimer hlen x lim
  have hexec : exec (.attemptTimerExpiry st) s = .next (s.attemptExpired st c (since + BitVec.ofNat 32 len)).beginSend := by
    rw [exec_eq_work]
    dsimp only [State.work]
    rw [State.attemptTimer, exec_of_cycleTimer hstate hc htimer hlen, withCtx_eq s st hc]
  rw [hexec]
  unfold State.attemptExpired
  refine ⟨fun hsub => ?_, fun hsub => ?_, fun hsub => ?_⟩
  · rw [hsub]
    dsimp only
    rw [takeOutcome_eq s st hc]
  · rw [hsub]
    obtain ⟨hended, hlatched⟩ := cycleLatched_endCycle hc (e := .ejectorJam) (by nofun) (by rw [hstate]; nofun) (since + BitVec.ofNat 32 len)
    exact ⟨_, rfl, hended.beginSend, hlatched.beginSend⟩
  · rw [hsub]
    dsimp only
    rw [startAttempt_eq s st hc]
    rfl

end Sys2Proof.Claim
end

section
/-! PROOFS. The expiries of a station's timers (R12, R16, R17, R137), and the complete retract (R143). -/

namespace Sys2Proof.Claim

open Sys2Proof.Machine

/-! ### HOLD_EXPIRY -/

section Hold
variable {s : State} {st : Fin 6}

theorem Twin.refl (s : State) (st : Fin 6) : Twin s s st :=
  ⟨⟨rfl, rfl, rfl, rfl, rfl, rfl, rfl, rfl, rfl, rfl, rfl, rfl, rfl⟩, ⟨_, _, _, _, rfl⟩⟩

theorem causePersists_withStation {x : Station} (hcause : x.cause = (s.station st).cause) (hlost : x.lost = (s.station st).lost)
    (hstop : x.pressStop = (s.station st).pressStop) : CausePersists (withStation s st x) st ↔ CausePersists s st := by
  have hsilent (r n : Nat) : SilentEntry (withStation s st x) r n ↔ SilentEntry s r n := Iff.rfl
  unfold CausePersists
  simp only [station_withStation, hcause, hlost, hstop, hsilent]

theorem stoppedStation_of_hold {x : Station} (h : x.state = .hold) (now : Time) : stoppedStation now x = x := by
  have hctx : stoppedCtx now x.state = id := by
    funext c
    rw [h]
    rfl
  unfold stoppedStation
  rw [hctx, Option.map_id, if_neg (by simp [h])]
  rfl

/-- The latch of a held station: nothing is left to stop, and nothing to resolve (R18). -/
theorem enterLatched_of_hold (h : (s.station st).state = .hold) (cause : Cause) : s.enterLatched st cause =
    announced s st { latchedStation cause (s.station st) with state := .latched } := by
  have hno : ejectStopped s st = s := if_neg fun hd => by simp [h] at hd
  have hcalling : ¬(latchedStation cause (s.station st)).state = .calling := by
    show ¬(s.station st).state = .calling
    rw [h]
    nofun
  have hstate : ((withStation s st (latchedStation cause (s.station st))).station st).state = .hold := by
    rw [station_withStation]
    exact h
  rw [enterLatched_eq s st (by rw [h]; nofun), hno, stoppedStation_of_hold h]
  unfold enteredFrom
  dsimp only
  rw [if_neg hcalling, setState_quiet _ _ (new := .latched) (by rw [hstate]; rfl) (Or.inl (by rw [hstate]; rfl)), station_withStation,
    withStation_withStation, raiseStationState_withStation]

/-- A held or latched station without a mould to open warms (R17, R19). -/
theorem recover_of_no_ctx (h : (s.station st).state = .hold ∨ (s.station st).state = .latched) (hc : (s.station st).ctx = none) : s.recover st =
    resolved s st { s.station st with state := .warming, cause := .none, readyCount := 0 } := by
  have hmould : ¬(s.station st).mouldOccupied = true := by
    unfold Station.mouldOccupied
    rw [hc]
    nofun
  unfold State.recover State.enterWarming
  dsimp only
  rw [if_neg hmould, modStation_eq s st, modStation_withStation, setState_resolved _ _ (new := .warming)
    (by rw [station_withStation]; obtain h | h := h <;> simp [h, StationState.permission])
    (by rw [station_withStation]; obtain h | h := h <;> simp [h, StationState.source]) nofun, station_withStation, resolved_withStation]

/-- A held or latched station with its mould occupied opens (R17, R19). -/
theorem recover_of_ctx {c : Context} (h : (s.station st).state = .hold ∨ (s.station st).state = .latched) (hc : (s.station st).ctx = some c) (hoccupied : c.mouldOccupied = true) :
    s.recover st = opened s st { s.station st with cause := .none } c := by
  have hmould : (s.station st).mouldOccupied = true := by
    unfold Station.mouldOccupied
    rw [hc]
    exact hoccupied
  unfold State.recover
  dsimp only
  rw [if_pos hmould, modStation_eq, startOpening_eq (withStation s st { s.station st with cause := .none }) st (c := c)
    (by unfold State.ctx?; rw [station_withStation]; exact hc)
    (by rw [station_withStation]; obtain h | h := h <;> simp [h, StationState.permission])
    (by rw [station_withStation]; obtain h | h := h <;> simp [h, StationState.source]), station_withStation, opened_withStation]

theorem holdExpired_rule (h : (s.station st).state = .hold) :
    let x := s.station st
    (CausePersists s st → s.holdExpired st = announced s st { x with
        state := .latched, holdTimer := .stopped, runEnable := false,
        ctx := x.ctx.map fun c => { c with aborted := true, lastCause := x.cause } }) ∧
    (¬CausePersists s st → x.ctx = none → s.holdExpired st = resolved s st { x with
        state := .warming, holdTimer := .stopped, cause := .none, readyCount := 0 }) ∧
    ∀ c, ¬CausePersists s st → x.ctx = some c → c.mouldOccupied = true →
      s.holdExpired st = opened s st { x with holdTimer := .stopped, cause := .none } c := by
  have hpersists : (withStation s st { s.station st with holdTimer := .stopped }).causePersists st = true ↔ CausePersists s st :=
    (State.causePersists_iff _ _).trans (causePersists_withStation rfl rfl rfl)
  have hstate : ((withStation s st { s.station st with holdTimer := .stopped }).station st).state = .hold := by
    rw [station_withStation]
    exact h
  unfold State.holdExpired
  dsimp only
  rw [modStation_eq]
  refine ⟨fun hp => ?_, fun hp hc => ?_, fun c hp hc hoccupied => ?_⟩
  · rw [if_pos (hpersists.mpr hp), enterLatched_of_hold hstate, station_withStation, announced_withStation]
    rfl
  · rw [if_neg (mt hpersists.mp hp), recover_of_no_ctx (Or.inl hstate) (by rw [station_withStation]; exact hc), station_withStation,
      resolved_withStation]
  · rw [if_neg (mt hpersists.mp hp), recover_of_ctx (Or.inl hstate) (by rw [station_withStation]; exact hc) hoccupied, station_withStation,
      opened_withStation]

theorem exec_holdExpiry {since : Time} {len : Nat} (h : (s.station st).state = .hold) (htimer : (s.station st).holdTimer = .running since len)
    (hlen : len ≤ (s.now - since).toNat) : exec (.holdExpiry st) s = .next (s.holdExpired st).beginSend := by
  rw [exec_eq_work]
  dsimp only [State.work]
  rw [if_pos ((holdDue_iff s st).mpr ⟨h, since, len, htimer, hlen⟩)]

end Hold

/-- A LOADING station takes LOAD_TIMEOUT (R12, R16). -/
theorem loadTimeout_rule {s : State} {st : Fin 6} {c : Context} {since : Time} {len : Nat} (hlen : len ≤ (s.now - since).toNat)
    (hc : s.ctx? st = some c) (hstate : (s.station st).state = .loading) (htimer : c.loadTimer = .running since len) :
    ∃ t d, exec (.loadTimeout st) s = .next t ∧ t.ctx? st = some d ∧ d.loadTimer = .stopped ∧
      ((s.station st).holdCount < 2 → Held s t st .loadTimeout) ∧ (2 ≤ (s.station st).holdCount → HeldOut s t st) := by
  have hexec : exec (.loadTimeout st) s = .next (s.takeCause st .loadTimeout).beginSend := by
    rw [exec_eq_work]
    dsimp only [State.work]
    rw [State.loadTimer, exec_of_cycleTimer hstate hc htimer hlen]
  have hline : (s.takeCause st .loadTimeout).line = s.line := State.line_takeCause _ _ _
  obtain ⟨hheld, hout⟩ := takeCause_held (Twin.refl s st).kin (cause := .loadTimeout) (by rw [hstate]; rfl) (Or.inl hstate) (by rw [hc]; nofun)
  have hd : ∃ d, (s.takeCause st .loadTimeout).beginSend.ctx? st = some d ∧ d.loadTimer = .stopped := by
    rw [State.ctx?_beginSend]
    obtain h | h := Nat.lt_or_ge (s.station st).holdCount 2
    · obtain ⟨-, -, -, -, hctx⟩ := hheld h
      obtain ⟨-, d, hd, -, -, -, -, -, hload, -⟩ := hctx c hc
      exact ⟨d, hd, hload hstate⟩
    · obtain ⟨-, -, -, -, hctx⟩ := hout h
      obtain ⟨d, hd, -, -, -, hload, -⟩ := hctx c hc
      exact ⟨d, hd, hload hstate⟩
  obtain ⟨d, hd, hload⟩ := hd
  exact ⟨_, d, hexec, hd, hload, fun h => (hheld h).beginSend hline, fun h => (hout h).beginSend hline⟩

/-- Settles O39. -/
theorem stationTimersExpire : Obligations.StationTimersExpire := by
  intro s st since len hlen x
  refine ⟨fun hstate htimer => ?_, fun c hc hstate htimer => loadTimeout_rule hlen hc hstate htimer, fun c hc hstate htimer => ?_⟩
  · obtain ⟨hlatch, hwarm, hopen⟩ := holdExpired_rule hstate
    rw [exec_holdExpiry hstate htimer hlen]
    exact ⟨fun h => by rw [hlatch h], fun h hc => by rw [hwarm h hc], fun c h hc hoccupied => by rw [hopen c h hc hoccupied]⟩
  · have hexec : exec (.openTimeout st) s = .next (s.endCycle st .openTimeout (since + BitVec.ofNat 32 len)).beginSend := by
      rw [exec_eq_work]
      dsimp only [State.work]
      rw [State.openTimer, exec_of_cycleTimer hstate hc htimer hlen]
      rfl
    obtain ⟨hended, hlatched⟩ := cycleLatched_endCycle hc (e := .openTimeout) (by nofun) (by rw [hstate]; nofun) (since + BitVec.ofNat 32 len)
    exact ⟨_, hexec, hended.beginSend, hlatched.beginSend⟩

/-! ### The complete retract -/

/-- What an append writes before the arbiter's test is the port and the store. -/
theorem pushed_eq (s : State) (r : Reservation) (b : List Byte) : ∃ (p : Port) (x : Store),
    ((s.useReservation r).makeRoom b.length).pushRecord b true = { s with port := p, store := x } := by
  obtain ⟨n, h1⟩ := s.useReservation_eq r
  obtain ⟨p, x, h2, -⟩ := (s.useReservation r).makeRoom_eq b.length
  obtain ⟨q, d, bl, l, h3⟩ := ((s.useReservation r).makeRoom b.length).pushRecord_eq b true
  rw [h3, h2, h1]
  exact ⟨_, _, rfl⟩

/-- An append leaves the arbiter where its test can grant nothing. -/
theorem arbiter_appendCycle {s : State} (h : s.weigher.state ≠ .idle ∨ s.arbiter.queue = []) (r : Reservation) (b : List Byte) :
    (s.appendCycle r b).arbiter = s.arbiter := by
  obtain ⟨p, x, hpushed⟩ := pushed_eq s r b
  have hconsider : ({ s with port := p, store := x } : State).consider = { s with port := p, store := x } := by
    obtain h | h := h
    · exact State.consider_of_not_idle _ h
    · exact State.consider_of_empty _ h
  unfold State.appendCycle State.pushAndReport
  dsimp only
  rw [hpushed, hconsider]
  split <;> rfl

/-- The part with the station in CALLING at the tail of the queue, before the arbiter tests (R10, R124). -/
def calledLast (s : State) (st : Fin 6) : State :=
  { s.setState st .calling with arbiter := { s.arbiter with queue := s.arbiter.queue ++ [st] } }

theorem enterCalling_eq_consider (s : State) (st : Fin 6) : s.enterCalling st false = (calledLast s st).consider := by
  unfold State.enterCalling calledLast
  dsimp only
  rw [State.arbiter_setState]
  rfl

theorem station_calledLast (s : State) (st : Fin 6) : (calledLast s st).station st = (s.setState st .calling).station st := rfl

theorem cycleEnded_calledLast {s t : State} {st : Fin 6} {c : Context} {e : Ending} (h : CycleEnded s t st c e) :
    CycleEnded s (calledLast t st) st c e := by
  have hstore : (calledLast t st).store = t.store := State.store_setState _ _ _
  refine h.mono (State.ctx?_setState_self _ _ _) ?_ (by rw [hstore]) (by rw [hstore]) (State.side_setState _ _ _)
  rw [station_calledLast, State.station_setState_self]

section Released
variable {s : State} {st : Fin 6} {c : Context}

/-- A part that released goes on to CALLING at the tail of the queue, with the arbiter's test, when its press is in auto (R14). -/
theorem endCycle_calling (hc : s.ctx? st = some c) (hrun : (s.station st).runEnable = true) (hauto : (s.station st).pressAuto = true)
    (t : Time) : ∃ u q, s.endCycle st .released t = u.consider ∧ CycleEnded s u st (ending c .none t) .released ∧
      (u.station st).state = .calling ∧ u.arbiter.queue = q ++ [st] ∧
      (s.weigher.state ≠ .idle ∨ s.arbiter.queue = [] → q = s.arbiter.queue) := by
  have hended := cycleEnded_cycleOut (s := s) (st := st) (c := ending c .none t) (e := .released)
  have hflags := flags_cycleOut s st (ending c .none t) .released
  have hend : s.endCycle st .released t = (cycleOut s st (ending c .none t) .released).enterCalling st false := by
    rw [endCycle_eq hc]
    dsimp only [Ending.cause]
    rw [if_pos rfl, if_pos ⟨(State.runEnable_of_flags hflags).trans hrun, (State.pressAuto_of_flags hflags).trans hauto⟩]
  rw [hend]
  refine ⟨_, (cycleOut s st (ending c .none t) .released).arbiter.queue, enterCalling_eq_consider _ _, cycleEnded_calledLast hended,
    ?_, rfl, fun h => ?_⟩
  · rw [station_calledLast, State.state_setState_self]
  · unfold cycleOut
    rw [State.arbiter_raise, State.arbiter_releaseContext, arbiter_appendCycle (s := withStation s st _) h]
    rfl

/-- Without auto or run-enable it is READY (R14). -/
theorem endCycle_ready (hc : s.ctx? st = some c) (hoff : (s.station st).runEnable = false ∨ (s.station st).pressAuto = false) (t : Time) :
    let u := s.endCycle st .released t
    CycleEnded s u st (ending c .none t) .released ∧ (u.station st).state = .ready ∧
      (st ∉ s.arbiter.queue →
        Told s u .stationState st (put8 2 ++ put8 (s.station st).cause.code ++ putTime (s.station st).cycleNumber)) := by
  have hended := cycleEnded_cycleOut (s := s) (st := st) (c := ending c .none t) (e := .released)
  have hflags := flags_cycleOut s st (ending c .none t) .released
  have hno (u : State) (hu : u.flags st = s.flags st) : ¬((u.station st).runEnable = true ∧ (u.station st).pressAuto = true) := by
    rw [State.runEnable_of_flags hu, State.pressAuto_of_flags hu]
    rintro ⟨h1, h2⟩
    obtain h | h := hoff
    · exact Bool.false_ne_true (h.symm.trans h1)
    · exact Bool.false_ne_true (h.symm.trans h2)
  have hlook : ¬Calls (((cycleOut s st (ending c .none t) .released).setState st .ready).raiseStationState st) st := by
    rintro ⟨hr, -, ha⟩
    refine hno _ ?_ ⟨hr, ha⟩
    rw [State.flags_of_station (State.station_raiseStationState _ _ _), State.flags_setState, hflags]
  have hend : s.endCycle st .released t =
      ((cycleOut s st (ending c .none t) .released).setState st .ready).raiseStationState st := by
    rw [endCycle_eq hc]
    dsimp only [Ending.cause]
    rw [if_pos rfl, if_neg (hno _ hflags)]
    unfold State.enterReady
    rw [lookCalling_of_not_calls _ _ hlook]
  intro u
  rw [show u = _ from hend]
  refine ⟨hended.mono ?_ ?_ ?_ ?_ ?_, ?_, fun hqueue => ?_⟩
  · rw [State.ctx?_raiseStationState, State.ctx?_setState_self]
  · rw [State.station_raiseStationState, State.station_setState_self]
  · rw [State.store_raiseStationState, State.store_setState]
  · rw [State.store_raiseStationState, State.store_setState]
  · rw [State.side_raiseStationState, State.side_setState]
  · rw [State.station_raiseStationState, State.state_setState_self]
  · obtain ⟨groups, hstation, hnotice⟩ := beside_cycleOut (c := ending c .none t) (e := .released) hqueue
    unfold State.raiseStationState
    rw [State.station_setState_self, hstation]
    exact told_raise (by rw [State.line_setState, line_cycleOut]) (by rw [notices_setState, hnotice]) _

theorem side_ejectNoted (m : EjectSample) : (ejectNoted s st m).side = s.side := by
  unfold ejectNoted
  dsimp only
  split
  · rfl
  · rw [show ∀ y w, withEject y st w = _ from fun y w => (placeCommand_eq y _ .ejector _ _ _).symm]
    exact State.side_placeCommand _ (fun sx e => by have := congrArg Fin.val e; simp only [ejectSlot, dutySlot] at this; omega) _ _ _ _

/-- The items of an EJECT-SAMPLE are the station's and a slot of the slate. -/
theorem ejectNoted_eq (m : EjectSample) : ∃ slate, ejectNoted s st m = { withStation s st { s.station st with demould :=
    { (s.station st).demould with echoed := some m.echo, position := some m.position, force := some m.force } } with
      port := { s.port with slate := slate } } := by
  unfold ejectNoted withEject
  dsimp only
  split
  · exact ⟨s.port.slate, rfl⟩
  · rw [nodeOf_withStation]
    cases s.nodeOf .ejector st.val with
    | none => exact ⟨s.port.slate, rfl⟩
    | some a => exact ⟨_, rfl⟩

/-- The part with a noted EJECT-SAMPLE and the attempt timer of the context stopped (R143). -/
def retracted (s : State) (st : Fin 6) (m : EjectSample) (c : Context) : State :=
  let n := ejectNoted s st m
  withStation n st { n.station st with ctx := some { c with eject := { c.eject with attemptTimer := .stopped } } }

variable {m : EjectSample}

theorem station_retracted : (retracted s st m c).station st = { s.station st with
    demould := { (s.station st).demould with echoed := some m.echo, position := some m.position, force := some m.force },
    ctx := some { c with eject := { c.eject with attemptTimer := .stopped } } } := by
  unfold retracted
  dsimp only
  rw [station_withStation, station_ejectNoted]

theorem ctx?_retracted : (retracted s st m c).ctx? st = some { c with eject := { c.eject with attemptTimer := .stopped } } := by
  unfold State.ctx?
  rw [station_retracted]

theorem side_retracted : (retracted s st m c).side = s.side := by
  unfold retracted
  dsimp only
  rw [side_withStation, side_ejectNoted]

/-- The store, the weigher, the arbiter, the pending notices and the time stand. -/
theorem retracted_keeps : (retracted s st m c).store = s.store ∧ (retracted s st m c).weigher = s.weigher ∧
    (retracted s st m c).arbiter = s.arbiter ∧ (retracted s st m c).port.notices = s.port.notices ∧ (retracted s st m c).now = s.now := by
  obtain ⟨slate, h⟩ := ejectNoted_eq (s := s) (st := st) m
  unfold retracted
  dsimp only
  rw [h]
  exact ⟨rfl, rfl, rfl, rfl, rfl⟩

theorem ejectWork_retracted (hc : s.ctx? st = some c) (hsub : c.eject.sub = .retracting) (hecho : m.echo = .retract)
    (hpos : m.position ≤ (s.station st).settings.retractThreshold) : s.ejectWork st m =
      let t := retracted s st m c
      if c.eject.outcome = .released then t.endCycle st .released s.now
      else if c.eject.number < c.snapshot.retryLimit + 1 then
        if c.snapshot.settleDwell = 0 then t.startAttempt st (c.eject.number + 1)
        else t.modCtx st fun d => { d with eject := { d.eject with sub := .dwelling, attemptTimer := .running s.now d.snapshot.settleDwell } }
      else t.endCycle st .stuckPart s.now := by
  have hcn : (ejectNoted s st m).ctx? st = some c := by rw [ctx?_ejectNoted, hc]
  rw [ejectWork_eq, judgeEject_retracted _ _ hcn hsub hecho (by rw [station_ejectNoted]; exact hpos)]
  unfold State.retractComplete retracted
  rw [modCtx_of_ctx _ _ hcn, now_ejectNoted]

/-- What an ended cycle says does not depend on the timer of its last attempt. -/
theorem cycleEnded_retracted {t : State} {cause : Cause} {e : Ending}
    (h : CycleEnded (retracted s st m c) t st (ending { c with eject := { c.eject with attemptTimer := .stopped } } cause s.now) e) :
    CycleEnded s t st (ending c cause s.now) e :=
  h.of_base side_retracted retracted_keeps.1 rfl rfl rfl

end Released

/-- Settles O30. -/
theorem completeRetract : Obligations.CompleteRetract := by
  intro s st m c hstate hc hsub hecho hpos t
  have hwork := ejectWork_retracted hc hsub hecho hpos
  have hcr := ctx?_retracted (s := s) (st := st) (c := c) (m := m)
  have hstation := station_retracted (s := s) (st := st) (c := c) (m := m)
  obtain ⟨-, hweigher, harbiter, hnotices, hnow⟩ := retracted_keeps (s := s) (st := st) (c := c) (m := m)
  dsimp only at hwork
  rw [show t = _ from hwork]
  refine ⟨fun hout => ?_, fun hout hnumber hdwell => ?_, fun hout hnumber hdwell => ?_, fun hout hnumber => ?_⟩
  · rw [if_pos hout]
    refine ⟨fun hrun hauto => ?_, fun hoff => ?_⟩
    · obtain ⟨u, q, hu, hended, hcalling, hqueue, hq⟩ :=
        endCycle_calling hcr (by rw [hstation]; exact hrun) (by rw [hstation]; exact hauto) s.now
      rw [hweigher, harbiter] at hq
      exact ⟨u, q, hu, cycleEnded_retracted hended, hcalling, hqueue, hq⟩
    · obtain ⟨hended, hready, htold⟩ := endCycle_ready hcr (by rw [hstation]; exact hoff) s.now
      rw [harbiter, hstation] at htold
      exact ⟨cycleEnded_retracted hended, hready, fun h => (htold h).of_base (State.line_of_side side_retracted) (by rw [hnotices])⟩
  · rw [if_neg hout, if_pos hnumber, if_pos hdwell]
    obtain ⟨-, hwanted, hctx⟩ := startAttempt_opened hcr (c.eject.number + 1)
    rw [hstation] at hwanted hctx
    exact ⟨_, hctx, rfl, rfl, rfl, hwanted⟩
  · rw [if_neg hout, if_pos hnumber, if_neg hdwell, modCtx_of_ctx _ _ hcr]
    exact ⟨_, ctx?_withStation _ _ _, rfl, rfl⟩
  · rw [if_neg hout, if_neg (by omega)]
    obtain ⟨hended, hlatch, hcause, hrun, htimer, htold⟩ :=
      cycleLatched_endCycle hcr (e := .stuckPart) (by nofun) (by rw [hstation]; show (s.station st).state ≠ _; rw [hstate]; nofun) s.now
    rw [harbiter, hstation] at htold
    exact ⟨cycleEnded_retracted hended, hlatch, hcause, hrun, htimer,
      fun h => (htold h).of_base (State.line_of_side side_retracted) (by rw [hnotices])⟩


end Sys2Proof.Claim
end

section
/-! PROOFS. START, STOP and ABORT (R20, R21, R22). -/

namespace Sys2Proof.Claim

open Sys2Proof.Machine

/-! ### The answer of a station command -/

section Answer
variable {i : Instr} {h : ReqHeader} {r : Request} {s : State} {kind : Byte} {n : Nat} {f : Fin 6 → Except Result State}

theorem answers_onStation_index (hi : i.request? = some (h, r)) (hs : Served s h)
    (hserve : s.serve h r = (s.onStation n f).state.answer h.src h.seq kind (s.onStation n f).code (s.onStation n f).body false)
    (hn : 6 ≤ n) : Answers i s h kind s .badIndex [] := by
  refine answers_of_reply (s.onStation n f) hi hs hserve ?_
  unfold State.onStation
  rw [stationOf?_eq_none hn]
  rfl

variable {st : Fin 6}

theorem answers_onStation_done (hi : i.request? = some (h, r)) (hs : Served s h)
    (hserve : s.serve h r = (s.onStation st.val f).state.answer h.src h.seq kind (s.onStation st.val f).code (s.onStation st.val f).body false)
    {t : State} (ht : f st = .ok t) : Answers i s h kind t .done [] := by
  refine answers_of_reply (s.onStation st.val f) hi hs hserve ?_
  unfold State.onStation
  rw [stationOf?_val]
  dsimp only
  rw [ht]
  rfl

theorem answers_onStation_refused (hi : i.request? = some (h, r)) (hs : Served s h)
    (hserve : s.serve h r = (s.onStation st.val f).state.answer h.src h.seq kind (s.onStation st.val f).code (s.onStation st.val f).body false)
    {c : Result} (ht : f st = .error c) : Answers i s h kind s c [] := by
  refine answers_of_reply (s.onStation st.val f) hi hs hserve ?_
  unfold State.onStation
  rw [stationOf?_val]
  dsimp only
  rw [ht]
  rfl

end Answer

/-! ### START and STOP -/

section Run
variable {s : State} {st : Fin 6}

theorem calls_withStation {x : Station} : Calls (withStation s st x) st ↔
    x.runEnable = true ∧ (s.recipes[x.boundRecipe]).present = true ∧ x.pressAuto = true := by
  unfold Calls
  simp only [station_withStation]
  rfl

theorem startStation_of_refused (h : (s.station st).state = .offline ∨ (s.station st).state = .latched) : s.startStation st = .error .state := by
  unfold State.startStation
  obtain h | h := h <;> rw [h]

theorem startStation_of_taken (hoff : (s.station st).state ≠ .offline) (hlatched : (s.station st).state ≠ .latched) :
    s.startStation st = .ok ((withStation s st { s.station st with runEnable := true }).lookCalling st) := by
  unfold State.startStation
  split
  · next h => exact absurd h hoff
  · next h => exact absurd h hlatched
  · rfl

theorem callToReady_eq (h : (s.station st).state = .calling) :
    s.callToReady st = left (announced s st { s.station st with state := .ready }) st := by
  unfold State.callToReady
  rw [setState_quiet s st (new := .ready) (by rw [h]; rfl) (Or.inl (by rw [h]; rfl)), raiseStationState_withStation, leaveQueue_eq_left]

/-- The station with its run-enable cleared. -/
def stopped (s : State) (st : Fin 6) : State := withStation s st { s.station st with runEnable := false }

theorem station_stopped : (stopped s st).station st = { s.station st with runEnable := false } := station_withStation _ _ _

theorem callToReady_stopped (h : (s.station st).state = .calling) :
    (stopped s st).callToReady st = left (announced s st { s.station st with state := .ready, runEnable := false }) st := by
  rw [callToReady_eq (by rw [station_stopped]; exact h), station_stopped]
  unfold stopped
  rw [announced_withStation]

theorem stopStation_eq : s.stopStation st = if (s.station st).state = .calling then (stopped s st).callToReady st else stopped s st := rfl

/-! ### ABORT -/

theorem abortStation_refused (h : (s.station st).state = .opening ∨ (s.station st).state = .ejecting) : s.abortStation st = .error .state := by
  unfold State.abortStation
  obtain h | h := h <;> rw [h]

theorem abortStation_quiet (h : (s.station st).state = .offline ∨ (s.station st).state = .warming ∨ (s.station st).state = .ready ∨
    (s.station st).state = .parked ∨ (s.station st).state = .hold ∨ (s.station st).state = .latched) :
    s.abortStation st = .ok (stopped s st) := by
  unfold State.abortStation
  obtain h | h | h | h | h | h := h <;> rw [h] <;> rfl

theorem abortStation_calling (h : (s.station st).state = .calling) : s.abortStation st = .ok ((stopped s st).callToReady st) := by
  unfold State.abortStation
  rw [h]
  rfl

theorem abortStation_charging (h : (s.station st).state = .charging) :
    s.abortStation st = .ok (((stopped s st).abortWeigh st).enterReady st) := by
  unfold State.abortStation
  rw [h]
  rfl

theorem abortStation_occupied (h : (s.station st).state = .loading ∨ (s.station st).state = .curing) :
    s.abortStation st = .ok ((stopped s st).abortCycle st) := by
  unfold State.abortStation
  obtain h | h := h <;> rw [h] <;> rfl

/-- An abort opens the mould of a LOADING or CURING station, with what ran stopped (R22). -/
theorem abortCycle_eq {c : Context} (hc : s.ctx? st = some c) (h : (s.station st).state = .loading ∨ (s.station st).state = .curing) :
    s.abortCycle st = opened s st (s.station st) (stoppedCtx s.now (s.station st).state { c with aborted := true }) := by
  have hno : ejectStopped (withStation s st { s.station st with ctx := some { c with aborted := true } }) st =
      withStation s st { s.station st with ctx := some { c with aborted := true } } := by
    refine if_neg fun hd => ?_
    rw [station_withStation] at hd
    obtain h | h := h <;> simp [h] at hd
  have hdemould : ¬((s.station st).state = .opening ∨ (s.station st).state = .ejecting) := by
    obtain h | h := h <;> simp [h]
  unfold State.abortCycle
  rw [modCtx_of_ctx s st hc, stopWork_eq, hno, station_withStation, withStation_withStation]
  rw [startOpening_eq (c := stoppedCtx s.now (s.station st).state { c with aborted := true })]
  · rw [station_withStation, opened_withStation]
    unfold stoppedStation
    dsimp only
    rw [if_neg hdemould]
    rfl
  · unfold State.ctx?
    rw [station_withStation]
    rfl
  · rw [station_withStation]
    obtain h | h := h <;> simp [stoppedStation, h, StationState.permission]
  · rw [station_withStation]
    obtain h | h := h <;> simp [stoppedStation, h, StationState.source]

theorem abortCycle_stopped {c : Context} (hc : s.ctx? st = some c) (h : (s.station st).state = .loading ∨ (s.station st).state = .curing) :
    (stopped s st).abortCycle st = opened s st { s.station st with runEnable := false }
      (stoppedCtx s.now (s.station st).state { c with aborted := true }) := by
  rw [abortCycle_eq (c := c) (by unfold State.ctx?; rw [station_stopped]; exact hc) (by rw [station_stopped]; exact h), station_stopped]
  unfold stopped
  rw [opened_withStation]
  rfl

/-- The abort of a charge (R22, R114). -/
theorem abort_charging {c : Context} (hc : s.ctx? st = some c) (hw : s.weigher.state ≠ .idle) :
    let t := ((stopped s st).abortWeigh st).enterReady st
    WeighAborted s t st c ∧ (t.station st).state = .ready ∧ (t.station st).runEnable = false ∧
      (t.station st).cause = (s.station st).cause ∧
      Told s t .stationState st (put8 2 ++ put8 (s.station st).cause.code ++ putTime (s.station st).cycleNumber) := by
  have hcs : (stopped s st).ctx? st = some c := by
    unfold State.ctx?
    rw [station_stopped]
    exact hc
  have hpart : SamePart s (stopped s st) st := ⟨rfl, rfl, rfl, rfl, rfl, rfl, rfl, rfl, rfl, rfl, rfl, rfl, rfl⟩
  have hws : (stopped s st).weigher.state ≠ .idle := hw
  have haborted := (weighAborted_abortWeigh hws hcs).of_part hpart
  obtain ⟨groups, hstation⟩ := station_abortWeigh hws hcs
  rw [station_stopped] at hstation
  have hready : ((stopped s st).abortWeigh st).enterReady st = (((stopped s st).abortWeigh st).setState st .ready).raiseStationState st :=
    State.enterReady_of_stopped _ _ (by rw [hstation])
  have hline : ((stopped s st).abortWeigh st).line = s.line := (State.line_abortWeigh _ _).trans rfl
  have hnotice := stationState_abortWeigh (st := st) hws st
  intro t
  rw [show t = _ from hready]
  refine ⟨haborted.mono ?_ ?_ ?_ ?_ ?_ ?_, ?_, ?_, ?_, ?_⟩
  · rw [State.ctx?_raiseStationState, State.ctx?_setState_self]
    exact haborted.1
  · rw [State.station_raiseStationState, State.station_setState_self]
    exact haborted.2.1
  · rw [State.weigher_raiseStationState, State.weigher_setState]
  · rw [State.arbiter_raiseStationState, State.arbiter_setState]
  · rw [State.store_raiseStationState, State.store_setState]
  · rw [State.side_raiseStationState, State.side_setState]
  · rw [State.station_raiseStationState, State.state_setState_self]
  · rw [State.station_raiseStationState, State.station_setState_self, hstation]
  · rw [State.station_raiseStationState, State.station_setState_self, hstation]
  · unfold State.raiseStationState
    rw [State.station_setState_self, hstation]
    exact told_raise (by rw [State.line_setState, hline]) (by rw [notices_setState, hnotice]; rfl) _

end Run

/-- Settles O54. -/
theorem runCommandsRule : Obligations.RunCommandsRule := by
  intro h s hs
  refine ⟨fun n hn => ⟨answers_onStation_index rfl hs rfl hn, answers_onStation_index rfl hs rfl hn, answers_onStation_index rfl hs rfl hn⟩,
    fun st => ?_⟩
  have hstart {t : State} (ht : s.startStation st = .ok t) : Answers (.start h st.val) s h 7 t .done [] :=
    answers_onStation_done rfl hs rfl ht
  have hstop {t : State} (ht : s.stopStation st = t) : Answers (.stop h st.val) s h 7 t .done [] :=
    answers_onStation_done (f := fun sx => .ok (s.stopStation sx)) rfl hs rfl (congrArg _ ht)
  have habort {t : State} (ht : s.abortStation st = .ok t) : Answers (.abort h st.val) s h 7 t .done [] :=
    answers_onStation_done rfl hs rfl ht
  refine ⟨fun hx => ?_, fun hoff hlatched hno => ?_, fun hready hrecipe hauto => ?_, fun hx => ?_, fun hx => ?_, fun hx => ?_, fun hx => ?_,
    fun hx => ?_, fun c hx hc hgranted hw => ?_, fun c hc => ⟨fun hx => ?_, fun hx => ?_⟩⟩
  · exact answers_onStation_refused rfl hs rfl (startStation_of_refused hx)
  · refine hstart ?_
    rw [startStation_of_taken hoff hlatched]
    obtain hx | hno := hno
    · rw [lookCalling_of_not_ready _ _ (by rw [station_withStation]; exact hx)]
    · rw [lookCalling_of_not_calls]
      rw [calls_withStation]
      rintro ⟨-, hrecipe, hauto⟩
      obtain hno | hno := hno
      · exact Bool.false_ne_true (hno.symm.trans hrecipe)
      · exact Bool.false_ne_true (hno.symm.trans hauto)
  · refine hstart ?_
    rw [startStation_of_taken (by rw [hready]; nofun) (by rw [hready]; nofun), lookCalling_of_calls]
    · rw [station_withStation]
      exact hready
    · exact calls_withStation.mpr ⟨rfl, hrecipe, hauto⟩
  · exact hstop (by rw [stopStation_eq, if_neg hx]; rfl)
  · exact hstop (by rw [stopStation_eq, if_pos hx, callToReady_stopped hx])
  · exact answers_onStation_refused rfl hs rfl (abortStation_refused hx)
  · exact habort (abortStation_quiet hx)
  · exact habort (by rw [abortStation_calling hx, callToReady_stopped hx])
  · exact ⟨_, habort (abortStation_charging hx), abort_charging hc hw⟩
  · refine habort ?_
    rw [abortStation_occupied (Or.inl hx), abortCycle_stopped hc (Or.inl hx), hx]
    rfl
  · refine habort ?_
    rw [abortStation_occupied (Or.inr hx), abortCycle_stopped hc (Or.inr hx), hx]
    rfl

end Sys2Proof.Claim
end

section
/-! PROOFS. PARK, UNPARK, ONLINE, OFFLINE, BIND and CLEAR (R8, R19, R23, R24). -/

namespace Sys2Proof.Claim

open Sys2Proof.Machine

section Line
variable {s : State} {st : Fin 6}

/-! ### PARK and UNPARK -/

theorem setState_parked (h : (s.station st).state = .ready ∨ (s.station st).state = .warming ∨ (s.station st).state = .calling) :
    s.setState st .parked = resolved s st { s.station st with state := .parked } :=
  setState_resolved s st (new := .parked) (by obtain h | h | h := h <;> rw [h] <;> rfl)
    (by obtain h | h | h := h <;> rw [h] <;> nofun) nofun

theorem parkStation_refused (hready : (s.station st).state ≠ .ready) (hwarming : (s.station st).state ≠ .warming)
    (hcalling : (s.station st).state ≠ .calling) : s.parkStation st = .error .state := by
  unfold State.parkStation
  split
  · next h => exact absurd h hready
  · next h => exact absurd h hwarming
  · next h => exact absurd h hcalling
  · rfl

theorem parkStation_idle (h : (s.station st).state = .ready ∨ (s.station st).state = .warming) :
    s.parkStation st = .ok (resolved s st { s.station st with state := .parked }) := by
  rw [← setState_parked (h.imp_right Or.inl)]
  unfold State.parkStation
  obtain h | h := h <;> rw [h]

theorem parkStation_calling (h : (s.station st).state = .calling) :
    s.parkStation st = .ok (left (resolved s st { s.station st with state := .parked }) st) := by
  rw [← setState_parked (Or.inr (Or.inr h)), ← leaveQueue_eq_left]
  unfold State.parkStation
  rw [h]

theorem unparkStation_refused (h : (s.station st).state ≠ .parked) : s.unparkStation st = .error .state := by
  unfold State.unparkStation
  split
  · next h' => exact absurd h' h
  · rfl

theorem unparkStation_parked (h : (s.station st).state = .parked) :
    s.unparkStation st = .ok (resolved s st { s.station st with state := .warming, readyCount := 0, cause := .none }) := by
  unfold State.unparkStation State.enterWarming
  rw [h, modStation_eq, setState_resolved _ _ (new := .warming) (by rw [station_withStation, h]; rfl)
    (by rw [station_withStation, h]; nofun) nofun, station_withStation, resolved_withStation]

/-! ### ONLINE -/

/-- An entry that is there and not SILENT. -/
theorem heard_iff (r : Role) (n : Nat) : (s.findEntry r n).isSome = true ∧ s.isSilent r n = false ↔
    ∃ e, s.findEntry r n = some e ∧ s.port.silence[e] ≠ .silent := by
  unfold State.isSilent
  cases s.findEntry r n with
  | none => simp
  | some e => simp

theorem platenServed_iff (x : Station) (p : Fin 2) : x.platenServed p = true ↔
    ∃ z : Fin 16, z.val / 8 = p.val ∧ (x.zones[z]).entry.present = true ∧ (x.zones[z]).fault = .none := by
  unfold Station.platenServed platenZones Zone.inService
  simp

theorem complete_iff : s.complete st = true ↔ ReadyForOnline s st := by
  have hlow : (∃ z : Fin 16, z.val / 8 = (0 : Fin 2).val ∧ ((s.station st).zones[z]).entry.present = true ∧ ((s.station st).zones[z]).fault = .none) ↔
      ∃ z : Fin 16, z.val < 8 ∧ ((s.station st).zones[z]).entry.present = true ∧ ((s.station st).zones[z]).fault = .none :=
    exists_congr fun z => and_congr_left' (Nat.div_eq_zero_iff_lt (by decide))
  have hhigh : (∃ z : Fin 16, z.val / 8 = (1 : Fin 2).val ∧ ((s.station st).zones[z]).entry.present = true ∧ ((s.station st).zones[z]).fault = .none) ↔
      ∃ z : Fin 16, 8 ≤ z.val ∧ ((s.station st).zones[z]).entry.present = true ∧ ((s.station st).zones[z]).fault = .none :=
    exists_congr fun z => and_congr_left' (by have := z.isLt; show z.val / 8 = 1 ↔ _; omega)
  unfold State.complete ReadyForOnline
  rw [← heard_iff, ← heard_iff, ← hlow, ← hhigh, ← platenServed_iff, ← platenServed_iff]
  simp only [Bool.and_eq_true, Bool.not_eq_true', Option.isSome_iff_ne_none]
  constructor
  · rintro ⟨⟨⟨⟨⟨⟨⟨⟨heat, heater⟩, press⟩, ejector⟩, hheat⟩, hpress⟩, p0⟩, p1⟩, hrecipe⟩
    exact ⟨⟨heat, hheat⟩, heater, ⟨press, hpress⟩, ejector, p0, p1, hrecipe⟩
  · rintro ⟨⟨heat, hheat⟩, heater, ⟨press, hpress⟩, ejector, p0, p1, hrecipe⟩
    exact ⟨⟨⟨⟨⟨⟨⟨⟨heat, heater⟩, press⟩, ejector⟩, hheat⟩, hpress⟩, p0⟩, p1⟩, hrecipe⟩

theorem onlineStation_refused (h : (s.station st).state ≠ .offline ∨ s.mode = .config) : s.onlineStation st = .error .state := if_pos h

theorem onlineStation_of_offline (h : (s.station st).state = .offline) (hm : s.mode = .run) :
    (¬ReadyForOnline s st → s.onlineStation st = .error .incomplete) ∧
    (ReadyForOnline s st → s.onlineStation st = .ok (resolved s st { (s.station st).startAnew with state := .warming })) := by
  have hno : ¬((s.station st).state ≠ .offline ∨ s.mode = .config) := by simp [h, hm]
  unfold State.onlineStation
  rw [if_neg hno]
  refine ⟨fun hready => if_neg (mt complete_iff.mp hready), fun hready => ?_⟩
  have hstate : ((withStation s st (s.station st).startAnew).station st).state = .offline := by
    rw [station_withStation]
    exact h
  rw [if_pos (complete_iff.mpr hready), modStation_eq, setState_resolved _ _ (new := .warming) (by rw [hstate]; rfl) (by rw [hstate]; nofun)
    nofun, station_withStation, resolved_withStation]

/-! ### OFFLINE -/

/-- What entry to OFFLINE writes in a station (R23). -/
def offlined (x : Station) : Station :=
  { x with state := .offline, runEnable := false, cause := .none, holdTimer := .stopped, readyCount := 0 }

theorem offlineStation_refused (h : (s.station st).state = .offline ∨ (s.station st).state = .charging ∨ (s.station st).state = .loading ∨
    (s.station st).state = .curing ∨ (s.station st).state = .opening ∨ (s.station st).state = .ejecting ∨
    ((s.station st).state = .hold ∨ (s.station st).state = .latched) ∧ (s.station st).ctx ≠ none) : s.offlineStation st = .error .state := by
  unfold State.offlineStation
  obtain h | h | h | h | h | h | ⟨h, hc⟩ := h
  · rw [h]
  · rw [h]
  · rw [h]
  · rw [h]
  · rw [h]
  · rw [h]
  · have hsome : (s.station st).ctx.isSome = true := Option.isSome_iff_ne_none.mpr hc
    rw [hsome]
    obtain h | h := h <;> rw [h] <;> rfl

theorem offlineStation_taken (h : (s.station st).state = .ready ∨ (s.station st).state = .warming ∨ (s.station st).state = .parked ∨
    (s.station st).state = .calling ∨ ((s.station st).state = .hold ∨ (s.station st).state = .latched) ∧ (s.station st).ctx = none) :
    s.offlineStation st = .ok (s.enterOffline st) ∧ (s.station st).state.permission = .none := by
  unfold State.offlineStation
  obtain h | h | h | h | ⟨h, hc⟩ := h
  · rw [h]; exact ⟨rfl, rfl⟩
  · rw [h]; exact ⟨rfl, rfl⟩
  · rw [h]; exact ⟨rfl, rfl⟩
  · rw [h]; exact ⟨rfl, rfl⟩
  · rw [hc]
    obtain h | h := h <;> rw [h] <;> exact ⟨rfl, rfl⟩

/-- Entry to OFFLINE, before a CALLING station leaves the queue: an all-zero DUTY to its HEATER entry, and STATION_STATE (R26, R62). -/
def offlineTold (s : State) (st : Fin 6) : State :=
  let x := s.station st
  let y := offlined x
  (s.nodeOf .heater st.val).elim (announced s st y) fun a =>
    announced { s with port := { s.port with slate := s.port.slate.set (dutySlot st) (some
      { dest := a, kind := 2, seq := none, payload := put16 (x.round.lastNode.getD 0).toNat ++ List.replicate 16 0 }) } } st
      { y with round := { y.round with lastSum := 0 }, zones := Vector.ofFn fun i : Fin 16 => { y.zones[i] with dutySent := 0 } }

theorem enterOffline_eq (hp : (s.station st).state.permission = .none) : s.enterOffline st =
    if (s.station st).state = .calling then left (offlineTold s st) st else offlineTold s st := by
  have hset : (s.modStation st fun x => { x with holdTimer := .stopped, runEnable := false, cause := .none, readyCount := 0 }).setState st
      .offline = withStation s st (offlined (s.station st)) := by
    rw [modStation_eq, setState_quiet _ _ (new := .offline) (by rw [station_withStation]; exact hp) (Or.inr rfl), station_withStation,
      withStation_withStation]
    rfl
  have htold : (if ((withStation s st (offlined (s.station st))).nodeOf .heater st.val).isSome then
        ((withStation s st (offlined (s.station st))).modStation st Station.zeroDuties).zeroDuty st ((s.station st).round.lastNode.getD 0)
      else withStation s st (offlined (s.station st))).raiseStationState st = offlineTold s st := by
    unfold offlineTold
    dsimp only
    cases ha : s.nodeOf .heater st.val with
    | none =>
      rw [nodeOf_withStation, ha, if_neg (by nofun), raiseStationState_withStation]
      rfl
    | some a =>
      rw [nodeOf_withStation, ha, if_pos Option.isSome_some, modStation_withStation, zeroDuty_of_node _ _ (a := a) (by rw [nodeOf_withStation, ha]),
        station_withStation]
      simp only [withStation_withStation, Option.elim_some]
      exact raiseStationState_withStation { s with port := { s.port with slate := _ } } st _
  unfold State.enterOffline
  dsimp only
  rw [hset, htold, leaveQueue_eq_left]

/-! ### BIND and CLEAR -/

theorem bindStation_refused (n : Fin 16) (h : (s.station st).ctx ≠ none) : s.bindStation st n = .error .state :=
  if_pos (Option.isSome_iff_ne_none.mpr h)

theorem resolveAfresh_bound (n : Fin 16) : (s.modStation st fun x => { x with boundRecipe := n }).resolveAfresh st =
    resolved s st { s.station st with boundRecipe := n } := rfl

theorem bindStation_eq (n : Fin 16) (h : (s.station st).ctx = none) : s.bindStation st n =
    .ok (if (s.station st).state = .ready then (resolved s st { s.station st with boundRecipe := n }).lookCalling st
      else if (s.station st).state = .warming then resolved s st { s.station st with boundRecipe := n }
      else withStation s st { s.station st with boundRecipe := n }) := by
  unfold State.bindStation
  dsimp only
  rw [if_neg (by rw [h]; nofun), resolveAfresh_bound]
  split
  · rfl
  · split <;> rfl

/-- A resolution leaves what the calling condition reads. -/
theorem calls_resolved (x : Station) : Calls (resolved s st x) st ↔
    x.runEnable = true ∧ (s.recipes[x.boundRecipe]).present = true ∧ x.pressAuto = true := by
  rw [← calls_withStation (s := s) (st := st) (x := x)]
  unfold resolved Calls
  simp only [State.station_resolveAfresh_self]
  rfl

theorem state_resolved (x : Station) : ((resolved s st x).station st).state = x.state := by
  unfold resolved
  rw [State.station_resolveAfresh_self, station_withStation]

theorem lookCalling_resolved {x : Station} (hready : x.state = .ready) (hrun : x.runEnable = true)
    (hrecipe : (s.recipes[x.boundRecipe]).present = true) (hauto : x.pressAuto = true) :
    (resolved s st x).lookCalling st = joined (resolved s st x) st :=
  lookCalling_of_calls _ _ ((state_resolved x).trans hready) ((calls_resolved x).mpr ⟨hrun, hrecipe, hauto⟩)

theorem clearStation_refused (h : (s.station st).state ≠ .latched ∨ CausePersists s st) : s.clearStation st = .error .state :=
  if_pos (h.imp_right (s.causePersists_iff st).mpr)

theorem clearStation_taken (hl : (s.station st).state = .latched) (hp : ¬CausePersists s st) : s.clearStation st = .ok (s.recover st) :=
  if_neg fun h => h.elim (· hl) fun h => hp ((s.causePersists_iff st).mp h)

end Line

/-- Settles O55. -/
theorem lineCommandsRule : Obligations.LineCommandsRule := by
  intro h s hs
  refine ⟨fun n m hn => ⟨answers_onStation_index rfl hs rfl hn, answers_onStation_index rfl hs rfl hn, answers_onStation_index rfl hs rfl hn,
    answers_onStation_index rfl hs rfl hn, answers_onStation_index rfl hs rfl hn, answers_onStation_index rfl hs rfl hn⟩, fun st => ?_⟩
  intro x parked
  have hbind (n : Fin 16) {t : State} (ht : s.bindStation st n = .ok t) : Answers (.bind h st.val n.val) s h 7 t .done [] := by
    refine answers_onStation_done rfl hs rfl ?_
    rw [zoneOf?_val]
    exact ht
  refine ⟨fun h1 h2 h3 => answers_onStation_refused rfl hs rfl (parkStation_refused h1 h2 h3),
    fun hx => answers_onStation_done rfl hs rfl (parkStation_idle hx), fun hx => answers_onStation_done rfl hs rfl (parkStation_calling hx),
    fun hx => answers_onStation_refused rfl hs rfl (unparkStation_refused hx),
    fun hx => answers_onStation_done rfl hs rfl (unparkStation_parked hx),
    fun hx => answers_onStation_refused rfl hs rfl (onlineStation_refused hx),
    fun hx hm hready => answers_onStation_refused rfl hs rfl ((onlineStation_of_offline hx hm).1 hready),
    fun hx hm hready => answers_onStation_done rfl hs rfl ((onlineStation_of_offline hx hm).2 hready),
    fun hx => answers_onStation_refused rfl hs rfl (offlineStation_refused hx), fun hx => ?_, fun n hn => ?_, fun n => ?_,
    fun hx => answers_onStation_refused rfl hs rfl (clearStation_refused hx), fun hl hp => ⟨fun hc => ?_, fun c hc hoccupied => ?_⟩⟩
  · obtain ⟨htaken, hpermission⟩ := offlineStation_taken hx
    rw [enterOffline_eq hpermission] at htaken
    refine ⟨fun hcalling => ?_, fun hcalling => ?_⟩
    · rw [if_neg hcalling] at htaken
      exact answers_onStation_done rfl hs rfl htaken
    · rw [if_pos hcalling] at htaken
      exact answers_onStation_done rfl hs rfl htaken
  · refine answers_onStation_refused rfl hs rfl ?_
    rw [zoneOf?_eq_none hn]
  · refine ⟨fun hc => ?_, fun hc hready hwarming => ?_, fun hc hquiet => ?_, fun hc hready hrun hrecipe hauto => ?_⟩
    · refine answers_onStation_refused rfl hs rfl ?_
      rw [zoneOf?_val]
      exact bindStation_refused n hc
    · exact hbind n (by rw [bindStation_eq n hc, if_neg hready, if_neg hwarming])
    · refine hbind n ?_
      obtain hwarming | ⟨hready, hno⟩ := hquiet
      · rw [bindStation_eq n hc, if_neg (by rw [hwarming]; nofun), if_pos hwarming]
      · rw [bindStation_eq n hc, if_pos hready, lookCalling_of_not_calls]
        rw [calls_resolved]
        rintro ⟨hrun, hrecipe, hauto⟩
        obtain hno | hno | hno := hno
        · exact Bool.false_ne_true (hno.symm.trans hrun)
        · exact Bool.false_ne_true (hno.symm.trans hrecipe)
        · exact Bool.false_ne_true (hno.symm.trans hauto)
    · refine hbind n ?_
      rw [bindStation_eq n hc, if_pos hready]
      exact congrArg _ (lookCalling_resolved (x := { s.station st with boundRecipe := n }) hready hrun hrecipe hauto)
  · exact answers_onStation_done rfl hs rfl (by rw [clearStation_taken hl hp, recover_of_no_ctx (Or.inr hl) hc])
  · exact answers_onStation_done rfl hs rfl (by rw [clearStation_taken hl hp, recover_of_ctx (Or.inr hl) hc hoccupied])

end Sys2Proof.Claim
end

section
/-! PROOFS. How a weigh ends: the accept (R85, R112), the rejects (R113), and the timers of the weigher (R108, R110, R116, R117). -/

namespace Sys2Proof.Claim

open Sys2Proof.Machine

/-! ### The accept -/

theorem fdiv_of_pos (a : Int) {b : Int} (h : 0 ≤ b) : a.fdiv b = a / b := Int.fdiv_eq_ediv_of_nonneg a h

/-- Settles O33. -/
theorem acceptFixesTarget : Obligations.AcceptFixesTarget := by
  intro s st c v hgranted hc hstate t
  have hstation : ∀ u : State, u.ctx? st = some c → ((u.modCtx st fun d => d.accept v s.weigher.pieces s.now).setState st .loading).ctx? st =
      some (c.accept v s.weigher.pieces s.now) := fun u hu => by
    rw [State.ctx?_setState_self, modCtx_of_ctx u st hu, ctx?_withStation]
  have ht : t = ((((s.modCtx st fun c => c.accept v s.weigher.pieces s.now).setState st .loading).endGrant)).enterClearing (.pass st) := by
    show s.acceptCharge v = _
    unfold State.acceptCharge
    rw [hgranted]
  have hnow : ((s.modCtx st fun c => c.accept v s.weigher.pieces s.now).setState st .loading).endGrant.now = s.now := by
    show (State.setState _ st .loading).now = _
    rw [State.now_of_line (State.line_setState _ _ _)]
    rfl
  rw [ht]
  refine ⟨c.accept v s.weigher.pieces s.now, ?_, ?_, ?_, rfl, rfl, rfl, rfl, rfl, ?_, ?_, ?_, ?_, ?_, ?_⟩
  · rw [State.ctx?_enterClearing, State.ctx?_endGrant]
    exact hstation s hc
  · rw [State.station_enterClearing, State.station_endGrant, State.state_setState_self]
  · show some (cureTarget c.snapshot v) = _
    unfold cureTarget
    rw [fdiv_of_pos _ (by decide)]
  · rw [State.weigher_enterClearing]
  · rw [State.weigher_enterClearing]
  · rw [State.weigher_enterClearing]
    rfl
  · rw [State.arbiter_enterClearing]
    rfl
  · rw [State.weigher_enterClearing]
  · rw [State.weigher_enterClearing, hnow]
    show Timer.running _ (State.weigher (State.setState _ st .loading)).settings.clearTimeout = _
    rw [State.weigher_setState]
    rfl

/-! ### The rejects -/

section Reject
variable {s : State} {st : Fin 6} {c : Context} {reason : RejectReason} {total : Int} {time : Time}

/-- What is written after the record of a reject leaves the station, the calls, the store and CHARGE_REJECT, and the weigher at work without
a grant, its timers stopped and its gate at DIVERT. -/
structure AfterReject (s u v : State) (st : Fin 6) : Prop where
  station : v.station st = u.station st
  arbiter : v.arbiter = u.arbiter
  store : v.store = u.store
  told : v.port.notices[noticeSlot .chargeReject (some st)] = u.port.notices[noticeSlot .chargeReject (some st)]
  busy : v.weigher.state ≠ .idle
  granted : v.weigher.granted = none
  gate : v.weigher.wantedGate = .divert
  pieceWait : v.weigher.pieceWait = .stopped
  settle : v.weigher.settle = .stopped
  tare : v.weigher.tare = s.weigher.tare

theorem weigher_calledFirst {v : State} (hbusy : v.weigher.state ≠ .idle) : (v.enterCalling st true).weigher = v.weigher := by
  rw [State.enterCalling_of_not_idle _ _ _ hbusy]
  exact State.weigher_setState _ _ _

/-- A reject puts its station back to CALLING at the head of the queue (R113, R124). -/
theorem rejected_enterCalling {v : State} (hw : s.weigher.state ≠ .idle) (hc : s.ctx? st = some c)
    (h : AfterReject s (s.rejectCycle st reason total time) v st) :
    Rejected s (v.enterCalling st true) st c reason total s.weigher.pieces time := by
  obtain ⟨hstation, -, -, harbiter, hnext, -, -⟩ := s.rejectCycle_spec st c reason total time hw hc
  obtain ⟨hlast, htold⟩ := rejectCycle_told hc reason total time
  have hweigher := weigher_calledFirst (st := st) h.busy
  have hcalled : (v.enterCalling st true).station st = (v.setState st .calling).station st := by
    rw [State.enterCalling_of_not_idle _ _ _ h.busy]
    rfl
  have hctx : (v.station st).ctx = none := by rw [h.station, hstation]
  have hcount : (v.station st).holdCount = 0 := by rw [h.station, hstation]
  have hqueue : (v.enterCalling st true).arbiter = { v.arbiter with queue := st :: v.arbiter.queue } := by
    rw [State.enterCalling_of_not_idle _ _ _ h.busy]
    rfl
  have hstore : (v.enterCalling st true).store = v.store := by
    rw [State.enterCalling_of_not_idle _ _ _ h.busy]
    exact State.store_setState _ _ _
  have hnotices : (v.enterCalling st true).port.notices = v.port.notices := by
    rw [State.enterCalling_of_not_idle _ _ _ h.busy]
    exact notices_setState _ _
  refine ⟨?_, ?_, ?_, ?_, ?_, ?_, ?_, ?_, ?_, ?_, ?_, ?_, ?_⟩
  · rw [hcalled, State.state_setState_self]
  · unfold State.ctx?
    rw [hcalled, State.station_setState_self]
    exact hctx
  · rw [hcalled, State.station_setState_self]
    exact hcount
  · rw [hqueue, h.arbiter, harbiter]
  · rw [hqueue, h.arbiter, harbiter]
  · rw [hweigher, h.granted]
  · rw [hweigher, h.gate]
  · rw [hweigher, h.pieceWait]
  · rw [hweigher, h.settle]
  · rw [hweigher, h.tare]
  · rw [hstore, h.store, hnext]
  · rw [hstore, h.store, hlast]
  · exact htold.of_notice (by rw [hnotices, h.told])

theorem Rejected.beginSend {t : State} {pieces : List Int} (h : Rejected s t st c reason total pieces time) :
    Rejected s t.beginSend st c reason total pieces time := by
  obtain ⟨h1, h2, h3, h4, h5, h6, h7, h8, h9, h10, h11, h12, h13⟩ := h
  unfold Rejected
  simp only [State.station_beginSend, State.ctx?_beginSend, State.arbiter_beginSend, State.weigher_beginSend, State.store_beginSend]
  exact ⟨h1, h2, h3, h4, h5, h6, h7, h8, h9, h10, h11, h12, h13.beginSend⟩

/-- A reject that the weigher decides (R113): CLEARING with DIVERT. -/
theorem rejected_rejectCharge (hgranted : s.weigher.granted = some st) (hw : s.weigher.state ≠ .idle) (hc : s.ctx? st = some c) :
    Rejected s (s.rejectCharge reason total time) st c reason total s.weigher.pieces time ∧
      (s.rejectCharge reason total time).weigher.state = .clearing := by
  obtain ⟨-, -, hweigher, -⟩ := s.rejectCycle_spec st c reason total time hw hc
  have hafter : AfterReject s (s.rejectCycle st reason total time) ((s.rejectCycle st reason total time).enterClearing .divert) st := by
    refine ⟨State.station_enterClearing _ _ _, State.arbiter_enterClearing _ _, State.store_enterClearing _ _,
      State.notices_of_side (State.side_enterClearing _ _) rfl _, ?_, ?_, ?_, ?_, ?_, ?_⟩ <;>
      rw [State.weigher_enterClearing]
    · nofun
    all_goals rw [hweigher]
  have hcharge : s.rejectCharge reason total time = ((s.rejectCycle st reason total time).enterClearing .divert).enterCalling st true := by
    unfold State.rejectCharge
    rw [hgranted]
  rw [hcharge]
  exact ⟨rejected_enterCalling hw hc hafter, by rw [weigher_calledFirst hafter.busy, State.weigher_enterClearing]⟩

theorem rejectWaited_eq : s.rejectWaited time =
    s.rejectCharge (if s.weigher.pieces = [] then .noCharge else .under) s.weigher.vPrev time := by
  unfold State.rejectWaited
  simp only [List.isEmpty_iff]

end Reject

/-! ### The timers of the weigher -/

section Timers
variable {s : State} {since : Time} {len : Nat}

theorem exec_pieceWait (hlen : len ≤ (s.now - since).toNat) (h : s.weigher.pieceWait = .running since len) :
    exec .pieceWaitExpiry s = .next (s.pieceWaitExpired (since + BitVec.ofNat 32 len)).beginSend := by
  rw [exec_eq_work]
  dsimp only [State.work]
  rw [h, onDue_of_due hlen]

theorem exec_settle (hlen : len ≤ (s.now - since).toNat) (h : s.weigher.settle = .running since len) :
    exec .settleTimerExpiry s = .next (s.settleExpired (since + BitVec.ofNat 32 len)).beginSend := by
  rw [exec_eq_work]
  dsimp only [State.work]
  rw [h, onDue_of_due hlen]

theorem exec_clear (hlen : len ≤ (s.now - since).toNat) (h : s.weigher.clear = .running since len) :
    exec .clearTimerExpiry s = .next (s.clearExpired (since + BitVec.ofNat 32 len)).beginSend := by
  rw [exec_eq_work]
  dsimp only [State.work]
  rw [h, onDue_of_due hlen]

/-- FAULT from CLEARING: the weigher and the port alone (R116, R118). -/
theorem enterFault_clearing (h : s.weigher.state = .clearing) (cause : WeigherCause) (t : Time) :
    ∃ p, s.enterFault cause t = { s with weigher := s.weigher.enterFault cause, port := p } := by
  unfold State.enterFault State.raiseWeigherFault
  dsimp only
  rw [h]
  obtain ⟨p, hp⟩ := raise_eq (s.modWeigher (·.enterFault cause)) .weigherFault none
    (put8 cause.code ++ put8 WeigherState.clearing.code ++ Option.elim (none : Option (Fin 6)) [] fun st => put8 st.val)
  rw [if_neg (by nofun), if_neg (by nofun), hp]
  exact ⟨p, rfl⟩

/-- The end of a TARE that is held (R117). -/
theorem endTaring_eq {src q : Byte} (h : s.port.buffer = .taring src q) (tare : Int) (code : Result) (body : List Byte) :
    s.endTaring tare code body = State.consider
      { s with weigher := { s.weigher with tare := tare, settle := .stopped, state := .idle },
               port := { s.port with buffer := .answering (answerParts src q 9 code body) false } } := by
  unfold State.endTaring State.answerTare
  rw [State.modWeigher_port, h]
  rfl

end Timers

/-- Settles O42. -/
theorem weigherTimersExpire : Obligations.WeigherTimersExpire := by
  intro s since len hlen
  refine ⟨fun st c htimer hgranted hc _ => ?_, fun st c htimer hstate hgranted hc _ => ?_, fun src q htimer hstate hbuffer => ?_,
    fun htimer hstate => ?_⟩
  · rw [exec_pieceWait hlen htimer]
    unfold State.pieceWaitExpired
    refine ⟨fun hstate => by rw [hstate]; rfl, fun hstate => ?_⟩
    have hw : s.weigher.state ≠ .idle := by obtain h | h := hstate <;> rw [h] <;> nofun
    obtain ⟨hrejected, hclearing⟩ := rejected_rejectCharge hgranted hw hc
      (reason := if s.weigher.pieces = [] then .noCharge else .under) (total := s.weigher.vPrev) (time := since + BitVec.ofNat 32 len)
    rw [← rejectWaited_eq] at hrejected hclearing
    refine ⟨_, ?_, ?_, hrejected.beginSend⟩
    · obtain h | h := hstate <;> rw [h]
    · rw [State.weigher_beginSend, hclearing]
  · rw [exec_settle hlen htimer]
    unfold State.settleExpired
    obtain ⟨hrejected, hclearing⟩ := rejected_rejectCharge hgranted (by rw [hstate]; nofun) hc
      (reason := .unsettled) (total := s.weigher.vPrev) (time := since + BitVec.ofNat 32 len)
    rw [hstate]
    exact ⟨_, rfl, by rw [State.weigher_beginSend, hclearing], hrejected.beginSend⟩
  · rw [exec_settle hlen htimer]
    unfold State.settleExpired
    rw [hstate]
    dsimp only
    rw [endTaring_eq hbuffer]
  · rw [exec_clear hlen htimer]
    unfold State.clearExpired
    rw [hstate]
    obtain ⟨p, hp⟩ := enterFault_clearing hstate .notCleared (since + BitVec.ofNat 32 len)
    dsimp only
    rw [hp]
    refine ⟨_, rfl, ?_, ?_, ?_, ?_⟩
    · rw [State.weigher_beginSend]
      rfl
    · rw [State.stations_beginSend]
    · rw [State.store_beginSend]
    · rw [State.arbiter_beginSend]

end Sys2Proof.Claim
end

section
/-! PROOFS. A WEIGH-SAMPLE at the weigher (R100 to R104): what it notes and feeds, and the fault causes (R118, R119). -/

namespace Sys2Proof.Claim

open Sys2Proof.Machine

/-! ### What a sample notes and feeds -/

theorem grossOf_eq (x : WeigherSettings) (m : WeighSample) : grossOf x m.raw = gross x m := (fdiv_of_pos _ (by decide)).symm

theorem note_eq (w : Weigher) (m : WeighSample) (now : Time) : w.note m now = sampled w m now := by
  unfold Weigher.note sampled
  rw [grossOf_eq]
  by_cases h : m.status = .ok
  · simp only [h, if_true]
  · simp only [h, if_false]

theorem feed_eq (w : Weigher) (net : Int) : w.feed net = fed w net := by
  have hwindow : feedNet w.window net = w.window.drop (w.window.length - 7) ++ [net] := by
    unfold feedNet
    split
    · rfl
    · next h => rw [Nat.sub_eq_zero_of_le (by omega), List.drop_zero]
  unfold Weigher.feed fed
  rw [hwindow]
  rfl

theorem enterClearing_eq (s : State) (g : Gate) : s.enterClearing g = wanting { s with weigher := { s.weigher with
    state := .clearing, absentRun := 0, clear := .running s.now s.weigher.settings.clearTimeout } } g := by
  unfold State.enterClearing
  rw [wantGate_eq]
  rfl

section Sample
variable {s : State} {m : WeighSample}

/-- The comparison of the gate echo changes the slate alone (R104). -/
theorem gateChecked_eq : ∃ slate, gateChecked s m = { s with port := { s.port with slate := slate } } := by
  unfold gateChecked withGate
  split
  · exact ⟨s.port.slate, rfl⟩
  · cases s.nodeOf .weigher 255 with
    | none => exact ⟨s.port.slate, rfl⟩
    | some a => exact ⟨_, rfl⟩

theorem weigher_gateChecked : (gateChecked s m).weigher = s.weigher := by
  obtain ⟨slate, h⟩ := gateChecked_eq (s := s) (m := m)
  rw [h]

theorem now_gateChecked : (gateChecked s m).now = s.now := by
  obtain ⟨slate, h⟩ := gateChecked_eq (s := s) (m := m)
  rw [h]

theorem station_gateChecked (st : Fin 6) : (gateChecked s m).station st = s.station st := by
  obtain ⟨slate, h⟩ := gateChecked_eq (s := s) (m := m)
  rw [h]
  rfl

theorem weighWork_eq : s.weighWork m =
    if s.weigher.lastCounter = some m.counter then gateChecked s m else (gateChecked s m).newWeighSample m := by
  unfold State.weighWork gateChecked
  rw [placeGate_eq]

/-- The part with the charging station marked SLOW_SAMPLES when the sample came late (R111). -/
def marked (s : State) (m : WeighSample) : State :=
  if s.weigher.lateSample s.now then (gateChecked s m).markSlow else gateChecked s m

theorem weigher_marked : (marked s m).weigher = s.weigher := by
  unfold marked State.markSlow
  rw [weigher_gateChecked]
  split
  · split
    · exact weigher_gateChecked
    · exact weigher_gateChecked
  · exact weigher_gateChecked

theorem now_marked : (marked s m).now = s.now := by
  unfold marked State.markSlow
  split
  · split
    · exact now_gateChecked
    · exact now_gateChecked
  · exact now_gateChecked

theorem marked_of_no_weigh (h : s.weigher.state.inWeigh = false) : marked s m = gateChecked s m := by
  unfold marked Weigher.lateSample
  rw [h]
  rfl

theorem marked_of_weigh {st : Fin 6} {c : Context} (h : s.weigher.state.inWeigh = true) (hg : s.weigher.granted = some st)
    (hc : s.ctx? st = some c) : marked s m = withStation (gateChecked s m) st { s.station st with ctx := some (slowed s c) } := by
  have hcg : (gateChecked s m).ctx? st = some c := by
    unfold State.ctx?
    rw [station_gateChecked]
    exact hc
  have hlate : s.weigher.lateSample s.now =
      s.weigher.lastTime.any fun t => decide (2 * s.weigher.settings.sampleInterval < (s.now - t).toNat) := by
    unfold Weigher.lateSample
    rw [h, Bool.true_and]
    rfl
  unfold marked State.markSlow slowed
  rw [weigher_gateChecked, hg, hlate]
  dsimp only
  rw [modCtx_of_ctx _ _ hcg, station_gateChecked]
  cases s.weigher.lastTime.any fun t => decide (2 * s.weigher.settings.sampleInterval < (s.now - t).toNat) with
  | true => rw [if_pos rfl, Bool.or_true]
  | false =>
    have hself : { s.station st with ctx := some c } = (gateChecked s m).station st := by
      rw [station_gateChecked, ← show (s.station st).ctx = some c from hc]
    rw [if_neg Bool.false_ne_true, Bool.or_false, hself, withStation_self]

theorem note_marked : (marked s m).modWeigher (·.note m s.now) = { marked s m with weigher := sampled s.weigher m s.now } := by
  unfold State.modWeigher
  dsimp only
  rw [note_eq, weigher_marked]

theorem newWeighSample_of_fault {c : WeigherCause} (h : sampleCause s.weigher.settings m = some c) :
    (gateChecked s m).newWeighSample m = ((marked s m).modWeigher (·.note m s.now)).takeWeigherCause c s.now := by
  unfold State.newWeighSample marked
  rw [weigher_gateChecked, now_gateChecked]
  dsimp only
  rw [h]

theorem newWeighSample_of_fed (h : sampleCause s.weigher.settings m = none) : (gateChecked s m).newWeighSample m =
    let net := grossOf s.weigher.settings m.raw - s.weigher.tare
    (((marked s m).modWeigher (·.note m s.now)).modWeigher (·.feed net)).actOnNet net := by
  unfold State.newWeighSample marked
  rw [weigher_gateChecked, now_gateChecked]
  dsimp only
  rw [h]

theorem sampleCause_of_ok (hok : m.status = .ok) (hcap : gross s.weigher.settings m ≤ s.weigher.settings.capacity) :
    sampleCause s.weigher.settings m = none := by
  unfold sampleCause
  rw [hok, grossOf_eq]
  exact if_neg (by omega)

theorem sampleCause_of_fault {c : WeigherCause} (h : m.status = .error ∧ c = WeigherCause.nodeError ∨
    (m.status = .overload ∨ m.status = .ok ∧ s.weigher.settings.capacity < gross s.weigher.settings m) ∧ c = WeigherCause.overload) :
    sampleCause s.weigher.settings m = some c := by
  unfold sampleCause
  obtain ⟨hm, rfl⟩ | ⟨hm | ⟨hm, hcap⟩, rfl⟩ := h
  · rw [hm]
  · rw [hm]
  · rw [hm, grossOf_eq]
    exact if_pos hcap

/-- A new OK sample within the capacity is noted and fed (R100 to R103). -/
theorem weighWork_fed (hnew : s.weigher.lastCounter ≠ some m.counter) (hok : m.status = .ok)
    (hcap : gross s.weigher.settings m ≤ s.weigher.settings.capacity) :
    let v := gross s.weigher.settings m - s.weigher.tare
    s.weighWork m = State.actOnNet { marked s m with weigher := fed (sampled s.weigher m s.now) v } v := by
  dsimp only
  rw [weighWork_eq, if_neg hnew, newWeighSample_of_fed (sampleCause_of_ok hok hcap), note_marked]
  dsimp only
  rw [grossOf_eq]
  unfold State.modWeigher
  dsimp only
  rw [feed_eq]

/-- A new sample that shows a fault cause is noted, and its cause taken (R101, R118). -/
theorem weighWork_fault (hnew : s.weigher.lastCounter ≠ some m.counter) {c : WeigherCause} (h : sampleCause s.weigher.settings m = some c) :
    s.weighWork m = State.takeWeigherCause { marked s m with weigher := sampled s.weigher m s.now } c s.now := by
  rw [weighWork_eq, if_neg hnew, newWeighSample_of_fault h, note_marked]

end Sample

end Sys2Proof.Claim
end

section
/-! PROOFS. The fault causes of a WEIGH-SAMPLE, by the state of the weigher (R118, R119), and a sample in IDLE (R105). -/

namespace Sys2Proof.Claim

open Sys2Proof.Machine

section Fault
variable {s : State} {c : WeigherCause} {time : Time}

theorem takeWeigherCause_of_running (h : s.weigher.state ≠ .fault) : s.takeWeigherCause c time = s.enterFault c time := if_neg h

theorem takeWeigherCause_same (h : s.weigher.state = .fault) (hcause : s.weigher.cause = c) : s.takeWeigherCause c time = s := by
  unfold State.takeWeigherCause
  rw [if_pos h, if_pos hcause]

/-- Another cause within FAULT replaces the old one (R119). -/
theorem takeWeigherCause_other (h : s.weigher.state = .fault) (hcause : s.weigher.cause ≠ c) : s.takeWeigherCause c time =
    State.raise { s with weigher := { s.weigher with cause := c } } .weigherFault none (put8 c.code ++ put8 WeigherState.fault.code) := by
  unfold State.takeWeigherCause State.raiseWeigherFault
  rw [if_pos h, if_neg hcause]
  exact congrArg _ (List.append_nil _)

/-- The part in FAULT from a state without a weigh (R118). -/
def faulted (s : State) (c : WeigherCause) : State :=
  State.raise { s with weigher := s.weigher.enterFault c } .weigherFault none (put8 c.code ++ put8 s.weigher.state.code)

theorem enterFault_of_idle (h : s.weigher.state = .idle ∨ s.weigher.state = .clearing) : s.enterFault c time = faulted s c := by
  have hweigh : ¬s.weigher.state.inWeigh = true := by obtain h | h := h <;> rw [h] <;> nofun
  have htaring : s.weigher.state ≠ .taring := by obtain h | h := h <;> rw [h] <;> nofun
  unfold State.enterFault State.raiseWeigherFault faulted
  dsimp only
  rw [if_neg hweigh, if_neg htaring]
  exact congrArg _ (List.append_nil _)

theorem buffer_raise (s : State) (k : NoticeKind) (key : Option (Fin 6)) (v : List Byte) : (s.raise k key v).port.buffer = s.port.buffer := by
  unfold State.raise
  split <;> rfl

/-- A TARE under way is answered STATE (R118). -/
theorem enterFault_of_taring (h : s.weigher.state = .taring) {src q : Byte} (hbuffer : s.port.buffer = .taring src q) :
    s.enterFault c time = { faulted s c with
      port := { (faulted s c).port with buffer := .answering (answerParts src q 9 .state []) false } } := by
  have hfaulted : (s.modWeigher (·.enterFault c)).raiseWeigherFault c s.weigher.state none = faulted s c := by
    unfold State.raiseWeigherFault faulted
    exact congrArg _ (List.append_nil _)
  have hb : (faulted s c).port.buffer = .taring src q := (buffer_raise _ _ _ _).trans hbuffer
  have hweigh : ¬s.weigher.state.inWeigh = true := by rw [h]; nofun
  unfold State.enterFault
  dsimp only
  rw [if_neg hweigh, if_pos h, hfaulted]
  unfold State.answerTare
  rw [hb]
  rfl

variable {st : Fin 6} {k : Context}

/-- The fault of a weigh before its station is back in the queue (R118). -/
def chargeFaulted (s : State) (st : Fin 6) (c : WeigherCause) (time : Time) : State :=
  ((((s.rejectCycle st c.reason s.weigher.vPrev time).modWeigher (·.enterFault c)).wantGate .divert).raiseWeigherFault c s.weigher.state
    (some st))

theorem enterFault_of_weigh (h : s.weigher.state.inWeigh = true) (hg : s.weigher.granted = some st) :
    s.enterFault c time = (chargeFaulted s st c time).enterCalling st true := by
  unfold State.enterFault chargeFaulted
  dsimp only
  rw [if_pos h, hg]

theorem weigher_chargeFaulted (hw : s.weigher.state ≠ .idle) (hk : s.ctx? st = some k) : (chargeFaulted s st c time).weigher =
    { s.weigher with state := .fault, cause := c, pieceWait := .stopped, settle := .stopped, clear := .stopped, absentRun := 0,
                     granted := none, wantedGate := .divert } := by
  obtain ⟨-, -, hweigher, -⟩ := s.rejectCycle_spec st k c.reason s.weigher.vPrev time hw hk
  unfold chargeFaulted State.raiseWeigherFault
  rw [State.weigher_raise, State.weigher_wantGate, State.modWeigher_weigher, hweigher]
  rfl

/-- What is written after the record of a fault's reject. -/
theorem afterReject_chargeFaulted (hw : s.weigher.state ≠ .idle) (hk : s.ctx? st = some k) :
    AfterReject s (s.rejectCycle st c.reason s.weigher.vPrev time) (chargeFaulted s st c time) st := by
  have hweigher := weigher_chargeFaulted (c := c) (time := time) hw hk
  refine ⟨?_, ?_, ?_, ?_, ?_, ?_, ?_, ?_, ?_, ?_⟩
  · unfold chargeFaulted State.raiseWeigherFault
    rw [State.station_raise, State.station_wantGate, State.station_modWeigher]
  · unfold chargeFaulted State.raiseWeigherFault
    rw [State.arbiter_raise, State.arbiter_wantGate, State.modWeigher_arbiter]
  · unfold chargeFaulted State.raiseWeigherFault
    rw [State.store_raise, State.store_wantGate, State.modWeigher_store]
  · unfold chargeFaulted State.raiseWeigherFault
    rw [notices_raise_of_ne fun e => NoticeKind.noConfusion (noticeSlot_injective e).1]
    exact State.notices_of_side ((State.side_wantGate _ _).trans (State.side_modWeigher _ _)) rfl _
  · rw [hweigher]; nofun
  all_goals rw [hweigher]

/-- WEIGHER_FAULT of a weigh, with its station (R118). -/
theorem told_chargeFaulted (hmask : s.port.mask[(5 : Fin 11)] = true) : ∃ f,
    (chargeFaulted s st c time).port.notices[noticeSlot .weigherFault none] = some f ∧ f.time = s.now ∧
      f.values = put8 c.code ++ put8 s.weigher.state.code ++ put8 st.val := by
  have hside : (((s.rejectCycle st c.reason s.weigher.vPrev time).modWeigher (·.enterFault c)).wantGate .divert).line = s.line := by
    rw [State.line_wantGate, State.line_modWeigher, State.line_rejectCycle]
  unfold chargeFaulted State.raiseWeigherFault
  rw [notices_raise_self (by rw [State.mask_of_line hside]; exact hmask)]
  exact ⟨_, rfl, State.now_of_line hside, rfl⟩

/-- A fault cause in a weigh (R118). -/
theorem enterFault_weigh (h : s.weigher.state.inWeigh = true) (hw : s.weigher.state ≠ .idle) (hg : s.weigher.granted = some st)
    (hk : s.ctx? st = some k) : let t := s.enterFault c time
    Rejected s t st k c.reason s.weigher.vPrev s.weigher.pieces time ∧
    t.weigher = { s.weigher with state := .fault, cause := c, pieceWait := .stopped, settle := .stopped, clear := .stopped, absentRun := 0,
                                 granted := none, wantedGate := .divert } ∧
    (s.port.mask[(5 : Fin 11)] = true → ∃ f, t.port.notices[noticeSlot .weigherFault none] = some f ∧ f.time = s.now ∧
      f.values = put8 c.code ++ put8 s.weigher.state.code ++ put8 st.val) := by
  have hafter := afterReject_chargeFaulted (c := c) (time := time) hw hk
  dsimp only
  rw [enterFault_of_weigh h hg]
  refine ⟨rejected_enterCalling hw hk hafter, ?_, fun hmask => ?_⟩
  · rw [weigher_calledFirst hafter.busy, weigher_chargeFaulted hw hk]
  · have hnotices : ((chargeFaulted s st c time).enterCalling st true).port.notices = (chargeFaulted s st c time).port.notices := by
      rw [State.enterCalling_of_not_idle _ _ _ hafter.busy]
      exact notices_setState _ _
    rw [hnotices]
    exact told_chargeFaulted hmask

end Fault

/-- What `Rejected` says, over a base with the same calls, tare, count of records and pending notices. -/
theorem Rejected.of_base {s n t : State} {st : Fin 6} {k : Context} {reason : RejectReason} {total : Int} {pieces : List Int} {time : Time}
    (hside : n.side = s.side) (hqueue : n.arbiter.queue = s.arbiter.queue) (htare : n.weigher.tare = s.weigher.tare)
    (hnext : n.store.next = s.store.next) (h : Rejected n t st k reason total pieces time) : Rejected s t st k reason total pieces time := by
  obtain ⟨h1, h2, h3, h4, h5, h6, h7, h8, h9, h10, h11, h12, h13⟩ := h
  exact ⟨h1, h2, h3, by rw [h4, hqueue], h5, h6, h7, h8, h9, by rw [h10, htare], by rw [h11, hnext], h12,
    h13.of_base (State.line_of_side hside) (State.notices_of_side hside rfl _)⟩

section Sample
variable {s : State} {m : WeighSample}

theorem side_gateChecked : (gateChecked s m).side = s.side := by
  unfold gateChecked
  split
  · rfl
  · rw [← placeGate_eq, State.side_placeGate]

/-- The part outside a weigh with a sample noted (R100). -/
def sampleNoted (s : State) (m : WeighSample) : State := { gateChecked s m with weigher := sampled s.weigher m s.now }

/-- A sample with a fault cause, outside a weigh (R118, R119). -/
theorem fault_outside_weigh {c : WeigherCause} (hnew : s.weigher.lastCounter ≠ some m.counter) (hcause : sampleCause s.weigher.settings m = some c) :
    let w := s.weigher
    let u := gateChecked s m
    let x := sampled w m s.now
    let t := s.weighWork m
    let told : State := State.raise { u with weigher := { x with
      state := .fault, cause := c, pieceWait := .stopped, settle := .stopped, clear := .stopped, absentRun := 0 } }
      .weigherFault none (put8 c.code ++ put8 w.state.code)
    (w.state = .idle ∨ w.state = .clearing → t = told) ∧
    (∀ src q, w.state = .taring → s.port.buffer = .taring src q →
      t = { told with port := { told.port with buffer := .answering (answerParts src q 9 .state []) false } }) ∧
    (w.state = .fault → w.cause = c → t = { u with weigher := x }) ∧
    (w.state = .fault → w.cause ≠ c →
      t = State.raise { u with weigher := { x with cause := c } } .weigherFault none (put8 c.code ++ put8 w.state.code)) := by
  have hbuffer : (gateChecked s m).port.buffer = s.port.buffer := by
    obtain ⟨slate, h⟩ := gateChecked_eq (s := s) (m := m)
    rw [h]
  have hwork (h : s.weigher.state.inWeigh = false) : s.weighWork m = (sampleNoted s m).takeWeigherCause c s.now := by
    rw [weighWork_fault hnew hcause, marked_of_no_weigh h]
    rfl
  have hstate : (sampleNoted s m).weigher.state = s.weigher.state := rfl
  dsimp only
  refine ⟨fun h => ?_, fun src q h hb => ?_, fun h hc => ?_, fun h hc => ?_⟩
  · rw [hwork (by obtain h | h := h <;> rw [h] <;> rfl), takeWeigherCause_of_running (by rw [hstate]; obtain h | h := h <;> rw [h] <;> nofun),
      enterFault_of_idle (by rw [hstate]; exact h)]
    rfl
  · rw [hwork (by rw [h]; rfl), takeWeigherCause_of_running (by rw [hstate, h]; nofun),
      enterFault_of_taring (by rw [hstate, h]) (show (sampleNoted s m).port.buffer = _ from hbuffer.trans hb)]
    rfl
  · rw [hwork (by rw [h]; rfl), takeWeigherCause_same (by rw [hstate, h]) (show (sampleNoted s m).weigher.cause = c from hc)]
    rfl
  · rw [hwork (by rw [h]; rfl), takeWeigherCause_other (by rw [hstate, h]) (show (sampleNoted s m).weigher.cause ≠ c from hc), h]
    rfl

/-- A sample with a fault cause, in a weigh: the charge is rejected (R118). -/
theorem fault_in_weigh {c : WeigherCause} {st : Fin 6} {k : Context} (hnew : s.weigher.lastCounter ≠ some m.counter)
    (hcause : sampleCause s.weigher.settings m = some c)
    (hstate : s.weigher.state = .armed ∨ s.weigher.state = .settling ∨ s.weigher.state = .stable) (hg : s.weigher.granted = some st)
    (hk : s.ctx? st = some k) :
    let w := s.weigher
    let x := sampled w m s.now
    let t := s.weighWork m
    Rejected s t st (slowed s k) c.reason w.vPrev w.pieces s.now ∧
    t.weigher = { x with state := .fault, cause := c, pieceWait := .stopped, settle := .stopped, clear := .stopped, absentRun := 0,
                         granted := none, wantedGate := .divert } ∧
    (s.port.mask[(5 : Fin 11)] = true → ∃ f, t.port.notices[noticeSlot .weigherFault none] = some f ∧ f.time = s.now ∧
      f.values = put8 c.code ++ put8 w.state.code ++ put8 st.val) := by
  have hweigh : s.weigher.state.inWeigh = true := by obtain h | h | h := hstate <;> rw [h] <;> rfl
  have hrunning : s.weigher.state ≠ .fault := by obtain h | h | h := hstate <;> rw [h] <;> nofun
  have hbusy : s.weigher.state ≠ .idle := by obtain h | h | h := hstate <;> rw [h] <;> nofun
  dsimp only
  rw [weighWork_fault hnew hcause, marked_of_weigh hweigh hg hk,
    takeWeigherCause_of_running (s := { withStation (gateChecked s m) st { s.station st with ctx := some (slowed s k) } with
      weigher := sampled s.weigher m s.now }) hrunning]
  obtain ⟨slate, hgate⟩ := gateChecked_eq (s := s) (m := m)
  have hside := side_gateChecked (s := s) (m := m)
  rw [hgate] at hside ⊢
  obtain ⟨hrejected, hweigher, htold⟩ := enterFault_weigh (c := c) (time := s.now) (k := slowed s k)
    (s := { withStation { s with port := { s.port with slate := slate } } st { s.station st with ctx := some (slowed s k) } with
      weigher := sampled s.weigher m s.now }) hweigh hbusy hg (ctx?_withStation _ _ _)
  exact ⟨hrejected.of_base hside rfl rfl rfl, hweigher, htold⟩

/-- A sample in IDLE (R105). -/
theorem weighWork_idle (hnew : s.weigher.lastCounter ≠ some m.counter) (hidle : s.weigher.state = .idle) (hok : m.status = .ok)
    (hcap : gross s.weigher.settings m ≤ s.weigher.settings.capacity) :
    let w := s.weigher
    let u := gateChecked s m
    let t := s.weighWork m
    let y := fed (sampled w m s.now) (gross w.settings m - w.tare)
    (y.presence = .absent → t = { u with weigher := y }) ∧
    (y.presence = .present → t = wanting { u with weigher := { y with
      state := .clearing, absentRun := 0, clear := .running s.now w.settings.clearTimeout } } .divert) := by
  dsimp only
  have hact (t : State) (ht : t.weigher.state = .idle) (v : Int) :
      t.actOnNet v = if t.weigher.presence = .present then t.enterClearing .divert else t := by
    unfold State.actOnNet
    dsimp only
    rw [ht]
  rw [weighWork_fed hnew hok hcap, marked_of_no_weigh (by rw [hidle]; rfl),
    hact { gateChecked s m with weigher := fed (sampled s.weigher m s.now) (gross s.weigher.settings m - s.weigher.tare) } hidle]
  refine ⟨fun h => if_neg ?_, fun h => ?_⟩
  · rw [h]
    nofun
  · rw [if_pos h, enterClearing_eq, ← now_gateChecked (s := s) (m := m)]
    rfl

end Sample

/-- Settles O35. -/
theorem weighSampleIsFed : Obligations.WeighSampleIsFed := by
  intro s m w u x t
  refine ⟨fun hdup => ?_, fun hnew hidle hok hcap => weighWork_idle hnew hidle hok hcap, fun c hnew hcause => ?_⟩
  · show s.weighWork m = _
    rw [weighWork_eq, if_pos hdup]
  · have hsample := sampleCause_of_fault hcause
    obtain ⟨h1, h2, h3, h4⟩ := fault_outside_weigh hnew hsample
    refine ⟨h1, h2, h3, h4, fun st k hstate hg hk _ => ?_⟩
    have hreason : c.reason = if c = .overload then .overload else .nodeError := by
      obtain ⟨-, rfl⟩ | ⟨-, rfl⟩ := hcause <;> rfl
    rw [← hreason]
    exact fault_in_weigh hnew hsample hstate hg hk

end Sys2Proof.Claim
end

section
/-! PROOFS. What a fed sample does, by the state of the weigher (R106 to R117). -/

namespace Sys2Proof.Claim

open Sys2Proof.Machine

/-! ### The stability window -/

theorem windowValue_eq (l : List Int) : windowValue l = if l.length = 8 then some (l.sum.fdiv 8) else none := by
  unfold windowValue
  rw [fdiv_of_pos _ (by decide)]

theorem stableValue_eq_some_iff (w : Weigher) (v : Int) : stableValue w.settings.band w.window = some v ↔ StableAt w v := by
  have hspread {a b : Int} (ha : w.window.max? = some a) (hb : w.window.min? = some b) :
      a - b ≤ w.settings.band ↔ ∀ x ∈ w.window, ∀ y ∈ w.window, x - y ≤ w.settings.band := by
    obtain ⟨hamem, hamax⟩ := List.max?_eq_some_iff.mp ha
    obtain ⟨hbmem, hbmin⟩ := List.min?_eq_some_iff.mp hb
    constructor
    · intro h x hx y hy
      have := hamax x hx
      have := hbmin y hy
      omega
    · exact fun h => h a hamem b hbmem
  unfold stableValue StableAt
  rw [windowValue_eq]
  by_cases hlen : w.window.length = 8
  · have hne : w.window ≠ [] := by rintro h; rw [h] at hlen; exact absurd hlen (by decide)
    obtain ⟨a, ha⟩ := Option.isSome_iff_exists.mp (List.isSome_max?_of_ne_nil hne)
    obtain ⟨b, hb⟩ := Option.isSome_iff_exists.mp (List.isSome_min?_of_ne_nil hne)
    rw [if_pos hlen, ha, hb]
    simp only [hspread ha hb, hlen, true_and]
    split
    · next h => exact ⟨fun e => ⟨(Option.some.inj e).symm, h⟩, fun ⟨e, _⟩ => by rw [e]⟩
    · next h => exact ⟨nofun, fun ⟨_, h'⟩ => absurd h' h⟩
  · rw [if_neg hlen]
    exact ⟨nofun, fun ⟨h, _⟩ => absurd h hlen⟩

theorem stableValue_eq_none (w : Weigher) (h : ∀ a, ¬StableAt w a) : stableValue w.settings.band w.window = none :=
  Option.eq_none_iff_forall_ne_some.mpr fun a ha => h a ((stableValue_eq_some_iff w a).mp ha)

theorem addTare_eq (tare v : Int) : addTare tare v = max (-16777216) (min 16777215 (tare + v)) := by
  unfold addTare limit
  omega

/-! ### A settle and its end -/

section Settle
variable {s : State} {v : Int}

theorem actOnNet_weigh {n : Time} (hn : s.now = n) (h : s.weigher.state = .armed ∨ s.weigher.state = .stable) : let w := s.weigher
    (w.settings.pieceThreshold < v - w.vPrev ∨ w.settings.pieceThreshold < w.vPrev - v →
      s.actOnNet v = { s with weigher := { w with
        state := .settling, window := [v], settle := .running n w.settings.settleTimeout } }) ∧
    (v - w.vPrev ≤ w.settings.pieceThreshold → w.vPrev - v ≤ w.settings.pieceThreshold → s.actOnNet v = s) := by
  have hact : s.actOnNet v =
      if s.weigher.settings.pieceThreshold < v - s.weigher.vPrev ∨ s.weigher.settings.pieceThreshold < s.weigher.vPrev - v then
        s.startSettle v
      else s := by
    unfold State.actOnNet
    dsimp only
    obtain h | h := h <;> rw [h]
  subst hn
  dsimp only
  rw [hact]
  exact ⟨fun hfar => if_pos hfar, fun h1 h2 => if_neg (by omega)⟩

theorem actOnNet_settling (h : s.weigher.state = .settling) :
    ((∀ a, ¬StableAt s.weigher a) → s.actOnNet v = s) ∧ ∀ a, StableAt s.weigher a → s.actOnNet v = s.settleEnd a := by
  unfold State.actOnNet
  dsimp only
  rw [h]
  dsimp only
  refine ⟨fun hno => by rw [stableValue_eq_none _ hno], fun a ha => by rw [(stableValue_eq_some_iff _ a).mpr ha]⟩

theorem actOnNet_taring (h : s.weigher.state = .taring) : ((∀ a, ¬StableAt s.weigher a) → s.actOnNet v = s) ∧
    ∀ a, StableAt s.weigher a → s.actOnNet v =
      s.endTaring (max (-16777216) (min 16777215 (s.weigher.tare + a))) .done (putS32 (max (-16777216) (min 16777215 (s.weigher.tare + a)))) := by
  unfold State.actOnNet
  dsimp only
  rw [h]
  dsimp only
  refine ⟨fun hno => by rw [stableValue_eq_none _ hno], fun a ha => ?_⟩
  rw [(stableValue_eq_some_iff _ a).mpr ha, ← addTare_eq]

theorem actOnNet_clearing (h : s.weigher.state = .clearing) : s.actOnNet v = s.clearSample := by
  unfold State.actOnNet
  dsimp only
  rw [h]

theorem actOnNet_fault (h : s.weigher.state = .fault) : s.actOnNet v = s := by
  unfold State.actOnNet
  dsimp only
  rw [h]

variable {st : Fin 6} {c : Context}

theorem weighRecipe_eq (hg : s.weigher.granted = some st) (hc : s.ctx? st = some c) : s.weighRecipe = c.snapshot := by
  unfold State.weighRecipe
  rw [hg, Option.bind_some, hc]
  rfl

theorem decidePiece_rule (hg : s.weigher.granted = some st) (hc : s.ctx? st = some c) (hw : s.weigher.state ≠ .idle) (a : Int) :
    (decideCharge c.snapshot a s.weigher.pieces.length = .wait → s.decidePiece a = s) ∧
    (decideCharge c.snapshot a s.weigher.pieces.length = .accept → s.decidePiece a = s.acceptCharge a) ∧
    (decideCharge c.snapshot a s.weigher.pieces.length = .over →
      Rejected s (s.decidePiece a) st c .over a s.weigher.pieces s.now ∧ (s.decidePiece a).weigher.state = .clearing) ∧
    (decideCharge c.snapshot a s.weigher.pieces.length = .under →
      Rejected s (s.decidePiece a) st c .under a s.weigher.pieces s.now ∧ (s.decidePiece a).weigher.state = .clearing) := by
  unfold State.decidePiece
  rw [weighRecipe_eq hg hc]
  refine ⟨fun h => by rw [h], fun h => by rw [h], fun h => ?_, fun h => ?_⟩
  · rw [h]
    exact rejected_rejectCharge hg hw hc
  · rw [h]
    exact rejected_rejectCharge hg hw hc

/-- The part with a piece counted in (R107). -/
def withPiece (s : State) (c : Context) (a : Int) : State :=
  { s with weigher := { s.weigher with
    pieces := s.weigher.pieces ++ [a - s.weigher.vPrev], vPrev := a, pieceWait := .running s.now c.snapshot.pieceWait, settle := .stopped,
    state := .stable } }

theorem settleEnd_piece (hg : s.weigher.granted = some st) (hc : s.ctx? st = some c) {a : Int}
    (h : s.weigher.settings.minPiece ≤ a - s.weigher.vPrev) : s.settleEnd a = (withPiece s c a).decidePiece a := by
  unfold State.settleEnd
  dsimp only
  rw [if_pos h, weighRecipe_eq hg hc]
  rfl

theorem settleEnd_disturbed (hg : s.weigher.granted = some st) (hc : s.ctx? st = some c) (hw : s.weigher.state ≠ .idle) {a : Int}
    (h : a - s.weigher.vPrev < s.weigher.settings.minPiece) (hd : a - s.weigher.vPrev ≤ -s.weigher.settings.pieceThreshold) :
    Rejected s (s.settleEnd a) st c .disturbed a s.weigher.pieces s.now ∧ (s.settleEnd a).weigher.state = .clearing := by
  have hend : s.settleEnd a = State.rejectCharge { s with weigher := { s.weigher with settle := .stopped } } .disturbed a s.now := by
    unfold State.settleEnd
    dsimp only
    rw [if_neg (by omega), if_pos hd]
    rfl
  obtain ⟨hrejected, hclearing⟩ := rejected_rejectCharge (reason := .disturbed) (total := a) (time := s.now)
    (s := { s with weigher := { s.weigher with settle := .stopped } }) hg hw hc
  rw [hend]
  exact ⟨hrejected.of_base rfl rfl rfl rfl, hclearing⟩

theorem settleEnd_none (hg : s.weigher.granted = some st) (hc : s.ctx? st = some c) {a : Int}
    (h : a - s.weigher.vPrev < s.weigher.settings.minPiece) (hd : -s.weigher.settings.pieceThreshold < a - s.weigher.vPrev) :
    (s.weigher.pieceWait ≠ .expiredInSettling →
      s.settleEnd a = { s with weigher := { s.weigher with vPrev := a, settle := .stopped, state := .stable } }) ∧
    (s.weigher.pieceWait = .expiredInSettling →
      Rejected s (s.settleEnd a) st c (if s.weigher.pieces = [] then .noCharge else .under) a s.weigher.pieces s.now ∧
        (s.settleEnd a).weigher.state = .clearing) := by
  refine ⟨fun hw => settleEnd_of_no_piece h hd hw, fun hw => ?_⟩
  have hend : s.settleEnd a =
      State.rejectWaited { s with weigher := { s.weigher with vPrev := a, settle := .stopped, state := .stable } } s.now := by
    unfold State.settleEnd
    dsimp only
    rw [if_neg (by omega), if_neg (by omega), if_pos hw]
    rfl
  obtain ⟨hrejected, hclearing⟩ := rejected_rejectCharge
    (reason := if s.weigher.pieces = [] then .noCharge else .under) (total := a) (time := s.now)
    (s := { s with weigher := { s.weigher with vPrev := a, settle := .stopped, state := .stable } }) hg nofun hc
  rw [hend, rejectWaited_eq]
  exact ⟨hrejected.of_base rfl rfl rfl rfl, hclearing⟩

/-- The end of a settle on a stable value (R107, R110). -/
theorem settled_rule {n : Time} (hn : s.now = n) (hg : s.weigher.granted = some st) (hc : s.ctx? st = some c) (hw : s.weigher.state ≠ .idle) (a : Int) :
    let w := s.weigher
    let d := a - w.vPrev
    let t := s.settleEnd a
    (w.settings.minPiece ≤ d →
      let piece : State := { s with weigher := { w with
        pieces := w.pieces ++ [d], vPrev := a, pieceWait := .running n c.snapshot.pieceWait, settle := .stopped, state := .stable } }
      (decideCharge c.snapshot a (w.pieces.length + 1) = .wait → t = piece) ∧
      (decideCharge c.snapshot a (w.pieces.length + 1) = .accept → t = piece.acceptCharge a) ∧
      (decideCharge c.snapshot a (w.pieces.length + 1) = .over →
        Rejected piece t st c .over a (w.pieces ++ [d]) n ∧ t.weigher.state = .clearing) ∧
      (decideCharge c.snapshot a (w.pieces.length + 1) = .under →
        Rejected piece t st c .under a (w.pieces ++ [d]) n ∧ t.weigher.state = .clearing)) ∧
    (d < w.settings.minPiece → d ≤ -w.settings.pieceThreshold →
      Rejected s t st c .disturbed a w.pieces n ∧ t.weigher.state = .clearing) ∧
    (d < w.settings.minPiece → -w.settings.pieceThreshold < d →
      (w.pieceWait ≠ .expiredInSettling →
        t = { s with weigher := { w with vPrev := a, settle := .stopped, state := .stable } }) ∧
      (w.pieceWait = .expiredInSettling →
        Rejected s t st c (if w.pieces = [] then .noCharge else .under) a w.pieces n ∧ t.weigher.state = .clearing)) := by
  subst hn
  refine ⟨fun h => ?_, settleEnd_disturbed hg hc hw, settleEnd_none hg hc⟩
  have hlength : (withPiece s c a).weigher.pieces.length = s.weigher.pieces.length + 1 := List.length_append
  have hdecided := decidePiece_rule (s := withPiece s c a) hg hc nofun a
  rw [hlength, ← settleEnd_piece hg hc h] at hdecided
  exact hdecided

end Settle

/-! ### Clearing -/

section Clear
variable {s : State}

/-- The absent run after a sample (R115). -/
def nextRun (w : Weigher) : Nat := if w.presence = .absent then min 255 (w.absentRun + 1) else 0

/-- The tare once the tray has emptied (R115). -/
def clearedTare (w : Weigher) (run : Nat) : Int :=
  let value := w.window.sum.fdiv 8
  if w.window.length = 8 ∧ 8 ≤ run ∧ -w.settings.zeroTrack ≤ value ∧ value ≤ w.settings.zeroTrack then
    max (-16777216) (min 16777215 (w.tare + value))
  else w.tare

theorem trackedTare_eq (w : Weigher) : w.trackedTare = clearedTare w w.absentRun := by
  unfold Weigher.trackedTare clearedTare
  rw [windowValue_eq]
  by_cases h : w.window.length = 8
  · simp only [h, if_true, true_and, addTare_eq]
  · simp only [h, if_false, false_and]

/-- The gate is wanted whatever the state of the unit. -/
theorem wanting_then_idle (g : Gate) : (wanting s g).modWeigher (fun w => { w with state := .idle }) =
    wanting { s with weigher := { s.weigher with state := .idle } } g := by
  unfold wanting withGate
  dsimp only
  split
  · rfl
  · show State.modWeigher ((s.nodeOf .weigher 255).elim _ _) _ = (s.nodeOf .weigher 255).elim _ _
    cases s.nodeOf .weigher 255 <;> rfl

theorem clearSample_rule : let w := s.weigher
    (nextRun w < w.settings.runOn → s.clearSample = { s with weigher := { w with absentRun := nextRun w } }) ∧
    (w.settings.runOn ≤ nextRun w → s.clearSample = State.consider (wanting { s with weigher := { w with
      absentRun := nextRun w, tare := clearedTare w (nextRun w), clear := .stopped, state := .idle } } .neutral)) := by
  have hmod : (s.modWeigher fun w => { w with absentRun := if w.presence = .absent then satAdd 255 w.absentRun 1 else 0 }) =
      { s with weigher := { s.weigher with absentRun := nextRun s.weigher } } := rfl
  unfold State.clearSample
  dsimp only
  rw [hmod]
  refine ⟨fun h => if_neg (Nat.not_le.mpr h), fun h => ?_⟩
  rw [if_pos h]
  unfold State.finishClear
  rw [wantGate_eq, wanting_then_idle]
  unfold State.modWeigher
  dsimp only
  rw [trackedTare_eq]
  rfl

end Clear

/-! ### The sample -/

section Sample
variable {s : State} {m : WeighSample}

/-- The part in a weigh of this station with a sample noted and fed (R102, R111). -/
def weighFed (s : State) (m : WeighSample) (st : Fin 6) (c : Context) : State :=
  { withStation (gateChecked s m) st { s.station st with ctx := some (slowed s c) } with
    weigher := fed (sampled s.weigher m s.now) (gross s.weigher.settings m - s.weigher.tare) }

theorem weighWork_weigh {st : Fin 6} {c : Context} (hnew : s.weigher.lastCounter ≠ some m.counter) (hok : m.status = .ok)
    (hcap : gross s.weigher.settings m ≤ s.weigher.settings.capacity) (hg : s.weigher.granted = some st) (hc : s.ctx? st = some c)
    (h : s.weigher.state.inWeigh = true) : s.weighWork m = (weighFed s m st c).actOnNet (gross s.weigher.settings m - s.weigher.tare) := by
  rw [weighWork_fed hnew hok hcap, marked_of_weigh h hg hc]
  rfl

theorem weighWork_other (hnew : s.weigher.lastCounter ≠ some m.counter) (hok : m.status = .ok)
    (hcap : gross s.weigher.settings m ≤ s.weigher.settings.capacity) (h : s.weigher.state.inWeigh = false) :
    let v := gross s.weigher.settings m - s.weigher.tare
    s.weighWork m = State.actOnNet { gateChecked s m with weigher := fed (sampled s.weigher m s.now) v } v := by
  dsimp only
  rw [weighWork_fed hnew hok hcap, marked_of_no_weigh h]

theorem ctx?_weighFed {st : Fin 6} {c : Context} : (weighFed s m st c).ctx? st = some (slowed s c) := ctx?_withStation _ _ _

end Sample

/-- Settles O36. -/
theorem weighSampleByState : Obligations.WeighSampleByState := by
  intro s m w v y t hnew hok hcap
  have hbuffer : (gateChecked s m).port.buffer = s.port.buffer := by
    obtain ⟨slate, h⟩ := gateChecked_eq (s := s) (m := m)
    rw [h]
  refine ⟨fun st c hg hc _ => ⟨fun h => ?_, fun h hno => ?_, fun a h ha => ?_⟩, fun h => ?_, fun src q h hb => ?_, fun h => ?_⟩
  · have ht : t = (weighFed s m st c).actOnNet v := weighWork_weigh hnew hok hcap hg hc (by obtain h | h := h <;> rw [h] <;> rfl)
    rw [ht]
    exact actOnNet_weigh (s := weighFed s m st c) now_gateChecked h
  · have ht : t = (weighFed s m st c).actOnNet v := weighWork_weigh hnew hok hcap hg hc (by rw [h]; rfl)
    rw [ht]
    exact (actOnNet_settling (s := weighFed s m st c) h).1 hno
  · have ht : t = (weighFed s m st c).settleEnd a := by
      rw [← (actOnNet_settling (s := weighFed s m st c) (v := v) h).2 a ha]
      exact weighWork_weigh hnew hok hcap hg hc (by rw [h]; rfl)
    rw [ht]
    exact settled_rule (s := weighFed s m st c) now_gateChecked hg ctx?_weighFed (show w.state ≠ .idle by rw [h]; nofun) a
  · obtain ⟨hrun, hclear⟩ := clearSample_rule (s := { gateChecked s m with weigher := y })
    have ht : t = State.clearSample { gateChecked s m with weigher := y } :=
      (weighWork_other hnew hok hcap (by rw [h]; rfl)).trans (actOnNet_clearing h)
    rw [ht]
    exact ⟨hrun, hclear⟩
  · have ht : t = State.actOnNet { gateChecked s m with weigher := y } v := weighWork_other hnew hok hcap (by rw [h]; rfl)
    obtain ⟨hno, hend⟩ := actOnNet_taring (s := { gateChecked s m with weigher := y }) (v := v) h
    rw [ht]
    refine ⟨hno, fun a ha => ?_⟩
    rw [hend a ha, endTaring_eq (show ({ gateChecked s m with weigher := y } : State).port.buffer = _ from hbuffer.trans hb)]
    rfl
  · exact (weighWork_other hnew hok hcap (by rw [h]; rfl)).trans (actOnNet_fault h)

end Sys2Proof.Claim
end

section
/-! PROOFS. The arbiter's test (R126, R127): when it grants, what a grant creates, and what a missing recipe does. -/

namespace Sys2Proof.Claim

open Sys2Proof.Machine

section Grant
variable (s : State) (st : Fin 6)

/-- The part with the reservation of a grant taken (R155). -/
def reservedFor (s : State) : State := if s.store.settings.policy = .hold then s.reserve else s

/-- A reservation changes the port and the store's reckoning alone. -/
theorem reservedFor_eq : ∃ p b, reservedFor s = { s with port := p, store := { s.store with
    reservations := s.store.reservations + (if s.store.settings.policy = .hold then 1 else 0), storeLowArmed := b } } := by
  unfold reservedFor State.reserve
  by_cases h : s.store.settings.policy = .hold
  · obtain ⟨p, b, hlow⟩ := (s.modStore fun x => { x with reservations := x.reservations + 1 }).testLow_eq
    rw [if_pos h, hlow]
    simp only [h, if_true]
    exact ⟨p, b, rfl⟩
  · rw [if_neg h]
    simp only [h, if_false]
    exact ⟨s.port, s.store.storeLowArmed, rfl⟩

/-- The context a grant gives a station (R5). -/
def grantContext (s : State) (st : Fin 6) : Context :=
  newContext ((s.station st).cycleNumber + 1) (s.station st).boundRecipe s.recipes[(s.station st).boundRecipe] s.now
    (if s.store.settings.policy = .hold then .held else .none)

/-- The station of a grant, its groups apart. -/
def grantedStation (s : State) (st : Fin 6) : Station :=
  { s.station st with state := .charging, cycleNumber := (s.station st).cycleNumber + 1, holdCount := 0, ctx := some (grantContext s st) }

/-- The part before its groups are resolved and its weigher is armed: the calls and the station written. -/
def grantCalls (s : State) (st : Fin 6) : State :=
  { reservedFor s with arbiter := { queue := s.arbiter.queue.filter (· ≠ st), granted := some st } }

theorem grant_eq : s.grant st = (((((grantCalls s st).createContext st (if s.store.settings.policy = .hold then .held else .none)).setState st
    .charging).resolveAfresh st).armWeigher st) := by
  have hcalls : ({ (reservedFor s).removeCall st with arbiter := { ((reservedFor s).removeCall st).arbiter with granted := some st } } : State) =
      grantCalls s st := by
    obtain ⟨p, b, h⟩ := reservedFor_eq s
    unfold grantCalls State.removeCall
    rw [h]
  unfold State.grant
  rw [← hcalls]
  rfl

theorem createContext_eq (r : Reservation) : s.createContext st r = withStation s st { s.station st with
    cycleNumber := (s.station st).cycleNumber + 1, holdCount := 0,
    ctx := some (newContext ((s.station st).cycleNumber + 1) (s.station st).boundRecipe s.recipes[(s.station st).boundRecipe] s.now r) } := rfl

/-- The port, the store's reckoning and the arbiter are what is written. -/
theorem grantCalls_eq : ∃ p b, grantCalls s st = { s with
    port := p, store := { s.store with
      reservations := s.store.reservations + (if s.store.settings.policy = .hold then 1 else 0), storeLowArmed := b },
    arbiter := { queue := s.arbiter.queue.filter (· ≠ st), granted := some st } } := by
  obtain ⟨p, b, h⟩ := reservedFor_eq s
  refine ⟨p, b, ?_⟩
  unfold grantCalls
  rw [h]

theorem created_grantCalls (r : Reservation) : (grantCalls s st).createContext st r = withStation (grantCalls s st) st { s.station st with
    cycleNumber := (s.station st).cycleNumber + 1, holdCount := 0,
    ctx := some (newContext ((s.station st).cycleNumber + 1) (s.station st).boundRecipe s.recipes[(s.station st).boundRecipe] s.now r) } := by
  obtain ⟨p, b, h⟩ := grantCalls_eq s st
  rw [h]
  rfl

/-- The station of a grant, from any state. -/
theorem station_grant_self : ∃ groups, (s.grant st).station st = { grantedStation s st with groups := groups } := by
  rw [grant_eq, created_grantCalls, State.station_of_beside (State.beside_armWeigher _ _), State.station_resolveAfresh_self,
    State.station_setState_self, station_withStation]
  exact ⟨_, rfl⟩

theorem station_grant_of_ne {sx : Fin 6} (h : sx ≠ st) : (s.grant st).station sx = s.station sx := State.station_of_beside (State.beside_grant s h)

theorem weigher_grant : (s.grant st).weigher = { s.weigher with
    state := .armed, vPrev := 0, pieces := [], granted := some st, wantedGate := .neutral, settle := .stopped, clear := .stopped,
    pieceWait := .running s.now (grantContext s st).snapshot.pieceWait } := by
  obtain ⟨groups, hstation⟩ := station_grant_self s st
  have hctx (t : State) (h : (t.armWeigher st).station st = (s.grant st).station st) : t.ctx? st = some (grantContext s st) := by
    rw [State.station_of_beside (State.beside_armWeigher _ _), hstation] at h
    unfold State.ctx?
    rw [h]
    rfl
  have harm (t : State) (hc : t.ctx? st = some (grantContext s st)) : (t.armWeigher st).weigher = { t.weigher with
      state := .armed, vPrev := 0, pieces := [], granted := some st, wantedGate := .neutral, settle := .stopped, clear := .stopped,
      pieceWait := .running t.now (grantContext s st).snapshot.pieceWait } := by
    unfold State.armWeigher
    rw [State.weigher_wantGate, State.modWeigher_weigher, hc]
    rfl
  have hnow (t : State) : ((t.setState st .charging).resolveAfresh st).now = t.now :=
    State.now_of_line (by rw [State.line_resolveAfresh, State.line_setState])
  have hkeeps (x : Station) : (withStation (grantCalls s st) st x).weigher = s.weigher ∧ (withStation (grantCalls s st) st x).now = s.now := by
    obtain ⟨p, b, h⟩ := grantCalls_eq s st
    rw [h]
    exact ⟨rfl, rfl⟩
  rw [grant_eq] at hctx ⊢
  rw [harm _ (hctx _ rfl), State.weigher_resolveAfresh, State.weigher_setState, hnow, created_grantCalls, (hkeeps _).1, (hkeeps _).2]

theorem store_grant : ∃ b, (s.grant st).store = { s.store with
    reservations := s.store.reservations + (if s.store.settings.policy = .hold then 1 else 0), storeLowArmed := b } := by
  obtain ⟨p, b, h⟩ := grantCalls_eq s st
  refine ⟨b, ?_⟩
  rw [grant_eq, State.store_armWeigher, State.store_resolveAfresh, State.store_setState, State.store_createContext, h]

/-- The groups of a grant to a CALLING station (R34, R36). -/
theorem groups_grant (h : (s.station st).state = .calling) :
    ((s.grant st).station st).groups = ((resolved s st (grantedStation s st)).station st).groups := by
  have hset : (withStation (grantCalls s st) st { s.station st with
      cycleNumber := (s.station st).cycleNumber + 1, holdCount := 0, ctx := some (grantContext s st) }).setState st .charging = withStation (grantCalls s st) st (grantedStation s st) := by
    rw [setState_quiet _ _ (new := .charging) (by rw [station_withStation, h]; rfl) (Or.inl (by rw [station_withStation, h]; rfl)),
      station_withStation, withStation_withStation]
    rfl
  obtain ⟨p, b, hr⟩ := grantCalls_eq s st
  have hlive : (grantCalls s st).profilesLive = s.profilesLive := by rw [hr]
  have hrecipes : (grantCalls s st).recipes = s.recipes := by rw [hr]
  rw [grant_eq, created_grantCalls, State.station_of_beside (State.beside_armWeigher _ _),
    show newContext _ _ _ _ _ = grantContext s st from rfl, hset]
  exact groups_resolved_congr (n := grantCalls s st) (z := grantedStation s st) hlive hrecipes rfl rfl rfl rfl rfl

/-! ### The test -/

theorem canGrant_iff : s.canGrant = true ↔ s.arbiter.queue ≠ [] ∧ s.weigher.state = .idle ∧ s.mode = .run ∧
    (s.store.settings.policy = .overwrite ∨ 168 ≤ s.store.room) := by
  unfold State.canGrant
  simp only [Bool.and_eq_true, Bool.or_eq_true, Bool.not_eq_true', beq_iff_eq, List.isEmpty_eq_false_iff,
    decide_eq_true_eq, and_assoc]
  exact Iff.rfl

theorem consider_of_not_canGrant (h : ¬s.canGrant = true) : s.consider = s := by
  unfold State.consider
  cases s.arbiter.queue with
  | nil => rfl
  | cons a l => exact if_neg h

theorem recipeMissing_eq (h : (s.station st).state = .calling) : s.recipeMissing st =
    State.raise (announced { s with arbiter := { s.arbiter with queue := s.arbiter.queue.filter (· ≠ st) } } st
      { s.station st with state := .ready }) .recipeMissing (some st) (put8 (s.station st).boundRecipe.val) := by
  have hstate : ((s.removeCall st).station st).state = .calling := h
  unfold State.recipeMissing
  rw [setState_quiet _ st (new := .ready) (by rw [hstate]; rfl) (Or.inl (by rw [hstate]; rfl)), raiseStationState_withStation]
  rfl

end Grant

/-- Settles O37. -/
theorem grantCreatesContext : Obligations.GrantCreatesContext := by
  refine ⟨fun s h => consider_of_not_canGrant s fun hcan => ?_, fun s st rest hqueue hidle hrun hroom hcalling => ?_⟩
  · obtain ⟨hqueue, hidle, hrun, hroom⟩ := (canGrant_iff s).mp hcan
    obtain h | h | h | ⟨hp, hr⟩ := h
    · exact hqueue h
    · exact h hidle
    · exact h hrun
    · rw [hp] at hroom
      obtain h | h := hroom
      · exact nomatch h
      · omega
  · have hcan : s.canGrant = true := (canGrant_iff s).mpr ⟨by rw [hqueue]; nofun, hidle, hrun, hroom⟩
    refine ⟨fun hrecipe hrest => ?_, fun hrecipe => ?_⟩
    · have hfilter : s.arbiter.queue.filter (· ≠ st) = rest := by
        rw [hqueue, List.filter_cons_of_neg (by simp), List.filter_eq_self]
        exact fun a ha => decide_eq_true (ne_of_mem_of_not_mem ha hrest)
      have hmissing := recipeMissing_eq s st hcalling
      rw [hfilter] at hmissing
      have harbiter : (s.recipeMissing st).arbiter.queue = rest := by
        rw [arbiter_recipeMissing, hfilter]
      have ht : s.consider = State.considerFrom rest (s.recipeMissing st) := by
        unfold State.consider
        rw [hqueue, State.considerFrom, if_pos hcan, if_neg (by rw [hrecipe]; nofun)]
      rw [ht, ← hmissing]
      unfold State.consider
      rw [harbiter]
    · obtain ⟨groups, hstation⟩ := station_grant_self s st
      obtain ⟨b, hstore⟩ := store_grant s st
      have hweigher := weigher_grant s st
      have hgroups := groups_grant s st hcalling
      have hctx : (s.grant st).ctx? st = some (grantContext s st) := by
        unfold State.ctx?
        rw [hstation]
        rfl
      rw [s.consider_cons hqueue hcan hrecipe, hweigher, hstore, arbiter_grant]
      refine ⟨grantContext s st, hctx, ?_, ?_, ?_, rfl, rfl, rfl, rfl, rfl, rfl, rfl, rfl, rfl, rfl, ?_, ?_, rfl, rfl, rfl, rfl, rfl, rfl,
        rfl, rfl, rfl⟩
      · rw [hstation]
        rfl
      · rw [hgroups]
        exact groups_resolved_congr rfl rfl rfl rfl rfl rfl rfl
      · rw [hstation]
        rfl
      · rw [hstation]
        rfl
      · show s.arbiter.queue.filter (· ≠ st) = _
        rw [hqueue, List.filter_cons_of_neg (by simp)]

end Sys2Proof.Claim
end

section
/-! PROOFS. ENTRY_WRITE of a route entry, of station settings and of a zone entry (R2, R28, R29, R172, R173). -/

namespace Sys2Proof.Claim

open Sys2Proof.Machine

/-! ### Route entries -/

section Route
variable {s : State} {e : Fin 32} {w : RouteWrite}

theorem within_iff (lo hi n : Nat) : within lo hi n = true ↔ lo ≤ n ∧ n ≤ hi := by simp [within]

theorem hasStation_iff (role : Nat) : hasStation role = true ↔ role < 4 := by
  simp only [hasStation, Role.code, Bool.or_eq_true, beq_iff_eq]
  omega

theorem isOwned_iff (role : Nat) : isOwned role = true ↔ role = 1 ∨ role = 2 ∨ role = 3 ∨ role = 4 := by
  simp [isOwned, Role.code, or_assoc]

theorem bindsBusy_iff (x : RouteEntry) : s.bindsBusy x = true ↔
    ∃ st : Fin 6, (s.station st).state ≠ .offline ∧ x.present = true ∧ x.role < 4 ∧ x.station = st.val := by
  unfold State.bindsBusy stationOf?
  rw [Bool.and_eq_true, Bool.and_eq_true, hasStation_iff]
  constructor
  · rintro ⟨⟨hpresent, hrole⟩, hst⟩
    split at hst
    · next hlt => exact ⟨⟨x.station, hlt⟩, by simpa using hst, hpresent, hrole, rfl⟩
    · exact nomatch hst
  · rintro ⟨st, hstate, hpresent, hrole, hst⟩
    rw [dif_pos (hst ▸ st.isLt)]
    refine ⟨⟨hpresent, hrole⟩, ?_⟩
    have hfin : (⟨x.station, hst ▸ st.isLt⟩ : Fin 6) = st := Fin.ext hst
    rw [hfin]
    simpa using hstate

theorem routeBusy_iff : (s.bindsBusy s.port.routes[e] || s.bindsBusy (routeEntryOf w)) = true ↔ RouteBusy s e w := by
  rw [Bool.or_eq_true, bindsBusy_iff, bindsBusy_iff, ← exists_or]
  refine exists_congr fun st => ?_
  rw [← and_or_left]
  simp [routeEntryOf]

theorem clashes_eq_false_iff (x : RouteEntry) (h : w.role ≤ 5) : x.clashes w = false ↔
    (x.present = true → x.address ≠ w.address ∧ (x.role = w.role → w.role < 4 ∧ x.station ≠ w.station)) := by
  unfold RouteEntry.clashes
  simp only [Role.code, Bool.and_eq_false_iff, Bool.or_eq_false_iff, beq_eq_false_iff_ne, ne_eq]
  cases x.present with
  | false => simp
  | true =>
    simp only [Bool.true_eq_false, false_or, true_implies]
    refine and_congr_right fun _ => ?_
    by_cases hrole : x.role = w.role
    · simp only [hrole, not_true_eq_false, false_or, true_implies]
      omega
    · simp [hrole]

theorem routeInRange_iff : routeInRange w = true ↔ w.present = 1 ∧ 1 ≤ w.address ∧ w.address ≤ 254 ∧ w.role ≤ 5 ∧
    (w.role < 4 → w.station < 6) ∧ (4 ≤ w.role → w.station = 255) ∧ (w.role ≠ 1 → w.role ≠ 5 → 50 ≤ w.silence ∧ w.silence ≤ 10000) := by
  have hstation : (if hasStation w.role = true then decide (w.station < 6) else w.station == noStation) = true ↔
      (w.role < 4 → w.station < 6) ∧ (4 ≤ w.role → w.station = 255) := by
    by_cases h : w.role < 4
    · rw [if_pos ((hasStation_iff _).mpr h), decide_eq_true_eq]
      exact ⟨fun hs => ⟨fun _ => hs, fun h' => absurd h (Nat.not_lt.mpr h')⟩, fun hs => hs.1 h⟩
    · rw [if_neg (mt (hasStation_iff _).mp h), beq_iff_eq]
      exact ⟨fun hs => ⟨fun h' => absurd h' h, fun _ => hs⟩, fun hs => hs.2 (Nat.not_lt.mp h)⟩
  have hsilence : (w.role == Role.heater.code || w.role == Role.master.code || within 50 10000 w.silence) = true ↔
      (w.role ≠ 1 → w.role ≠ 5 → 50 ≤ w.silence ∧ w.silence ≤ 10000) := by
    simp only [Role.code, Bool.or_eq_true, beq_iff_eq, within_iff]
    omega
  unfold routeInRange
  rw [Bool.and_eq_true, Bool.and_eq_true, Bool.and_eq_true, Bool.and_eq_true, beq_iff_eq, within_iff, decide_eq_true_eq, hstation, hsilence]
  simp only [and_assoc]

theorem address_iff (h : w.address ≤ 254) : s.nodeAddress.all (fun a => a.toNat != w.address) = true ↔
    s.nodeAddress ≠ some (BitVec.ofNat 8 w.address) := by
  cases s.nodeAddress with
  | none => simp
  | some a =>
    simp only [Option.all_some, bne_iff_ne, ne_eq, Option.some.injEq, not_iff_not]
    constructor
    · rintro h'
      exact BitVec.eq_of_toNat_eq (by rw [h', BitVec.toNat_ofNat]; omega)
    · rintro rfl
      rw [BitVec.toNat_ofNat]
      omega

theorem routeContent_iff : s.routeContent e w = true ↔ RouteFits s e w := by
  unfold State.routeContent RouteFits
  rw [Bool.or_eq_true, beq_iff_eq, Bool.and_eq_true, Bool.and_eq_true, routeInRange_iff]
  refine or_congr_right ?_
  constructor
  · rintro ⟨⟨⟨hpresent, hlo, hhi, hrole, hst, hno, hsilence⟩, haddress⟩, hall⟩
    refine ⟨hpresent, hlo, hhi, hrole, hst, hno, hsilence, (address_iff hhi).mp haddress, fun j hj hp => ?_⟩
    have hclash := List.all_eq_true.mp hall j (List.mem_finRange j)
    rw [Bool.or_eq_true, beq_iff_eq, Bool.not_eq_true'] at hclash
    exact (clashes_eq_false_iff _ hrole).mp (hclash.resolve_left hj) hp
  · rintro ⟨hpresent, hlo, hhi, hrole, hst, hno, hsilence, haddress, hall⟩
    refine ⟨⟨⟨hpresent, hlo, hhi, hrole, hst, hno, hsilence⟩, (address_iff hhi).mpr haddress⟩, List.all_eq_true.mpr fun j _ => ?_⟩
    rw [Bool.or_eq_true, beq_iff_eq, Bool.not_eq_true']
    by_cases hj : j = e
    · exact Or.inl hj
    · exact Or.inr ((clashes_eq_false_iff _ hrole).mpr (hall j hj))

/-- The slate after a write of a route entry (R173). -/
def slateAfter (s : State) (e : Fin 32) (w : RouteWrite) : Vector (Option OutFrame) 19 :=
  (s.port.dropCommands s.port.routes[e] (routeEntryOf w)).slate

theorem silenceOf_written (now : Time) : silenceOf (routeEntryOf w) now =
    if w.present ≠ 0 ∧ (w.role = 0 ∨ w.role = 2 ∨ w.role = 3 ∨ w.role = 4) then .running now else .stopped := by
  unfold silenceOf hasSilence routeEntryOf
  simp [Role.code, or_assoc]

theorem replaceRoute_written : s.replaceRoute e (routeEntryOf w) = { s with port := { s.port with
    slate := slateAfter s e w,
    routes := s.port.routes.set e { toRouteFields := w.toRouteFields, present := w.present != 0 },
    silence := s.port.silence.set e
      (if w.present ≠ 0 ∧ (w.role = 0 ∨ w.role = 2 ∨ w.role = 3 ∨ w.role = 4) then .running s.now else .stopped) } } := by
  have hdrop : s.port.dropCommands s.port.routes[e] (routeEntryOf w) = { s.port with slate := slateAfter s e w } := by
    unfold slateAfter Port.dropCommands
    split
    · cases (s.port.routes[e]).slot? <;> rfl
    · rfl
  unfold State.replaceRoute State.modPort
  dsimp only
  rw [hdrop, silenceOf_written]
  rfl

theorem moves_iff (old : RouteEntry) : old.moves (routeEntryOf w) = true ↔
    w.present = 0 ∨ old.address ≠ w.address ∨ old.role ≠ w.role ∨ old.station ≠ w.station := by
  simp [RouteEntry.moves, routeEntryOf, or_assoc]

/-- A slot is emptied when the entry that owned it moves (R173). -/
theorem slateAfter_of_moved (hp : (s.port.routes[e]).present = true) (ho : isOwned (s.port.routes[e]).role = true)
    (hm : (s.port.routes[e]).moves (routeEntryOf w) = true) {i : Fin 19} (hi : (s.port.routes[e]).slot? = some i) :
    slateAfter s e w = s.port.slate.set i none := by
  unfold slateAfter Port.dropCommands
  rw [hp, ho, hm, hi]
  rfl

theorem slateAfter_of_kept (h : ¬((s.port.routes[e]).present = true ∧ isOwned (s.port.routes[e]).role = true ∧
    (s.port.routes[e]).moves (routeEntryOf w) = true)) : slateAfter s e w = s.port.slate := by
  unfold slateAfter Port.dropCommands
  rw [if_neg]
  rwa [Bool.and_eq_true, Bool.and_eq_true, and_assoc]

theorem slot?_of_station {x : RouteEntry} {st : Fin 6} (h : x.station = st.val) :
    (x.role = 1 → x.slot? = some (dutySlot st)) ∧ (x.role = 2 → x.slot? = some (permitSlot st)) ∧
    (x.role = 3 → x.slot? = some (ejectSlot st)) := by
  unfold RouteEntry.slot?
  rw [h, stationOf?_val]
  refine ⟨fun hr => ?_, fun hr => ?_, fun hr => ?_⟩ <;> simp [hr, Role.code]

theorem slot?_of_weigher {x : RouteEntry} (h : x.role = 4) : x.slot? = some gateSlot := by
  unfold RouteEntry.slot?
  simp [h, Role.code]

/-- What a route write leaves in the slate (R173). -/
theorem slateAfter_rule : let old := s.port.routes[e]
    let moved := w.present = 0 ∨ old.address ≠ w.address ∨ old.role ≠ w.role ∨ old.station ≠ w.station
    let slate := slateAfter s e w
    (old.present = false ∨ old.role = 0 ∨ 5 ≤ old.role ∨ ¬moved → slate = s.port.slate) ∧
    (∀ st : Fin 6, old.present = true → moved → old.station = st.val →
      (old.role = 1 → slate = s.port.slate.set (dutySlot st) none) ∧
      (old.role = 2 → slate = s.port.slate.set (permitSlot st) none) ∧
      (old.role = 3 → slate = s.port.slate.set (ejectSlot st) none)) ∧
    (old.present = true → moved → old.role = 4 → slate = s.port.slate.set gateSlot none) := by
  refine ⟨fun h => slateAfter_of_kept ?_, fun st hp hm hst => ?_, fun hp hm hr => ?_⟩
  · rw [isOwned_iff, moves_iff]
    rintro ⟨hp, ho, hm⟩
    obtain h | h | h | h := h
    · exact Bool.false_ne_true (h.symm.trans hp)
    · omega
    · omega
    · exact h hm
  · obtain ⟨hduty, hpermit, heject⟩ := slot?_of_station hst
    exact ⟨fun hr => slateAfter_of_moved hp ((isOwned_iff _).mpr (by omega)) ((moves_iff _).mpr hm) (hduty hr),
      fun hr => slateAfter_of_moved hp ((isOwned_iff _).mpr (by omega)) ((moves_iff _).mpr hm) (hpermit hr),
      fun hr => slateAfter_of_moved hp ((isOwned_iff _).mpr (by omega)) ((moves_iff _).mpr hm) (heject hr)⟩
  · exact slateAfter_of_moved hp ((isOwned_iff _).mpr (by omega)) ((moves_iff _).mpr hm) (slot?_of_weigher hr)

end Route

/-! ### Station settings and zone entries -/

section Zone

theorem settingsInRange_iff (w : StationSettings) : settingsInRange w = true ↔ SettingsFit w := by
  unfold settingsInRange SettingsFit
  simp only [Bool.and_eq_true, within_iff, decide_eq_true_eq, and_assoc]

theorem writable_iff (x : StationState) : x.writable = true ↔ x = .offline ∨ x = .parked := by
  cases x <;> simp [StationState.writable]

theorem withinS_iff (lo hi n : Int) : withinS lo hi n = true ↔ lo ≤ n ∧ n ≤ hi := by simp [withinS]

theorem zoneInRange_iff (w : ZoneFigures) : zoneInRange w = true ↔ w.offset ≤ 65535 ∧ w.gain ≤ 65535 ∧ -500 ≤ w.trim ∧ w.trim ≤ 500 ∧
    (w.depth = 1 ∨ w.depth = 2 ∨ w.depth = 4 ∨ w.depth = 8) ∧ w.kp ≤ 255 ∧ w.ki ≤ 255 ∧ w.integralLimit ≤ 32767 ∧
    w.bandLow ≤ 500 ∧ w.bandHigh ≤ 500 ∧ w.overTemp ≤ 4000 ∧ w.runaway ≤ 1000 := by
  unfold zoneInRange
  simp only [Bool.and_eq_true, Bool.or_eq_true, beq_iff_eq, withinS_iff, decide_eq_true_eq, and_assoc, or_assoc]

theorem zoneEntryOf?_of_not_fits {w : ZoneWrite} (h : ¬ZoneFits w) : zoneEntryOf? w = none := by
  unfold zoneEntryOf?
  split
  · next hin =>
    rw [zoneInRange_iff] at hin
    obtain ⟨hp, hc, hfigures⟩ := hin
    rw [tableOf?_eq_none (Nat.lt_of_not_le fun hg => h ?_)]
    · rfl
    · unfold ZoneFits
      obtain ⟨h1, h2, h3⟩ := hfigures
      exact ⟨hp, hg, hc, h1, h2, h3⟩
  · rfl

theorem zoneEntryOf?_of_fits {w : ZoneWrite} (h : ZoneFits w) : ∃ g : Fin 4, g.val = w.group ∧ zoneEntryOf? w =
    some { toZoneFigures := w.toZoneFigures, present := w.present == 1, group := g, cureRef := w.cureRef == 1 } := by
  obtain ⟨hp, hg, hc, h1, h2, h3⟩ := h
  refine ⟨⟨w.group, by omega⟩, rfl, ?_⟩
  unfold zoneEntryOf?
  rw [if_pos ⟨hp, hc, (zoneInRange_iff _).mpr ⟨h1, h2, h3⟩⟩, show tableOf? w.group = some ⟨w.group, by omega⟩ from tableOf?_val ⟨w.group, by omega⟩]
  rfl

/-- A zone write clears the lost flag of a platen it leaves served (R29, R78). -/
theorem rewriteZone_rule (x : Station) (z : Fin 16) (e : ZoneEntry) : ∃ (zones : Vector Zone 16) (lost : Vector Bool 2),
    x.rewriteZone z e = { x with lost := lost, zones := zones } ∧
    zones = x.zones.set z (zoneAfresh e (if e.present then (x.zones[z]).fault else .none)) ∧
    ((∃ i : Fin 16, i.val / 8 = z.val / 8 ∧ (zones[i]).entry.present = true ∧ (zones[i]).fault = .none) →
      lost = x.lost.set (platenOf z) false) ∧
    ((∀ i : Fin 16, i.val / 8 = z.val / 8 → (zones[i]).entry.present = true → (zones[i]).fault ≠ .none) → lost = x.lost) := by
  have hserved := platenServed_iff { x with zones := x.zones.set z ((x.zones[z]).rewrite e) } (platenOf z)
  unfold Station.rewriteZone
  dsimp only at hserved ⊢
  split
  · next h =>
    refine ⟨_, _, rfl, rfl, fun _ => rfl, fun hno => ?_⟩
    obtain ⟨i, hi, hp, hf⟩ := hserved.mp h
    exact absurd hf (hno i hi hp)
  · next h => exact ⟨_, _, rfl, rfl, fun hyes => absurd (hserved.mpr hyes) h, fun _ => rfl⟩

end Zone

/-- The writes of a route entry. -/
theorem writeRoute_rule {h : ReqHeader} {s : State} (hs : Served s h) (e : Fin 32) (w : RouteWrite) :
    (RouteBusy s e w → Answers (.entryWriteRoute h e.val w) s h 5 s .state []) ∧
    (¬RouteBusy s e w → ¬RouteFits s e w → Answers (.entryWriteRoute h e.val w) s h 5 s .badContent []) ∧
    (¬RouteBusy s e w → RouteFits s e w → Answers (.entryWriteRoute h e.val w) s h 5 { s with port := { s.port with
        slate := slateAfter s e w,
        routes := s.port.routes.set e { toRouteFields := w.toRouteFields, present := w.present != 0 },
        silence := s.port.silence.set e
          (if w.present ≠ 0 ∧ (w.role = 0 ∨ w.role = 2 ∨ w.role = 3 ∨ w.role = 4) then .running s.now else .stopped) } } .done []) := by
  have hwrite : s.writeRoute e.val w =
      if s.bindsBusy s.port.routes[e] || s.bindsBusy (routeEntryOf w) then refuse s .state
      else if s.routeContent e w then taken (s.replaceRoute e (routeEntryOf w)) [] else refuse s .badContent := by
    unfold State.writeRoute
    rw [entryOf?_val]
  refine ⟨fun hb => ?_, fun hb hf => ?_, fun hb hf => ?_⟩ <;> refine answers_of_reply (s.writeRoute e.val w) rfl hs rfl ?_ <;> rw [hwrite]
  · rw [if_pos (routeBusy_iff.mpr hb)]
    rfl
  · rw [if_neg (mt routeBusy_iff.mp hb), if_neg (mt routeContent_iff.mp hf)]
    rfl
  · rw [if_neg (mt routeBusy_iff.mp hb), if_pos (routeContent_iff.mpr hf), replaceRoute_written]
    rfl

/-- The writes of station settings. -/
theorem writeStation_rule {h : ReqHeader} {s : State} (hs : Served s h) (st : Fin 6) (w : StationSettings) (b : Nat) : let x := s.station st
    (x.state ≠ .offline → x.state ≠ .parked → Answers (.entryWriteStation h st.val w b) s h 5 s .state []) ∧
    (x.state = .offline ∨ x.state = .parked →
      (¬SettingsFit w → Answers (.entryWriteStation h st.val w b) s h 5 s .badContent []) ∧
      (SettingsFit w →
        Answers (.entryWriteStation h st.val w b) s h 5 (withStation s st { x with settings := w }) .done [])) := by
  have hwrite : s.writeStation st.val w =
      if !(s.station st).state.writable then refuse s .state
      else if settingsInRange w then taken (s.modStation st fun x => { x with settings := w }) [] else refuse s .badContent := by
    unfold State.writeStation
    rw [stationOf?_val]
  have hno (hx : (s.station st).state = .offline ∨ (s.station st).state = .parked) : ¬(!(s.station st).state.writable) = true := by
    rw [(writable_iff _).mpr hx]
    nofun
  refine ⟨fun h1 h2 => ?_, fun hx => ⟨fun hf => ?_, fun hf => ?_⟩⟩ <;>
    refine answers_of_reply (s.writeStation st.val w) rfl hs rfl ?_ <;> rw [hwrite]
  · rw [if_pos]
    · rfl
    · rw [Bool.not_eq_true', Bool.eq_false_iff, ne_eq, writable_iff]
      exact fun hx => hx.elim h1 h2
  · rw [if_neg (hno hx), if_neg (mt (settingsInRange_iff w).mp hf)]
    rfl
  · rw [if_neg (hno hx), if_pos ((settingsInRange_iff w).mpr hf)]
    rfl

/-- The writes of a zone entry. -/
theorem writeZone_rule {h : ReqHeader} {s : State} (hs : Served s h) (st : Fin 6) (z : Fin 16) (w : ZoneWrite) : let x := s.station st
    (x.state ≠ .offline → x.state ≠ .parked → Answers (.entryWriteZone h st.val z.val w) s h 5 s .state []) ∧
    (x.state = .offline ∨ x.state = .parked →
      (¬ZoneFits w → Answers (.entryWriteZone h st.val z.val w) s h 5 s .badContent []) ∧
      (ZoneFits w → ∃ g : Fin 4, g.val = w.group ∧ Answers (.entryWriteZone h st.val z.val w) s h 5 (withStation s st (x.rewriteZone z
        { toZoneFigures := w.toZoneFigures, present := w.present == 1, group := g, cureRef := w.cureRef == 1 })) .done [])) := by
  have hwrite : s.writeZone st.val z.val w =
      if !(s.station st).state.writable then refuse s .state
      else
        match zoneEntryOf? w with
        | some e => taken (s.modStation st (·.rewriteZone z e)) []
        | none => refuse s .badContent := by
    unfold State.writeZone
    rw [stationOf?_val, zoneOf?_val] <;> rfl
  have hno (hx : (s.station st).state = .offline ∨ (s.station st).state = .parked) : ¬(!(s.station st).state.writable) = true := by
    rw [(writable_iff _).mpr hx]
    nofun
  refine ⟨fun h1 h2 => ?_, fun hx => ⟨fun hf => ?_, fun hf => ?_⟩⟩
  · refine answers_of_reply (s.writeZone st.val z.val w) rfl hs rfl ?_
    rw [hwrite, if_pos]
    · rfl
    · rw [Bool.not_eq_true', Bool.eq_false_iff, ne_eq, writable_iff]
      exact fun hx => hx.elim h1 h2
  · refine answers_of_reply (s.writeZone st.val z.val w) rfl hs rfl ?_
    rw [hwrite, if_neg (hno hx), zoneEntryOf?_of_not_fits hf]
    rfl
  · obtain ⟨g, hg, hentry⟩ := zoneEntryOf?_of_fits hf
    refine ⟨g, hg, answers_of_reply (s.writeZone st.val z.val w) rfl hs rfl ?_⟩
    rw [hwrite, if_neg (hno hx), hentry]
    rfl

/-- Settles O52. -/
theorem stationTableWrites : Obligations.StationTableWrites := by
  refine ⟨fun s r n => ⟨s.findEntry_eq_some_iff r n, s.findEntry_eq_none_iff r n, rfl⟩, fun h s hs => ⟨fun e w => ?_,
    fun st w b => writeStation_rule hs st w b, fun st z w => ?_, fun n m wr ws wz => ⟨fun hn => ?_, fun hn => ?_, fun hnm => ?_⟩⟩⟩
  · obtain ⟨hbusy, hbad, hdone⟩ := writeRoute_rule hs e w
    exact ⟨hbusy, hbad, fun hb hf => ⟨slateAfter s e w, hdone hb hf, slateAfter_rule⟩⟩
  · obtain ⟨hbusy, hfree⟩ := writeZone_rule hs st z w
    refine ⟨hbusy, fun hx => ⟨(hfree hx).1, fun hf => ?_⟩⟩
    obtain ⟨g, hg, hdone⟩ := (hfree hx).2 hf
    obtain ⟨zones, lost, heq, hzones, hserved, hkept⟩ := rewriteZone_rule (s.station st) z
      { toZoneFigures := w.toZoneFigures, present := w.present == 1, group := g, cureRef := w.cureRef == 1 }
    rw [heq] at hdone
    exact ⟨g, zones, lost, hg, by simpa only [beq_iff_eq] using hzones, hserved, hkept, hdone⟩
  · exact answers_of_reply (s.writeRoute n wr) rfl hs rfl (by simp [State.writeRoute, entryOf?_eq_none hn, refuse])
  · exact answers_of_reply (s.writeStation n ws) rfl hs rfl (by simp [State.writeStation, stationOf?_eq_none hn, refuse])
  · refine answers_of_reply (s.writeZone n m wz) rfl hs rfl ?_
    unfold State.writeZone
    split
    · next st z hst hz => rcases hnm with hn | hm <;> simp_all [stationOf?_eq_none, zoneOf?_eq_none]
    · rfl

end Sys2Proof.Claim
end

section
/-! PROOFS. ENTRY_WRITE of a profile, a recipe, a rate, the weigher settings and the history settings, and PROFILES_APPLY (R32, R33, R84,
R97, R122, R157). -/

namespace Sys2Proof.Claim

open Sys2Proof.Machine

/-! ### Profiles -/

theorem rising_iff : ∀ l : List CureStep, rising l = true ↔ ∀ j a b, l[j]? = some a → l[j + 1]? = some b → a.threshold < b.threshold
  | [] => by simp [rising]
  | [x] => by simp [rising]
  | x :: y :: l => by
    rw [rising, Bool.and_eq_true, decide_eq_true_eq, rising_iff (y :: l)]
    constructor
    · rintro ⟨hxy, hrest⟩ j a b ha hb
      cases j with
      | zero =>
        obtain rfl : x = a := Option.some.inj ha
        obtain rfl : y = b := Option.some.inj hb
        exact hxy
      | succ j => exact hrest j a b ha hb
    · intro h
      exact ⟨h 0 x y rfl rfl, fun j a b ha hb => h (j + 1) a b ha hb⟩

theorem head_all_iff (l : List CureStep) : l.head?.all (·.threshold == 0) = true ↔ ∀ c, l.head? = some c → c.threshold = 0 := by
  cases l.head? with
  | none => simp
  | some c => simp

theorem profileInRange_iff (w : Profile) : profileInRange w = true ↔ ProfileFits w := by
  unfold profileInRange ProfileFits setPointInRange stepInRange
  simp only [Bool.and_eq_true, List.all_eq_true, within_iff, decide_eq_true_eq, head_all_iff, rising_iff, List.forall_mem_cons,
    List.not_mem_nil, false_implies, implies_true, and_true, and_assoc]

theorem writeProfile_rule {h : ReqHeader} {s : State} (hs : Served s h) (n : Fin 16) (w : Profile) :
    (ProfileFits w →
      Answers (.entryWriteProfile h n.val w) s h 5 { s with profilesShadow := s.profilesShadow.set n w } .done []) ∧
    (¬ProfileFits w → Answers (.entryWriteProfile h n.val w) s h 5 s .badContent []) := by
  have hwrite : s.writeProfile n.val w =
      if profileInRange w then taken { s with profilesShadow := s.profilesShadow.set n w } [] else refuse s .badContent := by
    unfold State.writeProfile
    rw [zoneOf?_val]
  refine ⟨fun hf => ?_, fun hf => ?_⟩ <;> refine answers_of_reply (s.writeProfile n.val w) rfl hs rfl ?_ <;> rw [hwrite]
  · rw [if_pos ((profileInRange_iff w).mpr hf)]
    rfl
  · rw [if_neg (mt (profileInRange_iff w).mp hf)]
    rfl

/-! ### PROFILES_APPLY -/

/-- A station with its groups read again from the live profiles (R33). -/
def rereadStation (live : Vector Profile 16) (x : Station) : Station :=
  if x.state = .offline then x else { x with groups := Vector.ofFn fun g => (x.groups[g]).reread live (x.stepIndex g) }

theorem rereadGroups_eq (s : State) (st : Fin 6) : s.rereadGroups st = withStation s st (rereadStation s.profilesLive (s.station st)) := rfl

/-- Reading again station by station: each station of the list is read once. -/
theorem foldl_rereadGroups (l : List (Fin 6)) : l.Nodup → ∀ s : State,
    let t := l.foldl (fun (u : State) (st : Fin 6) => u.rereadGroups st) s
    t = { s with stations := t.stations } ∧
      ∀ st, t.station st = if st ∈ l then rereadStation s.profilesLive (s.station st) else s.station st := by
  induction l with
  | nil => exact fun _ s => ⟨rfl, fun st => rfl⟩
  | cons a l ih =>
    intro hnodup s
    obtain ⟨hmem, hl⟩ := List.nodup_cons.mp hnodup
    obtain ⟨hkeep, hstation⟩ := ih hl (s.rereadGroups a)
    refine ⟨hkeep.trans rfl, fun st => ?_⟩
    refine (hstation st).trans ?_
    have hlive : (s.rereadGroups a).profilesLive = s.profilesLive := rfl
    rw [hlive]
    by_cases hst : st = a
    · subst hst
      rw [if_neg hmem, if_pos List.mem_cons_self, rereadGroups_eq, station_withStation]
    · have hsame : (s.rereadGroups a).station st = s.station st := by rw [rereadGroups_eq, station_withStation_of_ne _ _ _ hst]
      rw [hsame]
      simp only [List.mem_cons, hst, false_or]

theorem reread_rule (y : Group) (live : Vector Profile 16) (idx : Nat) :
    (y.profile = none ∨ y.source = .none → y.reread live idx = y) ∧
    ∀ n temp ff len step, y.profile = some n → TargetIn live[n] y.source idx temp ff len step →
      y.reread live idx = retargeted y y.source n temp ff len step := by
  unfold Group.reread
  refine ⟨fun h => ?_, fun n temp ff len step hp ht => ?_⟩
  · cases hp : y.profile with
    | none => rfl
    | some n =>
      rw [h.resolve_left (by rw [hp]; nofun)]
      rfl
  · rw [hp]
    dsimp only
    rw [resolveIn_of_targetIn ht]
    exact take_eq_retargeted _ _ _ _ _ _ _

theorem applyProfiles_rule (s : State) : let t := s.applyProfiles
    t = { s with profilesLive := s.profilesShadow, stations := t.stations } ∧
      ∀ st : Fin 6, let x := s.station st
        t.station st = { x with groups := (t.station st).groups } ∧ (x.state = .offline → t.station st = x) ∧
        (x.state ≠ .offline → ∀ g : Fin 4, let y := x.groups[g]
          (y.profile = none ∨ y.source = .none → (t.station st).groups[g] = y) ∧
          ∀ n temp ff len step, y.profile = some n →
            TargetIn s.profilesShadow[n] y.source (x.ctx.elim 0 fun c => c.cure.steps[g]) temp ff len step →
            (t.station st).groups[g] = retargeted y y.source n temp ff len step) := by
  obtain ⟨hkeep, hstation⟩ := foldl_rereadGroups (List.finRange 6) (List.nodup_finRange 6) { s with profilesLive := s.profilesShadow }
  refine ⟨hkeep, fun st => ?_⟩
  have hst : s.applyProfiles.station st = rereadStation s.profilesShadow (s.station st) := by
    rw [show s.applyProfiles.station st = _ from hstation st, if_pos (List.mem_finRange st)]
    rfl
  dsimp only
  rw [hst]
  unfold rereadStation
  refine ⟨by split <;> rfl, fun hoff => if_pos hoff, fun hoff g => ?_⟩
  rw [if_neg hoff]
  obtain ⟨hsame, htaken⟩ := reread_rule (s.station st).groups[g] s.profilesShadow ((s.station st).stepIndex g)
  have hget : (Vector.ofFn fun g : Fin 4 => ((s.station st).groups[g]).reread s.profilesShadow ((s.station st).stepIndex g))[g] =
      ((s.station st).groups[g]).reread s.profilesShadow ((s.station st).stepIndex g) := by simp
  exact ⟨fun hy => hget.trans (hsame hy), fun n temp ff len step hp ht => hget.trans (htaken n temp ff len step hp ht)⟩

/-! ### Recipes -/

theorem profileField?_eq_some_iff {n : Nat} {p : Option (Fin 16)} : profileField? n = some p ↔ p.elim 255 (·.val) = n := by
  unfold profileField? zoneOf?
  split
  · next h =>
    subst h
    cases p with
    | none => simp
    | some q => simp; omega
  · split
    · next h hlt =>
      cases p with
      | none => simp; omega
      | some q => simp [Fin.ext_iff, eq_comm]
    · next h hlt =>
      cases p with
      | none => simp; omega
      | some q => simp; omega

theorem profileField?_isSome_iff (n : Nat) : (profileField? n).isSome = true ↔ n ≤ 15 ∨ n = 255 := by
  unfold profileField? zoneOf?
  split
  · simp [*]
  · split
    · simp; omega
    · simp; omega

theorem recipeInRange_iff (w : RecipeFigures) : recipeInRange w = true ↔
    100 ≤ w.nominalMass ∧ w.nominalMass ≤ 250000 ∧ 0 ≤ w.lowerTol ∧ w.lowerTol ≤ 10000 ∧ 0 ≤ w.upperTol ∧ w.upperTol ≤ 10000 ∧
    0 ≤ w.nominalMass - w.lowerTol ∧ 1 ≤ w.minPieces ∧ w.minPieces ≤ 8 ∧ 1 ≤ w.pieceLimit ∧ w.pieceLimit ≤ 8 ∧
    w.minPieces ≤ w.pieceLimit ∧ 1000 ≤ w.pieceWait ∧ w.pieceWait ≤ 60000 ∧ w.baseTemp ≤ 4000 ∧
    1000 ≤ w.eBase ∧ w.eBase ≤ 3600000 ∧ 1000 ≤ w.eMin ∧ w.eMin ≤ 3600000 ∧ 1000 ≤ w.eMax ∧ w.eMax ≤ 3600000 ∧
    w.eMin ≤ w.eBase ∧ w.eBase ≤ w.eMax ∧ -32768 ≤ w.massCoeff ∧ w.massCoeff ≤ 32767 ∧ w.wallMin ≤ 3600000 ∧
    1 ≤ w.wallMax ∧ w.wallMax ≤ 3600000 ∧ w.wallMin < w.wallMax ∧ w.excursionLimit ≤ 65535 ∧
    1000 ≤ w.loadTimeout ∧ w.loadTimeout ≤ 600000 ∧ w.openThreshold ≤ 65535 ∧ 1000 ≤ w.openTimeout ∧ w.openTimeout ≤ 600000 ∧
    w.ejectStroke ≤ 65535 ∧ w.releaseThreshold ≤ 65535 ∧ w.initialForce ≤ 65535 ∧ w.forceStep ≤ 65535 ∧ w.retryLimit ≤ 3 ∧
    100 ≤ w.attemptTimeout ∧ w.attemptTimeout ≤ 60000 ∧ w.settleDwell ≤ 60000 := by
  unfold recipeInRange
  simp only [Bool.and_eq_true, within_iff, withinS_iff, decide_eq_true_eq, and_assoc]

/-- R121 with the checks of R83 and R98, in the model's order. -/
theorem recipeFits_iff (w : RecipeWrite) : RecipeFits w ↔ (w.present ≤ 1 ∧ recipeInRange w.toRecipeFigures = true) ∧
    w.rateTable ≤ 3 ∧ w.profiles[0] ≤ 15 ∧ ∀ g : Fin 4, w.profiles[g] ≤ 15 ∨ w.profiles[g] = 255 := by
  unfold RecipeFits
  rw [recipeInRange_iff]
  simp only [List.forall_mem_cons, List.not_mem_nil, false_implies, implies_true, and_true]
  constructor
  · rintro ⟨h1, h2, h3, h4, h5, h6, h7, h8, h9, h10, h11, h12, h13, h14, h15, hp, hg, h16⟩
    refine ⟨⟨h1, ?_⟩, by omega, hp, hg⟩
    omega
  · rintro ⟨⟨h1, hf⟩, ht, hp, hg⟩
    refine ⟨h1, ?_, ?_, ?_, ?_, ?_, ?_, ?_, ?_, ?_, ?_, ?_, ?_, ?_, ?_, hp, hg, ?_⟩ <;> omega

theorem tableOf?_of_le {n : Nat} (h : n ≤ 3) : ∃ t : Fin 4, tableOf? n = some t ∧ t.val = n :=
  ⟨⟨n, by omega⟩, tableOf?_val ⟨n, by omega⟩, rfl⟩

theorem zoneOf?_of_le {n : Nat} (h : n ≤ 15) : ∃ t : Fin 16, zoneOf? n = some t ∧ t.val = n :=
  ⟨⟨n, by omega⟩, zoneOf?_val ⟨n, by omega⟩, rfl⟩

/-- The recipe a write makes (R122). -/
theorem recipeOf?_of_fits {w : RecipeWrite} (h : RecipeFits w) (rev : Half) : ∃ r, recipeOf? w rev = some r ∧
    r.toRecipeFigures = w.toRecipeFigures ∧ r.present = (w.present == 1) ∧ r.revision = rev + 1 ∧
    r.rateTable.val = w.rateTable ∧ ∀ g : Fin 4, (r.profiles[g]).elim 255 (·.val) = w.profiles[g] := by
  obtain ⟨hin, htable, hp0, hg⟩ := (recipeFits_iff w).mp h
  have hfield (g : Fin 4) : ∃ p, profileField? w.profiles[g] = some p :=
    Option.isSome_iff_exists.mp ((profileField?_isSome_iff _).mpr (hg g))
  obtain ⟨t, ht, htval⟩ := tableOf?_of_le htable
  obtain ⟨p0, h0, h0val⟩ := zoneOf?_of_le hp0
  obtain ⟨p1, h1⟩ := hfield 1
  obtain ⟨p2, h2⟩ := hfield 2
  obtain ⟨p3, h3⟩ := hfield 3
  refine ⟨{ toRecipeFigures := w.toRecipeFigures, present := w.present == 1, revision := rev + 1,
            profiles := ⟨#[some p0, p1, p2, p3], rfl⟩, rateTable := t }, ?_, rfl, rfl, rfl, htval, fun g => ?_⟩
  · unfold recipeOf?
    rw [if_pos hin, ht, h0, show profileField? w.profiles[1] = some p1 from h1, show profileField? w.profiles[2] = some p2 from h2,
      show profileField? w.profiles[3] = some p3 from h3]
  · match g with
    | 0 => exact h0val
    | 1 => exact profileField?_eq_some_iff.mp h1
    | 2 => exact profileField?_eq_some_iff.mp h2
    | 3 => exact profileField?_eq_some_iff.mp h3

/-- A write that makes a recipe fits. -/
theorem fits_of_recipeOf? {w : RecipeWrite} {rev : Half} {r : Recipe} (h : recipeOf? w rev = some r) : RecipeFits w := by
  unfold recipeOf? at h
  split at h
  · next hin =>
    split at h
    · next t p0 p1 p2 p3 ht h0 h1 h2 h3 =>
      have htable : w.rateTable ≤ 3 := by
        by_contra hgt
        rw [tableOf?_eq_none (by omega)] at ht
        exact nomatch ht
      have hzero : w.profiles[0] ≤ 15 := by
        by_contra hgt
        rw [zoneOf?_eq_none (by omega)] at h0
        exact nomatch h0
      have hfield {n : Nat} {p : Option (Fin 16)} (hp : profileField? n = some p) : n ≤ 15 ∨ n = 255 :=
        (profileField?_isSome_iff n).mp (Option.isSome_iff_exists.mpr ⟨p, hp⟩)
      refine (recipeFits_iff w).mpr ⟨hin, htable, hzero, fun g => ?_⟩
      match g with
      | 0 => exact Or.inl hzero
      | 1 => exact hfield h1
      | 2 => exact hfield h2
      | 3 => exact hfield h3
    · exact nomatch h
  · exact nomatch h

/-- The look of the stations bound to a recipe just written (R10, R122). -/
def lookBound (n : Fin 16) (r : Recipe) (u : State) (st : Fin 6) : State :=
  if (u.station st).boundRecipe = n ∧ (u.station st).state = .ready ∧ (u.station st).runEnable = true ∧ r.present = true ∧
    (u.station st).pressAuto = true then joined u st else u

theorem lookCalling_eq_lookBound {u : State} {n : Fin 16} {r : Recipe} (hr : u.recipes[n] = r) (st : Fin 6) :
    (if (u.station st).boundRecipe = n then u.lookCalling st else u) = lookBound n r u st := by
  have hcalls (hn : (u.station st).boundRecipe = n) : Calls u st ↔
      (u.station st).runEnable = true ∧ r.present = true ∧ (u.station st).pressAuto = true := by
    unfold Calls
    simp only [hn, hr]
  unfold lookBound
  by_cases hn : (u.station st).boundRecipe = n
  · rw [if_pos hn]
    by_cases hready : (u.station st).state = .ready
    · by_cases hc : Calls u st
      · rw [lookCalling_of_calls _ _ hready hc, if_pos ⟨hn, hready, (hcalls hn).mp hc⟩]
      · rw [lookCalling_of_not_calls _ _ hc, if_neg fun ⟨_, _, h⟩ => hc ((hcalls hn).mpr h)]
    · rw [lookCalling_of_not_ready _ _ hready, if_neg fun ⟨_, h, _⟩ => hready h]
  · rw [if_neg hn, if_neg fun ⟨h, _⟩ => hn h]

theorem recipes_lookCalling (u : State) (st : Fin 6) : (u.lookCalling st).recipes = u.recipes :=
  State.recipes_of_line (State.line_lookCalling _ _)

/-- The looks in station order: the table stands, and where no station is READY nothing changes. -/
theorem foldl_look {n : Fin 16} {r : Recipe} (l : List (Fin 6)) : ∀ u : State, u.recipes[n] = r →
    let t := l.foldl (fun (u : State) (st : Fin 6) => if (u.station st).boundRecipe = n then u.lookCalling st else u) u
    t = l.foldl (lookBound n r) u ∧ t.recipes = u.recipes ∧ ((∀ st, (u.station st).state ≠ .ready) → t = u) := by
  induction l with
  | nil => exact fun u _ => ⟨rfl, rfl, fun _ => rfl⟩
  | cons a l ih =>
    intro u hr
    have hrecipes : (lookBound n r u a).recipes = u.recipes := by
      rw [← lookCalling_eq_lookBound hr]
      split
      · exact recipes_lookCalling u a
      · rfl
    rw [List.foldl_cons, List.foldl_cons, lookCalling_eq_lookBound hr]
    obtain ⟨hfold, htable, hquiet⟩ := ih (lookBound n r u a) (by rw [hrecipes]; exact hr)
    refine ⟨hfold, htable.trans hrecipes, fun hno => ?_⟩
    have hsame : lookBound n r u a = u := if_neg fun ⟨_, h, _⟩ => hno a h
    rw [hsame] at hquiet ⊢
    exact hquiet hno

theorem writeRecipe_rule {h : ReqHeader} {s : State} (hs : Served s h) (n : Fin 16) (w : RecipeWrite) :
    (¬RecipeFits w → Answers (.entryWriteRecipe h n.val w) s h 5 s .badContent []) ∧
    (RecipeFits w → ∃ r, Answers (.entryWriteRecipe h n.val w) s h 5 (s.replaceRecipe n r) .done (put16 ((s.recipes[n]).revision + 1).toNat) ∧
      r.toRecipeFigures = w.toRecipeFigures ∧ r.present = (w.present == 1) ∧ r.revision = (s.recipes[n]).revision + 1 ∧
      r.rateTable.val = w.rateTable ∧ ∀ g : Fin 4, (r.profiles[g]).elim 255 (·.val) = w.profiles[g]) := by
  refine ⟨fun hf => ?_, fun hf => ?_⟩
  · refine answers_of_reply (s.writeRecipe n.val w) rfl hs rfl ?_
    have hnone : recipeOf? w (s.recipes[n]).revision = none := by
      cases hr : recipeOf? w (s.recipes[n]).revision with
      | none => rfl
      | some r => exact absurd (fits_of_recipeOf? hr) hf
    unfold State.writeRecipe
    rw [zoneOf?_val]
    dsimp only
    rw [hnone]
    rfl
  · obtain ⟨r, hr, h1, h2, h3, h4, h5⟩ := recipeOf?_of_fits hf (s.recipes[n]).revision
    refine ⟨r, answers_of_reply (s.writeRecipe n.val w) rfl hs rfl ?_, h1, h2, h3, h4, h5⟩
    unfold State.writeRecipe
    rw [zoneOf?_val]
    dsimp only
    rw [hr, ← h3]
    rfl

/-! ### Weigher and history settings -/

theorem weigherInRange_iff (w : WeigherSettings) : weigherInRange w = true ↔ WeigherFits w := by
  unfold weigherInRange WeigherFits
  simp only [Bool.and_eq_true, within_iff, withinS_iff, decide_eq_true_eq, and_assoc]

theorem historyOf?_of_fits {w : HistoryWrite} (h : HistoryFits w) : ∃ policy : Policy, policy.code = w.policy ∧
    historyOf? w = some { policy := policy, backlog := w.backlog, lowWater := w.lowWater, autoSend := w.autoSend == 1 } := by
  obtain ⟨hp, hlo, hhi, hlow, hauto⟩ := h
  have hpolicy : ∃ policy : Policy, policy.code = w.policy ∧ policyOf? w.policy = some policy := by
    obtain h | h : w.policy = 0 ∨ w.policy = 1 := by omega
    · exact ⟨.overwrite, h.symm, by rw [h]; rfl⟩
    · exact ⟨.hold, h.symm, by rw [h]; rfl⟩
  obtain ⟨policy, hcode, hof⟩ := hpolicy
  refine ⟨policy, hcode, ?_⟩
  unfold historyOf?
  rw [if_pos ⟨(within_iff _ _ _).mpr ⟨hlo, hhi⟩, hlow, hauto⟩, hof]
  rfl

theorem historyOf?_of_not_fits {w : HistoryWrite} (h : ¬HistoryFits w) : historyOf? w = none := by
  unfold historyOf?
  split
  · next hin =>
    obtain ⟨hb, hlow, hauto⟩ := hin
    obtain ⟨hlo, hhi⟩ := (within_iff _ _ _).mp hb
    have hpolicy : policyOf? w.policy = none := by
      unfold policyOf?
      split
      · next h0 => exact absurd ⟨by omega, hlo, hhi, hlow, hauto⟩ h
      · next h1 => exact absurd ⟨by omega, hlo, hhi, hlow, hauto⟩ h
      · rfl
    rw [hpolicy]
    rfl
  · rfl

theorem policy_code_injective {p q : Policy} (h : p.code = q.code) : p = q := by
  revert h
  cases p <;> cases q <;> decide

/-- The writes of the history settings. -/
theorem writeHistory_rule {h : ReqHeader} {s : State} (hs : Served s h) (w : HistoryWrite) :
    (¬HistoryFits w → Answers (.entryWriteHistory h w) s h 5 s .badContent []) ∧
    (HistoryFits w → s.mode ≠ .config → w.policy ≠ s.store.settings.policy.code →
      Answers (.entryWriteHistory h w) s h 5 s .state []) ∧
    (HistoryFits w → s.mode = .config ∨ w.policy = s.store.settings.policy.code →
      ∃ policy : Policy, policy.code = w.policy ∧
        Answers (.entryWriteHistory h w) s h 5
          (State.testLow (State.testBacklog { s with store := { s.store with settings :=
            { policy := policy, backlog := w.backlog, lowWater := w.lowWater, autoSend := w.autoSend == 1 } } })) .done []) := by
  refine ⟨fun hf => ?_, fun hf hm hp => ?_, fun hf hok => ?_⟩
  · refine answers_of_reply (s.writeHistory w) rfl hs rfl ?_
    unfold State.writeHistory
    rw [historyOf?_of_not_fits hf]
    rfl
  · obtain ⟨policy, hcode, hof⟩ := historyOf?_of_fits hf
    refine answers_of_reply (s.writeHistory w) rfl hs rfl ?_
    unfold State.writeHistory
    rw [hof]
    exact if_pos ⟨hm, fun e => hp (by rw [← hcode]; exact congrArg Policy.code e)⟩
  · obtain ⟨policy, hcode, hof⟩ := historyOf?_of_fits hf
    refine ⟨policy, hcode, answers_of_reply (s.writeHistory w) rfl hs rfl ?_⟩
    unfold State.writeHistory
    rw [hof]
    exact if_neg fun ⟨hm, hp⟩ => hok.elim hm fun e => hp (policy_code_injective (hcode.trans e))

/-- Settles O53. -/
theorem cellTableWrites : Obligations.CellTableWrites := by
  intro h s hs
  refine ⟨writeProfile_rule hs, ?_, fun n w => ⟨(writeRecipe_rule hs n w).1, fun hf => ?_⟩, fun x j f => ⟨fun hf => ?_, fun hf => ?_⟩,
    fun w => ⟨fun h1 h2 => ?_, fun hx => ⟨fun hf => ?_, fun hf => ?_⟩⟩, writeHistory_rule hs, fun n m f wp wr => ⟨fun hn => ?_, fun hn => ?_,
    fun hnm => ?_⟩⟩
  · exact ⟨s.applyProfiles, answers_of_reply s.serveProfilesApply rfl hs rfl rfl, applyProfiles_rule s⟩
  · obtain ⟨r, hanswer, h1, h2, h3, h4, h5⟩ := (writeRecipe_rule hs n w).2 hf
    obtain ⟨hfold, htable, hquiet⟩ := foldl_look (n := n) (r := r) (List.finRange 6) { s with recipes := s.recipes.set n r } (by simp)
    exact ⟨_, r, hanswer, h1, h2, h3, h4, h5, hfold, htable, hquiet⟩
  · exact answers_of_reply (s.writeRate x.val j.val f) rfl hs rfl (by simp [State.writeRate, hf, taken])
  · exact answers_of_reply (s.writeRate x.val j.val f) rfl hs rfl (by simp [State.writeRate, Nat.not_le.mpr hf, refuse])
  · refine answers_of_reply (s.writeWeigher w) rfl hs rfl ?_
    exact if_neg fun hx => hx.elim h1 h2
  · refine answers_of_reply (s.writeWeigher w) rfl hs rfl ?_
    unfold State.writeWeigher
    rw [if_pos hx, if_pos ((weigherInRange_iff w).mpr hf)]
    rfl
  · refine answers_of_reply (s.writeWeigher w) rfl hs rfl ?_
    unfold State.writeWeigher
    rw [if_pos hx, if_neg (mt (weigherInRange_iff w).mp hf)]
    rfl
  · exact answers_of_reply (s.writeProfile n wp) rfl hs rfl (by simp [State.writeProfile, zoneOf?_eq_none hn, refuse])
  · exact answers_of_reply (s.writeRecipe n wr) rfl hs rfl (by simp [State.writeRecipe, zoneOf?_eq_none hn, refuse])
  · refine answers_of_reply (s.writeRate n m f) rfl hs rfl ?_
    unfold State.writeRate
    split
    · next t i ht hi => rcases hnm with hn | hm <;> simp_all [tableOf?_eq_none, entryOf?_eq_none]
    · rfl

end Sys2Proof.Claim
end

section
/-! PROOFS. The history requests (R158, R159, R162 to R165): the moves of the cursor, the release, the lot mark, and their answers. -/

namespace Sys2Proof.Machine

/-! ### Spacing (R163) -/

/-- Spacing in one direction with `n` moves to go: `mark p` tells whether the record the move from `p` passes is a lot mark. -/
def spaceBy (bound : Time) (mark : Time → Bool) (step : Time → Time) (stop : StopReason) : Nat → Time → Time × Nat × StopReason
  | 0, p => (p, 0, .count)
  | n + 1, p =>
    if p = bound then (p, n + 1, stop)
    else if mark p then (step p, n, .mark)
    else spaceBy bound mark step stop n (step p)

theorem spaceForward_eq (x : Store) (n : Nat) (p : Time) :
    x.spaceForward n p = spaceBy x.next x.isMark (· + 1) .endOfStore n p := by
  induction n generalizing p with
  | zero => rfl
  | succ n ih =>
    unfold Store.spaceForward spaceBy
    rw [ih]

theorem spaceReverse_eq (x : Store) (n : Nat) (p : Time) :
    x.spaceReverse n p = spaceBy x.oldest (fun q => x.isMark (q - 1)) (· - 1) .oldest n p := by
  induction n generalizing p with
  | zero => rfl
  | succ n ih =>
    unfold Store.spaceReverse spaceBy
    rw [ih]

/-- How a spacing of `n` moves along `place` ended: the moves made, those left and the reason. -/
structure Spaced (bound : Time) (mark : Time → Bool) (stop : StopReason) (place : Nat → Time) (n moved left : Nat)
    (reason : StopReason) : Prop where
  total : moved + left = n
  short : ∀ j, j < moved → place j ≠ bound
  plain : ∀ j, j + 1 < moved → mark (place j) = false
  ending : (reason = .count ∧ left = 0 ∧ ∀ j, j + 1 = moved → mark (place j) = false) ∨
    (reason = .mark ∧ ∃ j, j + 1 = moved ∧ mark (place j) = true) ∨
    (reason = stop ∧ left ≠ 0 ∧ place moved = bound ∧ ∀ j, j + 1 = moved → mark (place j) = false)

/-- One plain move more, before the others. -/
theorem Spaced.cons {bound : Time} {mark : Time → Bool} {stop : StopReason} {place : Nat → Time} {n moved left : Nat} {reason : StopReason}
    (h : Spaced bound mark stop (fun j => place (j + 1)) n moved left reason) (hbound : place 0 ≠ bound) (hmark : mark (place 0) = false) :
    Spaced bound mark stop place (n + 1) (moved + 1) left reason := by
  have hlast (hplain : ∀ j, j + 1 = moved → mark (place (j + 1)) = false) : ∀ j, j + 1 = moved + 1 → mark (place j) = false
    | 0, _ => hmark
    | j + 1, hj => hplain j (by omega)
  refine ⟨by have := h.total; omega, fun j hj => ?_, fun j hj => ?_, ?_⟩
  · cases j with
    | zero => exact hbound
    | succ j => exact h.short j (by omega)
  · cases j with
    | zero => exact hmark
    | succ j => exact h.plain j (by omega)
  · obtain ⟨hr, hl, hp⟩ | ⟨hr, j, hj, hm⟩ | ⟨hr, hl, hb, hp⟩ := h.ending
    · exact Or.inl ⟨hr, hl, hlast hp⟩
    · exact Or.inr (Or.inl ⟨hr, j + 1, by omega, hm⟩)
    · exact Or.inr (Or.inr ⟨hr, hl, hb, hlast hp⟩)

/-- The code of the reason tells how the spacing ended. -/
theorem Spaced.code_reason {bound : Time} {mark : Time → Bool} {stop : StopReason} {place : Nat → Time} {n moved left : Nat}
    {reason : StopReason} (h : Spaced bound mark stop place n moved left reason) (hstop : stop = .endOfStore ∨ stop = .oldest) :
    reason.code ≤ 3 ∧ (reason.code = 0 → left = 0) ∧ (reason.code = 1 ↔ 0 < moved ∧ mark (place (moved - 1)) = true) ∧
    (reason.code = 2 → stop = .endOfStore ∧ left ≠ 0 ∧ place moved = bound) ∧
    (reason.code = 3 → stop = .oldest ∧ left ≠ 0 ∧ place moved = bound) := by
  have hplain (hp : ∀ j, j + 1 = moved → mark (place j) = false) : ¬(0 < moved ∧ mark (place (moved - 1)) = true) := fun ⟨h0, hm⟩ =>
    Bool.eq_false_iff.mp (hp (moved - 1) (by omega)) hm
  obtain ⟨hr, hl, hp⟩ | ⟨hr, j, hj, hm⟩ | ⟨hr, hl, hb, hp⟩ := h.ending
  · subst hr
    exact ⟨by decide, fun _ => hl, ⟨nofun, fun hx => (hplain hp hx).elim⟩, nofun, nofun⟩
  · subst hr hj
    exact ⟨by decide, nofun, ⟨fun _ => ⟨Nat.succ_pos j, hm⟩, fun _ => rfl⟩, nofun, nofun⟩
  · obtain rfl | rfl := hstop
    · subst hr
      exact ⟨by decide, nofun, ⟨nofun, fun hx => (hplain hp hx).elim⟩, fun _ => ⟨rfl, hl, hb⟩, nofun⟩
    · subst hr
      exact ⟨by decide, nofun, ⟨nofun, fun hx => (hplain hp hx).elim⟩, nofun, fun _ => ⟨rfl, hl, hb⟩⟩

/-- Where a spacing ends. -/
theorem spaced_spaceBy (bound : Time) (mark : Time → Bool) (step : Time → Time) (stop : StopReason) (n : Nat) (p : Time) :
    let x := spaceBy bound mark step stop n p
    ∃ moved, x.1 = step^[moved] p ∧ Spaced bound mark stop (fun j => step^[j] p) n moved x.2.1 x.2.2 := by
  induction n generalizing p with
  | zero => exact ⟨0, rfl, rfl, nofun, nofun, Or.inl ⟨rfl, rfl, nofun⟩⟩
  | succ n ih =>
    unfold spaceBy
    split
    · next hb => exact ⟨0, rfl, Nat.zero_add _, nofun, nofun, Or.inr (Or.inr ⟨rfl, Nat.succ_ne_zero n, hb, nofun⟩)⟩
    · next hb =>
      split
      · next hm =>
        refine ⟨1, rfl, Nat.add_comm 1 n, fun j hj => ?_, fun j hj => ?_, Or.inr (Or.inl ⟨rfl, 0, rfl, hm⟩)⟩
        · obtain rfl : j = 0 := by omega
          exact hb
        · omega
      · next hm =>
        obtain ⟨moved, hplace, hspaced⟩ := ih (step p)
        exact ⟨moved + 1, hplace, hspaced.cons hb (Bool.eq_false_iff.mpr hm)⟩

/-- The places of a spacing forward. -/
theorem iterate_add_one (p : Time) (j : Nat) : (· + 1)^[j] p = p + BitVec.ofNat 32 j := by
  induction j with
  | zero => simp
  | succ j ih =>
    rw [Function.iterate_succ_apply', ih, BitVec.ofNat_add, BitVec.add_assoc]
    rfl

/-- The places of a spacing in reverse. -/
theorem iterate_sub_one (p : Time) (j : Nat) : (· - 1)^[j] p = p - BitVec.ofNat 32 j := by
  induction j with
  | zero => simp
  | succ j ih =>
    rw [Function.iterate_succ_apply', ih, BitVec.ofNat_add]
    bv_omega

theorem place_sub_one (p : Time) (j : Nat) : p - BitVec.ofNat 32 j - 1 = p - BitVec.ofNat 32 (j + 1) := by
  rw [← iterate_sub_one, ← iterate_sub_one, Function.iterate_succ_apply']

theorem isMark_iff (x : Store) (p : Time) : x.isMark p = true ↔ ∃ r, x.record? p = some r ∧ recordKind r = 3 := by
  unfold Store.isMark
  cases x.record? p <;> simp [kLotMark]

/-! ### The room for a lot mark (R156, R165) -/

theorem busy_iff (x : Store) : x.busy = true ↔ x.sender ≠ none ∨ x.autoPos ≠ x.cursor := by
  simp [Store.busy, Option.isSome_iff_ne_none]

/-- Some number of oldest records is the fewest that makes the room. -/
theorem exists_fewest (x : Store) (n : Nat) : ∃ k, k ≤ x.ring.length ∧ (∀ j, j < k → Claim.freeWithout x j < n) ∧
    (k = x.ring.length ∨ n ≤ Claim.freeWithout x k) := by
  have hex : ∃ k, k = x.ring.length ∨ n ≤ Claim.freeWithout x k := ⟨_, Or.inl rfl⟩
  classical
  refine ⟨Nat.find hex, Nat.find_min' hex (Or.inl rfl), fun j hj => ?_, Nat.find_spec hex⟩
  have := Nat.find_min hex hj
  omega

/-- The overrun flag after the room is made: it is set exactly when unread records were lost (R156). -/
theorem overrun_makeRoom {s : State} {n : Nat} (hlength : s.store.ring.length < 4294967296) :
    (s.makeRoom n).store.overrun = true ↔ s.store.overrun = true ∨
      (s.store.cursor - s.store.oldest).toNat < ((s.makeRoom n).store.oldest - s.store.oldest).toNat ∨
      (s.store.autoPos - s.store.oldest).toNat < ((s.makeRoom n).store.oldest - s.store.oldest).toNat := by
  cases hp : s.store.settings.policy with
  | hold =>
    rw [Claim.makeRoom_hold n hp]
    simp
  | overwrite =>
    obtain ⟨k, hk, hless, hend⟩ := exists_fewest s.store n
    have hmoved : (s.store.oldest + BitVec.ofNat 32 k - s.store.oldest).toNat = k := by bv_omega
    rw [Claim.makeRoom_overwrite hp hlength hk hless hend]
    split
    · next h =>
      simp only [Claim.dropped, hmoved]
      exact ⟨Or.inl, fun hx => hx.resolve_right (by omega)⟩
    · next h =>
      simp only [State.store_raise, Claim.dropped, hmoved, true_iff]
      exact Or.inr (by rwa [not_and_or, Nat.not_le, Nat.not_le] at h)

/-- A lot mark appended (R154, R165). -/
theorem appendLotMark_rule (s : State) (src : Byte) (lot : Nat) : let t := s.appendLotMark src lot
    let mark := put8 3 ++ put8 16 ++ [src] ++ put8 s.store.settings.policy.code ++ put32 lot ++ putTime s.now ++ put16 t.store.held ++
      put16 (16384 - t.store.held - 168 * s.store.reservations)
    let u := (s.makeRoom 16).pushRecord mark true
    t = (if s.store.room < u.store.room then u.consider else u) ∧ t.store.next = s.store.next + 1 ∧ t.store.ring.getLast? = some mark ∧
    t.store.overrun = (s.makeRoom 16).store.overrun ∧ t.store.oldest = (s.makeRoom 16).store.oldest := by
  obtain ⟨p, x, hroom, hnext, hres, hset⟩ := s.makeRoom_eq 16
  have hnow : lotMarkRecord src (s.makeRoom 16).store lot s.now = put8 3 ++ put8 16 ++ [src] ++ put8 s.store.settings.policy.code ++
      put32 lot ++ putTime s.now ++ put16 (x.held + 16) ++ put16 (16384 - (x.held + 16) - 168 * s.store.reservations) := by
    rw [hroom, ← hset, ← hres, ← Claim.put8_toNat src]
    rfl
  have hpush (bytes : List Byte) : let u := (s.makeRoom 16).pushRecord bytes true
      u.store.next = s.store.next + 1 ∧ u.store.ring.getLast? = some bytes ∧ u.store.held = x.held + bytes.length ∧
      u.store.overrun = (s.makeRoom 16).store.overrun ∧ u.store.oldest = (s.makeRoom 16).store.oldest := by
    obtain ⟨q, c, b, l, hq⟩ := (s.makeRoom 16).pushRecord_eq bytes true
    intro u
    rw [show u = _ from hq, hroom]
    exact ⟨by rw [← hnext], List.getLast?_concat, rfl, rfl, rfl⟩
  have hlast (u : State) : let t := if s.store.room < u.store.room then u.consider else u
      t.store.next = u.store.next ∧ t.store.ring = u.store.ring ∧ t.store.held = u.store.held ∧ t.store.overrun = u.store.overrun ∧
      t.store.oldest = u.store.oldest := by
    obtain ⟨n, b, hu⟩ := u.store_consider
    intro t
    by_cases h : s.store.room < u.store.room
    · rw [show t = u.consider from if_pos h, hu]
      exact ⟨rfl, rfl, rfl, rfl, rfl⟩
    · rw [show t = u from if_neg h]
      exact ⟨rfl, rfl, rfl, rfl, rfl⟩
  have happend : s.appendLotMark src lot =
      (let u := (s.makeRoom 16).pushRecord (lotMarkRecord src (s.makeRoom 16).store lot s.now) true
       if s.store.room < u.store.room then u.consider else u) := rfl
  obtain ⟨h1, h2, h3, h4, h5⟩ := hpush (lotMarkRecord src (s.makeRoom 16).store lot s.now)
  obtain ⟨l1, l2, l3, l4, l5⟩ := hlast ((s.makeRoom 16).pushRecord (lotMarkRecord src (s.makeRoom 16).store lot s.now) true)
  intro t mark u
  have hheld : t.store.held = x.held + 16 := by
    rw [show t = _ from happend, l3, h3, (Claim.lotMarkRecord_fields src _ lot _).1]
  have hmark : mark = lotMarkRecord src (s.makeRoom 16).store lot s.now := by
    rw [hnow]
    exact congrArg (fun n => put8 3 ++ put8 16 ++ [src] ++ put8 s.store.settings.policy.code ++ put32 lot ++ putTime s.now ++ put16 n ++
      put16 (16384 - n - 168 * s.store.reservations)) hheld
  refine ⟨?_, ?_, ?_, ?_, ?_⟩
  · rw [show t = _ from happend, show u = (s.makeRoom 16).pushRecord mark true from rfl, hmark]
  · rw [show t = _ from happend, l1, h1]
  · rw [show t = _ from happend, l2, h2, hmark]
  · rw [show t = _ from happend, l4, h4]
  · rw [show t = _ from happend, l5, h5]

end Sys2Proof.Machine
end

section
/-! PROOFS. O59: the answers of the history requests (R158, R159, R162 to R165). -/

namespace Sys2Proof.Claim

open Sys2Proof.Machine

variable {h : ReqHeader} {s : State}

/-- A spacing that is taken: where the cursor goes, and the answer. -/
theorem answers_spaceTo {d n : Nat} (hs : Served s h) {x : Time × Nat × StopReason}
    (hserve : s.serveHistorySpace d n = s.spaceTo n x) {place : Nat → Time} {bound : Time} {mark : Time → Bool} {stop : StopReason}
    {moved : Nat} (hspaced : Spaced bound mark stop place n moved x.2.1 x.2.2) (hplace : x.1 = place moved) :
    ∃ t, (∃ u, u = State.testBacklog { s with store := { s.store with cursor := place moved, autoPos := place moved } } ∧
      t = { u with store := { u.store with overrun := false } }) ∧
      Answers (.historySpace h d n) s h 12 t .done
        (put16 moved ++ put16 x.2.1 ++ put8 x.2.2.code ++ (putFlag s.store.overrun ++ putTime t.store.oldest ++ putTime t.store.cursor ++
          putTime t.store.next)) := by
  refine ⟨_, ⟨_, rfl, rfl⟩, answers_of_reply (s.serveHistorySpace d n) rfl hs rfl ?_⟩
  obtain ⟨p, b, hb⟩ := State.testBacklog_eq { s with store := { s.store with cursor := place moved, autoPos := place moved } }
  have hmoved : n - x.2.1 = moved := by have := hspaced.total; omega
  have hmove : s.moveCursor x.1 = State.testBacklog { s with store := { s.store with cursor := place moved, autoPos := place moved } } := by
    rw [hplace]
    rfl
  rw [hserve, State.spaceTo, hmove, hb, hmoved]
  simp [State.historyReply, State.modStore]

/-- HISTORY-SPACE taken, in the words of O59: along `place`, up to `bound`, past the moves that `isMark`. -/
def SpaceTaken (h : ReqHeader) (s : State) (d n : Nat) (place : Nat → Time) (bound : Time) (isMark : Nat → Prop) : Prop :=
  ∃ t moved left reason, moved + left = n ∧ (∀ j, j < moved → place j ≠ bound) ∧ (∀ j, j + 1 < moved → ¬isMark j) ∧
    reason ≤ 3 ∧ (reason = 0 → left = 0) ∧ (reason = 1 ↔ 0 < moved ∧ isMark (moved - 1)) ∧
    (reason = 2 → d = 0 ∧ left ≠ 0 ∧ place moved = bound) ∧ (reason = 3 → d = 1 ∧ left ≠ 0 ∧ place moved = bound) ∧
    (∃ u, u = State.testBacklog { s with store := { s.store with cursor := place moved, autoPos := place moved } } ∧
      t = { u with store := { u.store with overrun := false } }) ∧
    Answers (.historySpace h d n) s h 12 t .done (put16 moved ++ put16 left ++ put8 reason ++
      (putFlag s.store.overrun ++ putTime t.store.oldest ++ putTime t.store.cursor ++ putTime t.store.next))

theorem spaceTaken_of_spaced (hs : Served s h) {d n : Nat} (hd : d ≤ 1) {x : Time × Nat × StopReason} {place : Nat → Time}
    {bound : Time} {isMark : Nat → Prop} {mark : Time → Bool} {moved : Nat}
    (hserve : s.serveHistorySpace d n = s.spaceTo n x)
    (hspaced : Spaced bound mark (if d = 0 then .endOfStore else .oldest) place n moved x.2.1 x.2.2) (hplace : x.1 = place moved)
    (hmark : ∀ j, mark (place j) = true ↔ isMark j) : SpaceTaken h s d n place bound isMark := by
  obtain ⟨t, hu, hanswer⟩ := answers_spaceTo hs hserve hspaced hplace
  have hside : (if d = 0 then StopReason.endOfStore else .oldest) = .endOfStore ∧ d = 0 ∨
      (if d = 0 then StopReason.endOfStore else .oldest) = .oldest ∧ d = 1 := by
    by_cases hd0 : d = 0
    · exact Or.inl ⟨if_pos hd0, hd0⟩
    · exact Or.inr ⟨if_neg hd0, by omega⟩
  obtain ⟨hle, h0, h1, h2, h3⟩ := hspaced.code_reason (hside.imp And.left And.left)
  refine ⟨t, moved, x.2.1, x.2.2.code, hspaced.total, hspaced.short,
    fun j hj hm => Bool.eq_false_iff.mp (hspaced.plain j hj) ((hmark j).mpr hm), hle, h0, by rw [h1, hmark], fun hc => ?_, fun hc => ?_, hu,
    hanswer⟩
  · obtain ⟨hstop, hl, hb⟩ := h2 hc
    refine ⟨?_, hl, hb⟩
    obtain ⟨-, hd0⟩ | ⟨hx, -⟩ := hside
    · exact hd0
    · exact StopReason.noConfusion (hstop.symm.trans hx)
  · obtain ⟨hstop, hl, hb⟩ := h3 hc
    refine ⟨?_, hl, hb⟩
    obtain ⟨hx, -⟩ | ⟨-, hd1⟩ := hside
    · exact StopReason.noConfusion (hstop.symm.trans hx)
    · exact hd1

theorem spaceTaken (hs : Served s h) (hidle : ¬s.store.busy = true) {d n : Nat} (hn : n ≠ 0) (hd : d ≤ 1) :
    let place (j : Nat) : Time := if d = 0 then s.store.cursor + BitVec.ofNat 32 j else s.store.cursor - BitVec.ofNat 32 j
    SpaceTaken h s d n place (if d = 0 then s.store.next else s.store.oldest)
      fun j => ∃ r, s.store.record? (if d = 0 then place j else place (j + 1)) = some r ∧ recordKind r = 3 := by
  intro place
  obtain rfl | rfl : d = 0 ∨ d = 1 := by omega
  · obtain ⟨moved, hplace, hspaced⟩ := spaced_spaceBy s.store.next s.store.isMark (· + 1) .endOfStore n s.store.cursor
    simp only [iterate_add_one] at hplace hspaced
    refine spaceTaken_of_spaced hs hd ?_ hspaced hplace fun j => isMark_iff s.store (place j)
    rw [← spaceForward_eq, State.serveHistorySpace, if_neg hidle, if_neg hn]
  · obtain ⟨moved, hplace, hspaced⟩ :=
      spaced_spaceBy s.store.oldest (fun q => s.store.isMark (q - 1)) (· - 1) .oldest n s.store.cursor
    simp only [iterate_sub_one] at hplace hspaced
    refine spaceTaken_of_spaced hs hd ?_ hspaced hplace fun j => ?_
    · rw [← spaceReverse_eq, State.serveHistorySpace, if_neg hidle, if_neg hn]
    · rw [show place j - 1 = place (j + 1) from place_sub_one s.store.cursor j]
      exact isMark_iff s.store (place (j + 1))

/-- HISTORY-RELEASE taken (R164). -/
theorem historyRelease_rule (hs : Served s h) (hidle : ¬s.store.busy = true) :
    let n := (s.store.cursor - s.store.oldest).toNat
    let held := s.store.held - ((s.store.ring.take n).map List.length).sum
    let u := State.testLow { s with store := { s.store with ring := s.store.ring.drop n, oldest := s.store.cursor, held := held } }
    ∃ t v, v = (if held < s.store.held then u.consider else u) ∧ t = { v with store := { v.store with overrun := false } } ∧
      t.store.ring = s.store.ring.drop n ∧ t.store.oldest = s.store.cursor ∧ t.store.cursor = s.store.cursor ∧
      t.store.next = s.store.next ∧ t.store.held = held ∧
      Answers (.historyRelease h) s h 14 t .done (put16 n ++ put16 (s.store.held - held) ++
        (putFlag s.store.overrun ++ putTime t.store.oldest ++ putTime t.store.cursor ++ putTime t.store.next)) := by
  intro n held u
  obtain ⟨p, b, hu⟩ := State.testLow_eq { s with store := { s.store with ring := s.store.ring.drop n, oldest := s.store.cursor, held := held } }
  have hstore : u.store = { s.store with
      ring := s.store.ring.drop n, oldest := s.store.cursor, held := held, storeLowArmed := b } := by
    rw [show u = _ from hu]
  obtain ⟨k, c, hc⟩ := u.store_consider
  have hv : ∃ k c, (if held < s.store.held then u.consider else u).store = { s.store with
      ring := s.store.ring.drop n, oldest := s.store.cursor, held := held, reservations := k, storeLowArmed := c } := by
    split
    · exact ⟨k, c, by rw [hc, hstore]⟩
    · exact ⟨_, b, hstore⟩
  have hrelease : s.releaseRecords = if held < s.store.held then u.consider else u := by
    have : s.releaseRecords = if u.store.held < s.store.held then u.consider else u := rfl
    rw [this, hstore]
  obtain ⟨k, c, hv⟩ := hv
  refine ⟨_, _, rfl, rfl, ?_⟩
  generalize hvs : (if held < s.store.held then u.consider else u) = v at hv hrelease
  dsimp only
  refine ⟨by rw [hv], by rw [hv], by rw [hv], by rw [hv], by rw [hv], answers_of_reply s.serveHistoryRelease rfl hs rfl ?_⟩
  rw [State.serveHistoryRelease, if_neg hidle, hrelease, State.historyReply]
  refine congrArg (Reply.mk _ _) ?_
  simp only [hv, List.append_assoc]
  rfl

/-- LOT-MARK taken (R165). -/
theorem lotMark_rule (hs : Served s h) {l : Nat} (hroom : s.store.settings.policy = .overwrite ∨ 16 ≤ s.store.room) :
    ∃ t u v mark,
      mark = put8 3 ++ put8 16 ++ [h.src] ++ put8 s.store.settings.policy.code ++ put32 l ++ putTime s.now ++ put16 t.store.held ++
        put16 (16384 - t.store.held - 168 * s.store.reservations) ∧
      u = (s.makeRoom 16).pushRecord mark true ∧ v = (if s.store.room < u.store.room then u.consider else u) ∧
      t = { v with store := { v.store with overrun := false } } ∧
      t.store.next = s.store.next + 1 ∧ t.store.ring.getLast? = some mark ∧
      ∃ flag : Bool, (s.store.ring.length < 4294967296 → (flag = true ↔ s.store.overrun = true ∨
          (s.store.cursor - s.store.oldest).toNat < (t.store.oldest - s.store.oldest).toNat ∨
          (s.store.autoPos - s.store.oldest).toNat < (t.store.oldest - s.store.oldest).toNat)) ∧
        Answers (.lotMark h l) s h 15 t .done
          (putTime s.store.next ++ putFlag flag ++ putTime t.store.oldest ++ putTime t.store.cursor ++ putTime t.store.next) := by
  obtain ⟨happend, hnext, hlast, hoverrun, holdest⟩ := appendLotMark_rule s h.src l
  refine ⟨{ s.appendLotMark h.src l with store := { (s.appendLotMark h.src l).store with overrun := false } }, _,
    s.appendLotMark h.src l, _, rfl, rfl, happend, rfl, hnext, hlast, (s.appendLotMark h.src l).store.overrun, fun hlength => ?_,
    answers_of_reply (s.serveLotMark h.src l) rfl hs rfl ?_⟩
  · dsimp only
    rw [hoverrun, holdest]
    exact overrun_makeRoom hlength
  · rw [State.serveLotMark, if_neg]
    · rfl
    · rintro ⟨hhold, hlow⟩
      obtain hp | hp := hroom
      · exact Policy.noConfusion (hhold.symm.trans hp)
      · omega

/-- Settles O59. -/
theorem historyRequestsRule : Obligations.HistoryRequestsRule := by
  intro h s hs pointers busy seen
  have hbusy : s.store.busy = true ↔ busy := busy_iff s.store
  refine ⟨fun hb => ⟨?_, fun d n => ?_, ?_, ?_⟩, fun hi hc => ?_, fun r hi hc hr => ?_, fun d n hi hbad => ?_,
    fun d n hi hn hd => spaceTaken hs (mt hbusy.mp hi) hn hd, fun hi => ?_, fun hi => historyRelease_rule hs (mt hbusy.mp hi),
    fun l hp hr => ?_, fun l hroom => lotMark_rule hs hroom, fun o ho => ?_, fun o ho => ?_⟩
  · exact answers_of_reply (s.serveHistoryRead h.src) rfl hs rfl (if_pos (hbusy.mpr hb))
  · exact answers_of_reply (s.serveHistorySpace d n) rfl hs rfl (if_pos (hbusy.mpr hb))
  · exact answers_of_reply s.serveHistoryRewind rfl hs rfl (if_pos (hbusy.mpr hb))
  · exact answers_of_reply s.serveHistoryRelease rfl hs rfl (if_pos (hbusy.mpr hb))
  · exact answers_of_reply (s.serveHistoryRead h.src) rfl hs rfl ((if_neg (mt hbusy.mp hi)).trans (if_pos hc))
  · refine answers_of_reply (s.serveHistoryRead h.src) rfl hs rfl ((if_neg (mt hbusy.mp hi)).trans ((if_neg hc).trans ?_))
    simp only [hr, Option.getD_some, State.historyReply, List.append_assoc]
    rfl
  · refine answers_of_reply (s.serveHistorySpace d n) rfl hs rfl ?_
    unfold State.serveHistorySpace
    rw [if_neg (mt hbusy.mp hi)]
    obtain hn | hd := hbad
    · rw [if_pos hn]
      rfl
    · obtain ⟨d, rfl⟩ : ∃ k, d = k + 2 := ⟨d - 2, by omega⟩
      split <;> rfl
  · refine ⟨_, _, rfl, rfl, ?_⟩
    obtain ⟨p, b, hb⟩ := State.testBacklog_eq { s with store := { s.store with cursor := s.store.oldest, autoPos := s.store.oldest } }
    rw [hb]
    refine ⟨rfl, rfl, answers_of_reply s.serveHistoryRewind rfl hs rfl ?_⟩
    have hmove : s.moveCursor s.store.oldest =
        State.testBacklog { s with store := { s.store with cursor := s.store.oldest, autoPos := s.store.oldest } } := rfl
    rw [State.serveHistoryRewind, if_neg (mt hbusy.mp hi), hmove, hb]
    simp [State.historyReply, State.modStore, Store.dist, pointers]
  · exact answers_of_reply (s.serveLotMark h.src l) rfl hs rfl (if_pos ⟨hp, hr⟩)
  · exact answers_of_reply (s.serveAuto o) rfl hs rfl (if_pos ho)
  · exact answers_of_reply (s.serveAuto o) rfl hs rfl (if_neg (Nat.not_le.mpr ho))

end Sys2Proof.Claim
end

section
/-! PROOFS. The RESTART (R166, R188): what it places for the line master and the ring, station by station, and the store it leaves. -/

namespace Sys2Proof.Machine

/-! ### The slate and the notices -/

/-- `s` with this slate and these notices. -/
def dressed (s : State) (a : Vector (Option OutFrame) 19) (n : Vector (Option NoticeFlag) 77) : State :=
  { s with port := { s.port with slate := a, notices := n } }

section
variable (s : State) (a : Vector (Option OutFrame) 19) (n : Vector (Option NoticeFlag) 77) (st : Fin 6)

/-- The STATION_STATE flag of a station, raised for the first time. -/
def stateFlag : NoticeFlag :=
  { count := 1, time := s.now,
    values := put8 (s.station st).state.code ++ put8 (s.station st).cause.code ++ putTime (s.station st).cycleNumber }

theorem raiseStationState_dressed (hn : n[noticeSlot .stationState (some st)] = none) : (dressed s a n).raiseStationState st =
    dressed s a (if s.port.mask[(0 : Fin 11)] = true then n.set (noticeSlot .stationState (some st)) (some (stateFlag s st)) else n) := by
  have hcount : satAdd 255 ((n[noticeSlot .stationState (some st)]).elim 0 (·.count)) 1 = 1 := by
    rw [hn]
    rfl
  by_cases h : s.port.mask[(0 : Fin 11)] = true
  · rw [if_pos h]
    refine (if_pos h).trans ?_
    rw [show stateFlag s st = { stateFlag s st with count := satAdd 255 ((n[noticeSlot .stationState (some st)]).elim 0 (·.count)) 1 } by
      rw [hcount]; rfl]
    rfl
  · rw [if_neg h]
    exact if_neg h

/-- A command frame for a node (R176). -/
def commandFrame (kind : Byte) (payload : List Byte) (node : Byte) : OutFrame := { dest := node, kind := kind, seq := none, payload := payload }

/-- The PERMIT of a station, when its PRESS entry is present (R25). -/
def permitCommand : Option OutFrame :=
  (s.nodeOf .press st.val).map (commandFrame 4 (put8 (s.station st).state.permission.code))

/-- The EJECT-COMMAND of a station, when its EJECTOR entry is present (R146). -/
def ejectCommand : Option OutFrame :=
  (s.nodeOf .ejector st.val).map
    (commandFrame 6 (put8 (s.station st).demould.wanted.code ++ put16 (s.station st).demould.wanted.limit))

/-- A slot of the slate with a frame for a node that a route entry names. -/
def filled (a : Vector (Option OutFrame) 19) (slot : Fin 19) (f : Option OutFrame) : Vector (Option OutFrame) 19 :=
  f.elim a fun x => a.set slot (some x)

theorem filled_self (slot : Fin 19) (f : Option OutFrame) (ha : a[slot] = none) : (filled a slot f)[slot] = f := by
  cases f with
  | none => exact ha
  | some x => exact Vector.getElem_set_self slot.isLt

theorem filled_of_ne {slot j : Fin 19} (h : j ≠ slot) (f : Option OutFrame) : (filled a slot f)[j] = a[j] := by
  cases f with
  | none => rfl
  | some x => exact Vector.getElem_set_ne slot.isLt j.isLt fun e => h (Fin.ext e.symm)

theorem placeCommand_dressed (slot : Fin 19) (r : Role) (x : Nat) (k : Byte) (b : List Byte) :
    (dressed s a n).placeCommand slot r x k b = dressed s (filled a slot ((s.nodeOf r x).map (commandFrame k b))) n := by
  unfold State.placeCommand
  rw [show (dressed s a n).nodeOf r x = s.nodeOf r x from rfl]
  cases s.nodeOf r x <;> rfl

theorem placePermit_dressed : (dressed s a n).placePermit st = dressed s (filled a (permitSlot st)
    (permitCommand s st)) n :=
  placeCommand_dressed s a n _ _ _ _ _

theorem placeEject_dressed : (dressed s a n).placeEject st = dressed s (filled a (ejectSlot st)
    (ejectCommand s st)) n :=
  placeCommand_dressed s a n _ _ _ _ _

theorem placeGate_dressed : (dressed s a n).placeGate = dressed s (filled a gateSlot ((s.nodeOf .weigher 255).map
    (commandFrame 8 (put8 s.weigher.wantedGate.code ++ put8 s.weigher.wantedGate.stationCode)))) n :=
  placeCommand_dressed s a n _ _ _ _ _

/-- What a restart places in the slate for a station that was `before`. -/
def restartSlate (before : Station) : Vector (Option OutFrame) 19 :=
  let b := if before.state.permission = .none then a
    else filled a (permitSlot st) (permitCommand s st)
  if before.demould.wanted = .retract then b
  else filled b (ejectSlot st) (ejectCommand s st)

/-- The notices with the STATION_STATE that a restart raises for a station that was `before`. -/
def restartNotices (before : Station) : Vector (Option NoticeFlag) 77 :=
  if before.state ≠ .offline ∧ s.port.mask[(0 : Fin 11)] = true then n.set (noticeSlot .stationState (some st)) (some (stateFlag s st))
  else n

theorem announceRestart_dressed (before : Station) (hn : n[noticeSlot .stationState (some st)] = none) :
    (dressed s a n).announceRestart before st = dressed s (restartSlate s a st before) (restartNotices s n st before) := by
  have hraise : (if before.state = .offline then dressed s a n else (dressed s a n).raiseStationState st) =
      dressed s a (restartNotices s n st before) := by
    unfold restartNotices
    by_cases h : before.state = .offline
    · rw [if_pos h, if_neg fun hx => hx.1 h]
    · rw [if_neg h, raiseStationState_dressed s a n st hn]
      simp only [ne_eq, h, not_false_eq_true, true_and]
  unfold State.announceRestart restartSlate
  dsimp only
  rw [hraise, placePermit_dressed, ← apply_ite (dressed s · _), placeEject_dressed, ← apply_ite (dressed s · _)]

theorem permitSlot_ne_ejectSlot (st sx : Fin 6) : permitSlot st ≠ ejectSlot sx := fun e => by
  have := congrArg Fin.val e
  simp only [permitSlot, ejectSlot] at this
  omega

theorem permitSlot_injective {st sx : Fin 6} (h : permitSlot st = permitSlot sx) : st = sx := by
  have := congrArg Fin.val h
  simp only [permitSlot] at this
  omega

theorem ejectSlot_injective {st sx : Fin 6} (h : ejectSlot st = ejectSlot sx) : st = sx := by
  have := congrArg Fin.val h
  simp only [ejectSlot] at this
  omega

theorem restartSlate_permit (before : Station) (ha : a[permitSlot st] = none) : (restartSlate s a st before)[permitSlot st] =
    if before.state.permission = .none then none else permitCommand s st := by
  have hb : (if before.state.permission = .none then a else
      filled a (permitSlot st) (permitCommand s st))[permitSlot st] =
      if before.state.permission = .none then none else permitCommand s st := by
    split
    · exact ha
    · exact filled_self a _ _ ha
  unfold restartSlate
  dsimp only
  split
  · exact hb
  · rw [filled_of_ne _ (permitSlot_ne_ejectSlot st st), hb]

theorem restartSlate_eject (before : Station) (ha : a[ejectSlot st] = none) : (restartSlate s a st before)[ejectSlot st] =
    if before.demould.wanted = .retract then none else ejectCommand s st := by
  have hb : (if before.state.permission = .none then a else
      filled a (permitSlot st) (permitCommand s st))[ejectSlot st] = none := by
    split
    · exact ha
    · rw [filled_of_ne _ (permitSlot_ne_ejectSlot st st).symm, ha]
  unfold restartSlate
  dsimp only
  split
  · exact hb
  · exact filled_self _ _ _ hb

theorem restartSlate_of_ne (before : Station) {j : Fin 19} (hp : j ≠ permitSlot st) (he : j ≠ ejectSlot st) :
    (restartSlate s a st before)[j] = a[j] := by
  unfold restartSlate
  dsimp only
  split <;> split
  · rfl
  · rw [filled_of_ne a hp]
  · rw [filled_of_ne a he]
  · rw [filled_of_ne _ he, filled_of_ne a hp]

theorem restartNotices_self (before : Station) (hn : n[noticeSlot .stationState (some st)] = none) :
    (restartNotices s n st before)[noticeSlot .stationState (some st)] =
      if before.state ≠ .offline ∧ s.port.mask[(0 : Fin 11)] = true then some (stateFlag s st) else none := by
  unfold restartNotices
  split
  · exact Vector.getElem_set_self (noticeSlot .stationState (some st)).isLt
  · exact hn

theorem restartNotices_of_ne (before : Station) {i : Fin 77} (h : i ≠ noticeSlot .stationState (some st)) :
    (restartNotices s n st before)[i] = n[i] := by
  unfold restartNotices
  split
  · exact Vector.getElem_set_ne (noticeSlot .stationState (some st)).isLt i.isLt fun e => h (Fin.ext e.symm)
  · rfl

end

/-- The announcements of the stations of a list, from a slate and notices in which nothing of them waits. -/
theorem foldl_announceRestart (s : State) (before : Fin 6 → Station) (l : List (Fin 6)) : l.Nodup →
    ∀ (a : Vector (Option OutFrame) 19) (n : Vector (Option NoticeFlag) 77),
    (∀ st ∈ l, a[permitSlot st] = none ∧ a[ejectSlot st] = none ∧ n[noticeSlot .stationState (some st)] = none) →
    ∃ a' n', l.foldl (fun u st => u.announceRestart (before st) st) (dressed s a n) = dressed s a' n' ∧
      (∀ st ∈ l,
        a'[permitSlot st] = (if (before st).state.permission = .none then none
          else permitCommand s st) ∧
        a'[ejectSlot st] = (if (before st).demould.wanted = .retract then none
          else ejectCommand s st) ∧
        n'[noticeSlot .stationState (some st)] =
          if (before st).state ≠ .offline ∧ s.port.mask[(0 : Fin 11)] = true then some (stateFlag s st) else none) ∧
      (∀ j : Fin 19, (∀ st ∈ l, j ≠ permitSlot st ∧ j ≠ ejectSlot st) → a'[j] = a[j]) ∧
      (∀ i : Fin 77, (∀ st ∈ l, i ≠ noticeSlot .stationState (some st)) → n'[i] = n[i]) := by
  induction l with
  | nil => exact fun _ a n _ => ⟨a, n, rfl, nofun, fun _ _ => rfl, fun _ _ => rfl⟩
  | cons st l ih =>
    intro hl a n hfree
    obtain ⟨hst, hrest⟩ := List.nodup_cons.mp hl
    obtain ⟨hp, he, hn⟩ := hfree st List.mem_cons_self
    have hother {sx : Fin 6} (hx : sx ∈ l) : sx ≠ st := fun e => hst (e ▸ hx)
    obtain ⟨a', n', hfold, hin, ha, hn'⟩ := ih hrest (restartSlate s a st (before st)) (restartNotices s n st (before st)) fun sx hx => by
      obtain ⟨hpx, hex, hnx⟩ := hfree sx (List.mem_cons_of_mem st hx)
      refine ⟨?_, ?_, ?_⟩
      · rw [restartSlate_of_ne _ _ _ _ (fun e => hother hx (permitSlot_injective e)) (permitSlot_ne_ejectSlot sx st), hpx]
      · rw [restartSlate_of_ne _ _ _ _ (permitSlot_ne_ejectSlot st sx).symm fun e => hother hx (ejectSlot_injective e), hex]
      · rw [restartNotices_of_ne _ _ _ _ fun e => hother hx (Option.some.inj (noticeSlot_injective e).2), hnx]
    refine ⟨a', n', ?_, fun sx hx => ?_, fun j hj => ?_, fun i hi => ?_⟩
    · rw [List.foldl_cons, announceRestart_dressed s a n st (before st) hn, hfold]
    · obtain rfl | hx := List.mem_cons.mp hx
      · refine ⟨?_, ?_, ?_⟩
        · rw [ha _ fun sy hy => ⟨fun e => hother hy (permitSlot_injective e).symm, permitSlot_ne_ejectSlot sx sy⟩,
            restartSlate_permit s a sx _ hp]
        · rw [ha _ fun sy hy => ⟨(permitSlot_ne_ejectSlot sy sx).symm, fun e => hother hy (ejectSlot_injective e).symm⟩,
            restartSlate_eject s a sx _ he]
        · rw [hn' _ fun sy hy e => hother hy (Option.some.inj (noticeSlot_injective e).2).symm, restartNotices_self s n sx _ hn]
      · exact hin sx hx
    · rw [ha j fun sx hx => hj sx (List.mem_cons_of_mem st hx),
        restartSlate_of_ne s a st _ (hj st List.mem_cons_self).1 (hj st List.mem_cons_self).2]
    · rw [hn' i fun sx hx => hi sx (List.mem_cons_of_mem st hx), restartNotices_of_ne s n st _ (hi st List.mem_cons_self)]

/-! ### The store (R166) -/

theorem dropFor_positions (n : Nat) (l : List (List Byte)) {x : Store} (h : x.cursor = x.autoPos) :
    (Store.dropFor n l x).cursor = (Store.dropFor n l x).autoPos := by
  induction l generalizing x with
  | nil => exact h
  | cons r rest ih =>
    unfold Store.dropFor
    split
    · refine ih ?_
      unfold Store.dropOldest
      dsimp only
      rw [h]
    · exact h

/-- Room made with no record passed: the cursor stays with the auto-send position. -/
theorem makeRoom_positions {s : State} (n : Nat) (h : s.store.cursor = s.store.autoPos) :
    (s.makeRoom n).store.cursor = (s.makeRoom n).store.autoPos := by
  cases hp : s.store.settings.policy with
  | hold => rwa [Claim.makeRoom_hold n hp]
  | overwrite =>
    unfold State.makeRoom
    rw [hp]
    dsimp only
    split
    · exact dropFor_positions n _ h
    · rw [State.store_raise]
      exact dropFor_positions n _ h

/-- Nothing is dropped where the room is there, or under HOLD (R155, R156). -/
theorem makeRoom_of_room {s : State} {n : Nat} (h : s.store.settings.policy = .hold ∨ n ≤ s.store.free) : s.makeRoom n = s := by
  cases hp : s.store.settings.policy with
  | hold => exact Claim.makeRoom_hold n hp
  | overwrite =>
    have hfree : n ≤ s.store.free := h.resolve_left fun e => Policy.noConfusion (hp.symm.trans e)
    have hdrop : Store.dropFor n s.store.ring s.store = s.store := by
      cases hring : s.store.ring with
      | nil => rfl
      | cons r rest => exact if_neg (Nat.not_lt.mpr hfree)
    unfold State.makeRoom
    rw [hp]
    dsimp only
    rw [hdrop, if_pos ⟨rfl, rfl⟩]

theorem markEntries_eq_nil_iff (s : State) : s.markEntries = [] ↔ ∀ st, (s.station st).ctx = none := by
  unfold State.markEntries
  simp

/-- With no cycle the store loses its send and reservations alone. -/
theorem appendRestartMark_of_none {s : State} (h : ∀ st, (s.station st).ctx = none) :
    s.appendRestartMark = s.modStore Store.abandon := by
  unfold State.appendRestartMark
  rw [(markEntries_eq_nil_iff s).mpr h]
  rfl

/-- With a cycle a RESTART_MARK is appended; nothing passes to auto-send. -/
theorem appendRestartMark_of_some {s : State} {st : Fin 6} (h : (s.station st).ctx ≠ none) :
    let mark := restartMarkRecord s s.store.reservations s.markEntries
    let x := ((s.modStore Store.abandon).makeRoom mark.length).store
    ∃ p b l, s.appendRestartMark = { s with port := p, store := { x with
      ring := x.ring ++ [mark], next := x.next + 1, held := x.held + mark.length, backlogArmed := b, storeLowArmed := l } } := by
  intro mark x
  have hsome : ¬s.markEntries.isEmpty = true := fun e => h ((markEntries_eq_nil_iff s).mp (List.isEmpty_iff.mp e) st)
  have happend : s.appendRestartMark = ((s.modStore Store.abandon).makeRoom mark.length).pushRecord mark false := if_neg hsome
  obtain ⟨p, y, hroom, -⟩ := (s.modStore Store.abandon).makeRoom_eq mark.length
  have hx : x = y := by
    rw [show x = ((s.modStore Store.abandon).makeRoom mark.length).store from rfl, hroom]
  rw [happend, Claim.pushRecord_rule, hroom, hx]
  dsimp only
  simp only [Bool.false_eq_true, false_and, if_false]
  generalize hu : State.mk _ _ _ _ _ _ _ _ _ _ _ _ _ = u
  obtain ⟨q, b, hb⟩ := u.testBacklog_eq
  rw [hb]
  obtain ⟨r, l, hl⟩ := State.testLow_eq { u with port := q, store := { u.store with backlogArmed := b } }
  rw [hl]
  subst hu
  exact ⟨r, b, l, rfl⟩

/-- The part once its runtime is cleared, with the store `x`, before the announcements (R188). -/
def restartBase (s : State) (x : Store) : State :=
  { s with
    mode := .config, now := 0, port := s.port.restarted, stations := Vector.ofFn fun st : Fin 6 => (s.station st).restarted,
    weigher := s.weigher.restarted, arbiter := { queue := [], granted := none }, store := x.rearm }

theorem appendRestartMark_eq (s : State) : ∃ p x, s.appendRestartMark = { s with port := p, store := x } := by
  by_cases h : ∀ st, (s.station st).ctx = none
  · exact ⟨s.port, _, appendRestartMark_of_none h⟩
  · obtain ⟨st, hst⟩ := not_forall.mp h
    obtain ⟨p, b, l, happend⟩ := appendRestartMark_of_some hst
    exact ⟨p, _, happend⟩

theorem clearRuntime_appendRestartMark (s : State) : s.appendRestartMark.clearRuntime = restartBase s s.appendRestartMark.store := by
  obtain ⟨p, x, h⟩ := appendRestartMark_eq s
  have hport : p.restarted = s.port.restarted := by
    have hline := s.line_appendRestartMark
    rw [h] at hline
    have herrors : p.lineErrors = s.port.lineErrors := congrArg LineView.lineErrors hline
    have hroutes : p.routes = s.port.routes := congrArg LineView.routes hline
    have hmask : p.mask = s.port.mask := congrArg LineView.mask hline
    unfold Port.restarted
    rw [herrors, hroutes, hmask]
  rw [h]
  unfold State.clearRuntime restartBase
  rw [← hport]
  rfl

theorem station_restartBase (s : State) (x : Store) (st : Fin 6) : (restartBase s x).station st = (s.station st).restarted := by
  simp [restartBase, State.station]

/-- The RESTART (R188): the runtime cleared, and what waits for the line master and in the notices. -/
theorem restart_eq (s : State) : let base := restartBase s s.appendRestartMark.store
    ∃ a n, s.restart = dressed base a n ∧
      (∀ st, a[dutySlot st] = none ∧
        a[permitSlot st] = (if (s.station st).state.permission = .none then none else permitCommand base st) ∧
        a[ejectSlot st] = (if (s.station st).demould.wanted = .retract then none else ejectCommand base st) ∧
        n[noticeSlot .stationState (some st)] =
          if (s.station st).state ≠ .offline ∧ s.port.mask[(0 : Fin 11)] = true then some (stateFlag base st) else none) ∧
      a[gateSlot] = (if s.weigher.wantedGate = .neutral then none
        else (s.nodeOf .weigher 255).map (commandFrame 8 (put8 0 ++ put8 Gate.neutral.stationCode))) ∧
      ∀ i : Fin 77, (∀ st : Fin 6, i ≠ noticeSlot .stationState (some st)) → n[i] = none := by
  intro base
  have hslate (j : Fin 19) : base.port.slate[j] = none := Vector.getElem_replicate j.isLt
  have hnotices (i : Fin 77) : base.port.notices[i] = none := Vector.getElem_replicate i.isLt
  obtain ⟨a, n, hfold, hin, ha, hn⟩ := foldl_announceRestart base (fun st => s.station st) (List.finRange 6) (List.nodup_finRange 6)
    base.port.slate base.port.notices fun st _ => ⟨hslate _, hslate _, hnotices _⟩
  have hrestart : s.restart = if s.weigher.wantedGate = .neutral then dressed base a n else (dressed base a n).placeGate := by
    unfold State.restart
    dsimp only
    rw [clearRuntime_appendRestartMark]
    exact congrArg (fun u : State => if s.weigher.wantedGate = .neutral then u else u.placeGate) hfold
  have hpermit (st : Fin 6) : permitSlot st ≠ gateSlot := fun e => by
    have := congrArg Fin.val e
    simp only [permitSlot, gateSlot] at this
    omega
  have heject (st : Fin 6) : ejectSlot st ≠ gateSlot := fun e => by
    have := congrArg Fin.val e
    simp only [ejectSlot, gateSlot] at this
    omega
  have hduty (st : Fin 6) : dutySlot st ≠ gateSlot ∧ ∀ sx, dutySlot st ≠ permitSlot sx ∧ dutySlot st ≠ ejectSlot sx := by
    refine ⟨fun e => ?_, fun sx => ⟨fun e => ?_, fun e => ?_⟩⟩
    all_goals
      have := congrArg Fin.val e
      simp only [dutySlot, permitSlot, ejectSlot, gateSlot] at this
      omega
  let g : Option OutFrame := if s.weigher.wantedGate = .neutral then none
    else (s.nodeOf .weigher 255).map (commandFrame 8 (put8 0 ++ put8 Gate.neutral.stationCode))
  have hgate : s.restart = dressed base (filled a gateSlot g) n := by
    rw [hrestart]
    by_cases h : s.weigher.wantedGate = .neutral
    · rw [if_pos h, show g = none from if_pos h]
      rfl
    · rw [if_neg h, placeGate_dressed, show g = _ from if_neg h]
      rfl
  refine ⟨filled a gateSlot g, n, hgate, fun st => ?_, ?_, fun i hi => ?_⟩
  · obtain ⟨hp, he, hnote⟩ := hin st (List.mem_finRange st)
    refine ⟨?_, ?_, ?_, hnote⟩
    · rw [filled_of_ne a (hduty st).1, ha _ fun sx _ => (hduty st).2 sx, hslate]
    · rw [filled_of_ne a (hpermit st), hp]
    · rw [filled_of_ne a (heject st), he]
  · refine filled_self a gateSlot g ?_
    rw [ha _ fun sx _ => ⟨(hpermit sx).symm, (heject sx).symm⟩, hslate]
  · rw [hn i fun st _ => hi st, hnotices]

theorem restartDue_iff (s : State) : s.restartDue = true ↔ s.port.buffer = .restarting ∧ ∃ f, s.port.sending = some f ∧
    s.nodeAddress = some f.src ∧ f.kind = 10 ∧ Claim.byteAt f.payload 0 = 3 ∧ Claim.byteAt f.payload 1 = 0 := by
  have hbyte (p : List Byte) (i : Nat) (b : Byte) : p.getD i 0 = b ↔ Claim.byteAt p i = b.toNat :=
    ⟨fun h => congrArg BitVec.toNat h, BitVec.eq_of_toNat_eq⟩
  unfold State.restartDue
  cases s.port.sending with
  | none => simp
  | some f =>
    simp only [Option.any_some, Bool.and_eq_true, beq_iff_eq, hbyte, Option.some.injEq, exists_eq_left', and_assoc]
    rfl

end Sys2Proof.Machine
end

section
/-! PROOFS. O45: the end of a transmission, and the RESTART that takes effect at it (R166, R175, R188). -/

namespace Sys2Proof.Claim

open Sys2Proof.Machine

/-- The store after a RESTART, before its armed flags are set (R166). -/
theorem restartStore_of_none {s : State} (h : ∀ st, (s.station st).ctx = none) :
    s.appendRestartMark.store = { s.store with cursor := s.store.autoPos, sender := none, reservations := 0 } := by
  rw [appendRestartMark_of_none h]
  rfl

theorem restartStore_of_some {s : State} {st : Fin 6} (h : (s.station st).ctx ≠ none) :
    let mark := restartMarkRecord s s.store.reservations s.markEntries
    let x := s.appendRestartMark.store
    x.next = s.store.next + 1 ∧ x.ring.getLast? = some mark ∧ x.cursor = x.autoPos ∧
    (s.store.settings.policy = .hold ∨ mark.length ≤ 16384 - s.store.held →
      x.ring = s.store.ring ++ [mark] ∧ x.oldest = s.store.oldest ∧ x.held = s.store.held + mark.length ∧
      x.cursor = s.store.autoPos ∧ x.overrun = s.store.overrun) := by
  intro mark x
  obtain ⟨p, b, l, happend⟩ := appendRestartMark_of_some h
  obtain ⟨q, y, hroom, hnext, -⟩ := (s.modStore Store.abandon).makeRoom_eq mark.length
  have hx : x = s.appendRestartMark.store := rfl
  rw [happend] at hx
  have hpositions : ((s.modStore Store.abandon).makeRoom mark.length).store.cursor =
      ((s.modStore Store.abandon).makeRoom mark.length).store.autoPos := makeRoom_positions _ rfl
  rw [hx]
  refine ⟨?_, List.getLast?_concat, hpositions, fun hfree => ?_⟩
  · show ((s.modStore Store.abandon).makeRoom mark.length).store.next + 1 = _
    rw [hroom]
    exact congrArg (· + 1) hnext
  · have hsame : (s.modStore Store.abandon).makeRoom mark.length = s.modStore Store.abandon := makeRoom_of_room hfree
    show _ ∧ _ ∧ _ ∧ _ ∧ _
    rw [show (s.modStore Store.abandon).makeRoom (restartMarkRecord s s.store.reservations s.markEntries).length = _ from hsame]
    exact ⟨rfl, rfl, rfl, rfl, rfl⟩

theorem dropFor_no_sender (n : Nat) (l : List (List Byte)) {x : Store} (h : x.sender = none) : (Store.dropFor n l x).sender = none := by
  induction l generalizing x with
  | nil => exact h
  | cons r rest ih =>
    unfold Store.dropFor
    split
    · refine ih ?_
      unfold Store.dropOldest
      dsimp only
      rw [h]
      rfl
    · exact h

theorem makeRoom_no_sender {s : State} (n : Nat) (h : s.store.sender = none) : (s.makeRoom n).store.sender = none := by
  cases hp : s.store.settings.policy with
  | hold => rwa [makeRoom_hold n hp]
  | overwrite =>
    unfold State.makeRoom
    rw [hp]
    dsimp only
    split
    · exact dropFor_no_sender n _ h
    · rw [State.store_raise]
      exact dropFor_no_sender n _ h

/-- What the store after a RESTART keeps and loses in every case (R157, R166). -/
theorem restartStore_kept (s : State) : let x := s.appendRestartMark.store
    x.settings = s.store.settings ∧ x.sender = none ∧ x.reservations = 0 := by
  by_cases h : ∀ st, (s.station st).ctx = none
  · rw [restartStore_of_none h]
    exact ⟨rfl, rfl, rfl⟩
  · obtain ⟨st, hst⟩ := not_forall.mp h
    obtain ⟨p, b, l, happend⟩ := appendRestartMark_of_some hst
    obtain ⟨q, y, hroom, -, hreservations, hsettings⟩ :=
      (s.modStore Store.abandon).makeRoom_eq (restartMarkRecord s s.store.reservations s.markEntries).length
    have hsender := makeRoom_no_sender (s := s.modStore Store.abandon)
      (restartMarkRecord s s.store.reservations s.markEntries).length rfl
    rw [hroom] at hsender happend
    rw [happend]
    exact ⟨hsettings, hsender, hreservations⟩

theorem silenceOf_iff (e : RouteEntry) (now : Time) : silenceOf e now =
    if e.present = true ∧ (e.role = 0 ∨ e.role = 2 ∨ e.role = 3 ∨ e.role = 4) then .running now else .stopped := by
  unfold silenceOf hasSilence
  simp only [Bool.and_eq_true, Bool.or_eq_true, beq_iff_eq, or_assoc]
  rfl

/-- Settles O45. -/
theorem restartAndTransmissionEnd : Obligations.RestartAndTransmissionEnd := by
  intro s
  refine ⟨restartDue_iff s, fun h => ?_, fun h => ?_, fun h => ⟨?_, ?_⟩⟩
  · show Host.Outcome.next s.endTransmission.beginSend = _
    unfold State.endTransmission
    rw [h]
    rfl
  · show Host.Outcome.next (State.beginSend (if s.restartDue then s.restart else s)) = _
    rw [h]
    rfl
  · show Host.Outcome.next s.endTransmission.beginSend = Host.Outcome.next (State.beginSend (if s.restartDue then s.restart else s))
    unfold State.endTransmission
    rw [h]
    rfl
  · have hexec : exec .restartTakeEffect s = .next s.restart.beginSend := by
      show Host.Outcome.next (State.beginSend (if s.restartDue then s.restart else s)) = _
      rw [if_pos h]
    obtain ⟨a, n, hrestart, hstation, hgate, hnotices⟩ := restart_eq s
    obtain ⟨hsettings, hsender, hreservations⟩ := restartStore_kept s
    refine ⟨s.restart, hexec, ?_⟩
    rw [hrestart]
    refine ⟨rfl, rfl, rfl, rfl, fun st => ?_, hgate, hnotices, rfl, rfl, rfl, rfl, rfl, rfl, rfl, rfl, rfl, rfl, rfl, rfl, rfl, rfl, rfl,
      fun e => ?_, rfl, rfl, rfl, hsettings, hsender, hreservations, decide_eq_true_iff, decide_eq_true_iff, fun hnone => ?_,
      fun mark cycles ⟨st, hsome⟩ hcycles hmark => ?_⟩
    · obtain ⟨hduty, hpermit, heject, hnote⟩ := hstation st
      refine ⟨station_restartBase s s.appendRestartMark.store st, hduty, ?_, ?_, ?_⟩
      · refine hpermit.trans ?_
        rw [permitCommand, station_restartBase]
        rfl
      · refine heject.trans ?_
        rw [ejectCommand, station_restartBase]
        rfl
      · refine hnote.trans ?_
        rw [stateFlag, station_restartBase]
        rfl
    · refine Eq.trans ?_ (silenceOf_iff s.port.routes[e] 0)
      simp [dressed, restartBase, Port.restarted]
    · have hstore := restartStore_of_none hnone
      refine ⟨?_, ?_, ?_, ?_, ?_, ?_, ?_⟩ <;> simp [dressed, restartBase, Store.rearm, hstore]
    · subst hmark
      rw [hcycles]
      exact restartStore_of_some hsome

end Sys2Proof.Claim
end

section
/-! PROOFS. The supervisor's part of a round (R67 to R78) as writes of the station: zones, windows, the context and the lost flags. -/

namespace Sys2Proof.Machine

/-! ### What no entry and no append writes of a station -/

/-- The zones and the lost flags of a station. -/
def State.platens (s : State) (st : Fin 6) : Vector Zone 16 × Vector Bool 2 := ((s.station st).zones, (s.station st).lost)

section
variable (s : State) (st sx : Fin 6)

theorem State.platens_modStation {f : Station → Station} (h : ∀ x, (f x).zones = x.zones ∧ (f x).lost = x.lost) :
    (s.modStation st f).platens sx = s.platens sx := by
  unfold State.platens
  by_cases e : sx = st
  · subst e
    obtain ⟨hz, hl⟩ := h (s.station sx)
    rw [State.station_modStation_self, hz, hl]
  · rw [State.station_modStation_of_ne _ _ e]

theorem State.platens_of_station {s t : State} {sx : Fin 6} (h : t.station sx = s.station sx) : t.platens sx = s.platens sx := by
  unfold State.platens
  rw [h]

theorem State.platens_setState (x : StationState) : (s.setState st x).platens sx = s.platens sx := by
  unfold State.platens
  by_cases e : sx = st
  · subst e
    rw [State.station_setState_self]
  · rw [State.station_setState_of_ne _ _ e]

theorem State.platens_raiseStationState : (s.raiseStationState st).platens sx = s.platens sx :=
  State.platens_of_station (State.station_raiseStationState _ _ _)

theorem State.platens_resolveAfresh : (s.resolveAfresh st).platens sx = s.platens sx := s.platens_modStation st sx fun _ => ⟨rfl, rfl⟩

theorem State.platens_createContext (r : Reservation) : (s.createContext st r).platens sx = s.platens sx :=
  s.platens_modStation st sx fun _ => ⟨rfl, rfl⟩

theorem State.platens_recipeMissing : (s.recipeMissing st).platens sx = s.platens sx := by
  unfold State.recipeMissing
  rw [State.platens_of_station (State.station_raise _ _ _ _ _), State.platens_raiseStationState, State.platens_setState]
  rfl

theorem State.platens_grant : (s.grant st).platens sx = s.platens sx := by
  have hreserve : (if s.store.settings.policy = .hold then s.reserve else s).platens sx = s.platens sx := by
    split
    · exact State.platens_of_station (State.station_of_beside (State.beside_reserve s))
    · rfl
  unfold State.grant
  dsimp only
  rw [State.platens_of_station (State.station_of_beside (State.beside_armWeigher _ _)), State.platens_resolveAfresh,
    State.platens_setState, State.platens_createContext]
  exact hreserve

theorem State.platens_consider : s.consider.platens sx = s.platens sx :=
  State.consider_induction (P := fun t => t.platens sx = s.platens sx) rfl (fun t sy _ h => (t.platens_recipeMissing sy sx).trans h)
    fun t sy _ h _ _ => (t.platens_grant sy sx).trans h

theorem State.platens_leaveQueue : (s.leaveQueue st).platens sx = s.platens sx := by
  unfold State.leaveQueue
  dsimp only
  split
  · rfl
  · exact State.platens_consider _ sx

theorem State.platens_appendCycle (r : Reservation) (b : List Byte) : (s.appendCycle r b).platens sx = s.platens sx := by
  have hpushed : (((s.useReservation r).makeRoom b.length).pushRecord b true).platens sx = s.platens sx :=
    State.platens_of_station (State.station_of_beside (by rw [State.beside_pushRecord, State.beside_makeRoom, State.beside_useReservation]))
  unfold State.appendCycle State.pushAndReport
  dsimp only
  split
  · rw [State.platens_consider, hpushed]
  · exact hpushed

theorem State.platens_endGrant : s.endGrant.platens sx = s.platens sx := rfl

theorem State.platens_releaseContext : (s.releaseContext st).platens sx = s.platens sx :=
  (State.platens_resolveAfresh _ _ _).trans (s.platens_modStation st sx fun _ => ⟨rfl, rfl⟩)

theorem State.platens_abortWeigh : (s.abortWeigh st).platens sx = s.platens sx := by
  have hclearing (u : State) (g : Gate) : (u.enterClearing g).platens sx = u.platens sx := by
    refine State.platens_of_station ?_
    simp
  unfold State.abortWeigh
  rw [hclearing]
  cases h : s.ctx? st with
  | none =>
    rw [Claim.rejectCycle_of_no_ctx h]
    rfl
  | some c =>
    rw [Claim.rejectCycle_of_ctx h, State.platens_of_station (State.station_raise _ _ _ _ _), State.platens_endGrant,
      State.platens_releaseContext, State.platens_appendCycle]

theorem State.platens_stopWork : (s.stopWork st).platens sx = s.platens sx := by
  have heject (u : State) : (u.wantEject st .retract).platens sx = u.platens sx := by
    unfold State.wantEject
    dsimp only
    split
    · rfl
    · rw [State.placeEject, State.platens_of_station (State.station_placeCommand _ _ _ _ _ _ _)]
      exact u.platens_modStation st sx fun _ => ⟨rfl, rfl⟩
  have hctx (f : Context → Context) : (s.modCtx st f).platens sx = s.platens sx := s.platens_modStation st sx fun _ => ⟨rfl, rfl⟩
  unfold State.stopWork
  split
  · exact hctx _
  · exact hctx _
  · exact (heject _).trans (hctx _)
  · exact (heject _).trans (hctx _)
  · rfl

/-- Entry to LATCHED from any state (R18). -/
theorem station_enterLatched (cause : Cause) : let t := s.enterLatched st cause
    (t.station st).state = .latched ∧ (t.station st).cause = cause ∧ (t.station st).runEnable = false ∧
    (t.station st).holdTimer = .stopped ∧ t.platens st = s.platens st := by
  intro t
  have hstopped : ((if (s.station st).state = .charging then s.abortWeigh st else s).stopWork st).platens st = s.platens st := by
    rw [State.platens_stopWork]
    split
    · exact s.platens_abortWeigh st st
    · rfl
  have hbeside : t.station st = (((((if (s.station st).state = .charging then s.abortWeigh st else s).stopWork st).modStation st fun x =>
      { x with holdTimer := .stopped, runEnable := false, cause := cause, ctx := x.ctx.map (·.markHeld cause) }).setState st
        .latched).station st) := by
    show (State.enterLatched s st cause).station st = _
    unfold State.enterLatched
    dsimp only
    split
    · rw [State.station_of_beside (State.beside_leaveQueue _ _), State.station_raiseStationState]
    · rw [State.station_raiseStationState]
  unfold State.platens at hstopped ⊢
  rw [hbeside, State.station_setState_self, State.station_modStation_self]
  exact ⟨rfl, rfl, rfl, rfl, hstopped⟩

end

end Sys2Proof.Machine
end

section
/-! PROOFS. The supervisor's part of a round (R67) as an equation: the ZONE_FAULT notices, then one write of the station, then PLATEN_LOST. -/

namespace Sys2Proof.Claim

open Sys2Proof.Machine

/-! ### The parts of a judged station -/

/-- The value fields of the ZONE_FAULT of a zone (R77). -/
def zoneFaultValues (x : Station) (start : StationState) (i : Fin 16) : List Byte :=
  put8 i.val ++ put8 ((x.zones[i]).judgeFault).fault.code ++ putOpt 2 put16 ((x.zones[i]).judgeFault).reading ++ put8 start.code ++
    putTime x.cycleNumber ++ putFlag x.ctx.isSome

/-- The part with ZONE_FAULT raised for each zone of a list. -/
def zoneFaultsTold (s : State) (st : Fin 6) (x : Station) (start : StationState) (l : List (Fin 16)) : State :=
  l.foldl (fun (u : State) (i : Fin 16) => u.raise .zoneFault (some st) (zoneFaultValues x start i)) s

/-- A context with the faults of the zones of a list noted (R76). -/
def faultsNoted (x : Station) (l : List (Fin 16)) (c : Context) : Context :=
  l.foldl (fun (c : Context) (i : Fin 16) => c.noteFault i ((x.zones[i]).judgeFault)) c

/-- The zones once the supervisor has judged faults and windows. -/
def judgedZones (x : Station) (ramping : Vector Bool 4) : Vector Zone 16 :=
  Vector.ofFn fun i : Fin 16 => ((x.zones[i]).judgeFault).judgeWindow ramping[(x.zones[i]).entry.group]

/-- The number of judged zones in service out of their windows (R70). -/
def judgedOut (x : Station) (ramping : Vector Bool 4) : Nat :=
  ((List.finRange 16).filter fun i => ((judgedZones x ramping)[i]).outOfWindow).length

/-- The context once the supervisor has judged the round. -/
def judgedCtx (x : Station) (start : StationState) (ramping : Vector Bool 4) (c : Context) : Context :=
  if start = .curing then (faultsNoted x x.faultsTaken c).addExcursions (judgedOut x ramping) else c

/-- The station once the supervisor has judged the round, before PLATEN_LOST. -/
def judgedStation (x : Station) (start : StationState) (ramping : Vector Bool 4) : Station :=
  let y := { x with zones := judgedZones x ramping, ctx := x.ctx.map (judgedCtx x start ramping) }
  { y with lost := Vector.ofFn y.platenLost }

/-! ### The equation -/

theorem raise_withStation (s : State) (st : Fin 6) (x : Station) (k : NoticeKind) (key : Option (Fin 6)) (v : List Byte) :
    (withStation s st x).raise k key v = withStation (s.raise k key v) st x := by
  unfold State.raise
  by_cases h : s.port.mask[k.index] = true
  · rw [if_pos h, if_pos (by exact h)]
    rfl
  · rw [if_neg h, if_neg (by exact h)]

/-- The notes of a list of faulted zones. -/
theorem foldl_noteFault (st : Fin 6) (start : StationState) (x : Station) (l : List (Fin 16)) (u : State) (k : Option Context)
    (hk : k.isSome = x.ctx.isSome) :
    l.foldl (fun (t : State) (i : Fin 16) => t.noteFault st start i)
        (withStation u st { x with zones := Vector.ofFn fun i : Fin 16 => (x.zones[i]).judgeFault, ctx := k }) =
      withStation (zoneFaultsTold u st x start l) st { x with
        zones := Vector.ofFn fun i : Fin 16 => (x.zones[i]).judgeFault,
        ctx := if start = .curing then k.map (faultsNoted x l) else k } := by
  induction l generalizing u k with
  | nil =>
    have hid : faultsNoted x [] = id := rfl
    rw [hid, Option.map_id]
    simp [zoneFaultsTold]
  | cons i l ih =>
    have hzone : (Vector.ofFn fun i : Fin 16 => (x.zones[i]).judgeFault)[i] = (x.zones[i]).judgeFault := by simp
    have hstep : (withStation u st { x with zones := Vector.ofFn fun i : Fin 16 => (x.zones[i]).judgeFault, ctx := k }).noteFault
        st start i = withStation (u.raise .zoneFault (some st) (zoneFaultValues x start i)) st { x with
          zones := Vector.ofFn fun i : Fin 16 => (x.zones[i]).judgeFault,
          ctx := if start = .curing then k.map (·.noteFault i ((x.zones[i]).judgeFault)) else k } := by
      unfold State.noteFault
      dsimp only
      simp only [station_withStation, modCtx_withStation, hzone, hk]
      rw [← apply_ite (withStation u st), raise_withStation]
      congr 1
      split <;> rfl
    rw [List.foldl_cons, hstep, ih _ _ (by split <;> simp [hk])]
    unfold zoneFaultsTold
    rw [List.foldl_cons]
    congr 1
    split
    · rw [Option.map_map]
      rfl
    · rfl

/-- The station with its faults judged and noted (R71 to R76). -/
def faultedStation (x : Station) (start : StationState) : Station :=
  { x with
    zones := Vector.ofFn fun i : Fin 16 => (x.zones[i]).judgeFault,
    ctx := if start = .curing then x.ctx.map (faultsNoted x x.faultsTaken) else x.ctx }

/-- The station with its windows judged too (R68). -/
def windowedStation (x : Station) (start : StationState) (ramping : Vector Bool 4) : Station :=
  { x with zones := judgedZones x ramping, ctx := if start = .curing then x.ctx.map (faultsNoted x x.faultsTaken) else x.ctx }

theorem judgeWindows_faultedStation (x : Station) (start : StationState) (ramping : Vector Bool 4) :
    (faultedStation x start).judgeWindows ramping = windowedStation x start ramping := by
  have hzones : (Vector.ofFn fun i : Fin 16 => ((faultedStation x start).zones[i]).judgeWindow
      ramping[((faultedStation x start).zones[i]).entry.group]) = judgedZones x ramping := by
    unfold judgedZones faultedStation
    simp
  unfold Station.judgeWindows
  rw [hzones]
  rfl

theorem outCount_windowedStation (x : Station) (start : StationState) (ramping : Vector Bool 4) :
    (windowedStation x start ramping).outCount = judgedOut x ramping := rfl

/-- The excursions are added last to the context (R67, R70). -/
theorem addExcursions_windowedStation (x : Station) (start : StationState) (ramping : Vector Bool 4) :
    (if start = .curing then { windowedStation x start ramping with
        ctx := (windowedStation x start ramping).ctx.map (·.addExcursions (judgedOut x ramping)) }
      else windowedStation x start ramping) =
      { x with zones := judgedZones x ramping, ctx := x.ctx.map (judgedCtx x start ramping) } := by
  unfold judgedCtx windowedStation
  split
  · dsimp only
    rw [Option.map_map]
    rfl
  · rw [show (fun c : Context => c) = id from rfl, Option.map_id]
    rfl

theorem superviseFaults_eq (s : State) (st : Fin 6) (start : StationState) : s.superviseFaults st start =
    withStation (zoneFaultsTold s st (s.station st) start (s.station st).faultsTaken) st (faultedStation (s.station st) start) :=
  foldl_noteFault st start (s.station st) (s.station st).faultsTaken s (s.station st).ctx rfl

/-- A platen newly lost (R78). -/
def newlyLost (x y : Station) : Bool := (y.platenLost 0 && !x.lost[0]) || (y.platenLost 1 && !x.lost[1])

theorem supervisePlatens_withStation (u : State) (st : Fin 6) (y : Station) : (withStation u st y).supervisePlatens st =
    if newlyLost y y then (withStation u st { y with lost := Vector.ofFn y.platenLost }).takePlatenLost st
    else withStation u st { y with lost := Vector.ofFn y.platenLost } := by
  unfold State.supervisePlatens
  dsimp only
  rw [modStation_withStation, station_withStation]
  rfl

/-- The supervisor's part of a round (R67). -/
theorem supervise_eq (s : State) (st : Fin 6) (start : StationState) (ramping : Vector Bool 4) : let x := s.station st
    let n := withStation (zoneFaultsTold s st x start x.faultsTaken) st (judgedStation x start ramping)
    s.supervise st start ramping = if newlyLost x (judgedStation x start ramping) then n.takePlatenLost st else n := by
  intro x n
  let u := zoneFaultsTold s st x start x.faultsTaken
  have hwindows : (s.superviseFaults st start).modStation st (·.judgeWindows ramping) =
      withStation u st (windowedStation x start ramping) := by
    rw [superviseFaults_eq, modStation_withStation, judgeWindows_faultedStation]
  have hexcursions : (if start = .curing then
      (withStation u st (windowedStation x start ramping)).modCtx st (·.addExcursions (judgedOut x ramping))
      else withStation u st (windowedStation x start ramping)) =
      withStation u st { x with zones := judgedZones x ramping, ctx := x.ctx.map (judgedCtx x start ramping) } := by
    rw [modCtx_withStation, ← apply_ite (withStation u st), addExcursions_windowedStation]
  unfold State.supervise
  dsimp only
  rw [hwindows, station_withStation, outCount_windowedStation, hexcursions, supervisePlatens_withStation]
  rfl

end Sys2Proof.Claim
end

section
/-! PROOFS. O23: what the supervisor's part of a round leaves of the notices and of the context, and the loss of a platen (R18, R67 to R78). -/

namespace Sys2Proof.Claim

open Sys2Proof.Machine

/-! ### The ZONE_FAULT notices (R77) -/

/-- The notices of faults touch the port alone, and in it one notice alone. -/
theorem zoneFaultsTold_eq (s : State) (st : Fin 6) (x : Station) (start : StationState) (l : List (Fin 16)) :
    ∃ notices, zoneFaultsTold s st x start l = { s with port := { s.port with notices := notices } } ∧
      ∀ j : Fin 77, j ≠ noticeSlot .zoneFault (some st) → notices[j] = s.port.notices[j] := by
  induction l using List.reverseRecOn with
  | nil => exact ⟨s.port.notices, rfl, fun _ _ => rfl⟩
  | append_singleton l i ih =>
    obtain ⟨notices, heq, hne⟩ := ih
    have hlast : zoneFaultsTold s st x start (l ++ [i]) =
        (zoneFaultsTold s st x start l).raise .zoneFault (some st) (zoneFaultValues x start i) := by
      unfold zoneFaultsTold
      rw [List.foldl_append]
      rfl
    by_cases hm : s.port.mask[(NoticeKind.zoneFault).index] = true
    · rw [hlast, heq, raise_of_enabled (by exact hm)]
      refine ⟨_, rfl, fun j hj => ?_⟩
      rw [← hne j hj]
      exact Vector.getElem_set_ne (noticeSlot .zoneFault (some st)).isLt j.isLt fun e => hj (Fin.ext e.symm)
    · rw [hlast, heq, raise_of_disabled (by exact Bool.eq_false_iff.mpr hm)]
      exact ⟨notices, rfl, hne⟩

/-- The notice counts every fault and carries the values of the last one. -/
theorem notice_zoneFaultsTold (s : State) (st : Fin 6) (x : Station) (start : StationState) (l : List (Fin 16)) (i : Fin 16)
    (hm : s.port.mask[(NoticeKind.zoneFault).index] = true) :
    (zoneFaultsTold s st x start (l ++ [i])).port.notices[noticeSlot .zoneFault (some st)] =
      some { count := min 255 ((s.port.notices[noticeSlot .zoneFault (some st)]).elim 0 (·.count) + (l ++ [i]).length), time := s.now,
             values := zoneFaultValues x start i } := by
  have hstep (l : List (Fin 16)) (i : Fin 16) : (zoneFaultsTold s st x start (l ++ [i])).port.notices[noticeSlot .zoneFault (some st)] =
      some { count := min 255 (((zoneFaultsTold s st x start l).port.notices[noticeSlot .zoneFault (some st)]).elim 0 (·.count) + 1),
             time := s.now, values := zoneFaultValues x start i } := by
    have hlast : zoneFaultsTold s st x start (l ++ [i]) =
        (zoneFaultsTold s st x start l).raise .zoneFault (some st) (zoneFaultValues x start i) := by
      unfold zoneFaultsTold
      rw [List.foldl_append]
      rfl
    obtain ⟨notices, heq, -⟩ := zoneFaultsTold_eq s st x start l
    rw [hlast, notices_raise_self (by rw [heq]; exact hm)]
    rw [heq]
  induction l using List.reverseRecOn generalizing i with
  | nil => exact hstep [] i
  | append_singleton l j ih =>
    have hcount : min 255 (min 255 ((s.port.notices[noticeSlot .zoneFault (some st)]).elim 0 (·.count) + (l ++ [j]).length) + 1) =
        min 255 ((s.port.notices[noticeSlot .zoneFault (some st)]).elim 0 (·.count) + (l ++ [j] ++ [i]).length) := by
      rw [List.length_append (bs := [i]), List.length_singleton]
      omega
    rw [hstep (l ++ [j]) i, ih j, Option.elim_some, hcount]

/-- A filtered list of zones ends with the last zone that passes. -/
theorem filter_finRange_eq_concat {p : Fin 16 → Bool} {i : Fin 16} (hi : p i = true) (hlast : ∀ j, i < j → p j = false) :
    ∃ l, (List.finRange 16).filter p = l ++ [i] := by
  have hmem : i ∈ (List.finRange 16).filter p := List.mem_filter.mpr ⟨List.mem_finRange i, hi⟩
  obtain hnil | ⟨l, j, hl⟩ := List.eq_nil_or_concat' ((List.finRange 16).filter p)
  · rw [hnil] at hmem
    exact (List.not_mem_nil hmem).elim
  · have hsorted : ((List.finRange 16).filter p).Pairwise (· < ·) := (List.sortedLT_finRange 16).pairwise.filter p
    rw [hl] at hmem hsorted
    have hj : p j = true := (List.mem_filter.mp (hl ▸ List.mem_append_right l (List.mem_singleton_self j))).2
    obtain h | h := List.mem_append.mp hmem
    · have hlt : i < j := (List.pairwise_append.mp hsorted).2.2 i h j (List.mem_singleton_self j)
      exact Bool.noConfusion (hj.symm.trans (hlast j hlt))
    · obtain rfl := List.mem_singleton.mp h
      exact ⟨l, hl⟩

/-! ### The context (R70, R76) -/

theorem noteFault_keeps (c : Context) (i : Fin 16) (z : Zone) : let d := c.noteFault i z
    d.cycle = c.cycle ∧ d.pieces = c.pieces ∧ d.snapshot = c.snapshot ∧ d.cure = c.cure ∧ d.eject = c.eject ∧
    d.excursions = c.excursions := ⟨rfl, rfl, rfl, rfl, rfl, rfl⟩

theorem faultsNoted_keeps (x : Station) (l : List (Fin 16)) (c : Context) : let d := faultsNoted x l c
    d.cycle = c.cycle ∧ d.pieces = c.pieces ∧ d.snapshot = c.snapshot ∧ d.cure = c.cure ∧ d.eject = c.eject ∧
    d.excursions = c.excursions := by
  induction l generalizing c with
  | nil => exact ⟨rfl, rfl, rfl, rfl, rfl, rfl⟩
  | cons i l ih => exact ih (c.noteFault i ((x.zones[i]).judgeFault))

theorem suspect_faultsNoted (x : Station) (l : List (Fin 16)) (c : Context) :
    (faultsNoted x l c).suspect = true ↔ c.suspect = true ∨ ∃ i ∈ l, (x.zones[i]).entry.cureRef = true := by
  induction l generalizing c with
  | nil => simp [faultsNoted]
  | cons i l ih =>
    have hcons : faultsNoted x (i :: l) c = faultsNoted x l (c.noteFault i ((x.zones[i]).judgeFault)) := rfl
    rw [hcons, ih]
    simp [Context.noteFault, or_assoc]

/-- The entry of the zone-fault list of a zone (R76). -/
def faultEntry (x : Station) (c : Context) (i : Fin 16) : FaultEntry :=
  { zone := i, fault := ((x.zones[i]).judgeFault).fault, progress := c.cure.progress }

/-- The zones of a list join the zone-fault list in order, each once, as far as there is place. -/
theorem faults_faultsNoted (x : Station) {l : List (Fin 16)} (hl : l.Nodup) {c : Context} (hc : c.faults.length ≤ 16) :
    (faultsNoted x l c).faults = (c.faults ++ (l.filter fun i => c.faults.all (·.zone != i)).map (faultEntry x c)).take 16 := by
  induction l generalizing c with
  | nil => simp [faultsNoted, List.take_of_length_le hc]
  | cons i l ih =>
    obtain ⟨hi, hl⟩ := List.nodup_cons.mp hl
    have hcons : faultsNoted x (i :: l) c = faultsNoted x l (c.noteFault i ((x.zones[i]).judgeFault)) := rfl
    have hnote : (c.noteFault i ((x.zones[i]).judgeFault)).faults =
        if c.faults.length < 16 ∧ ∀ f ∈ c.faults, f.zone ≠ i then c.faults ++ [faultEntry x c i] else c.faults := rfl
    have hentry : faultEntry x (c.noteFault i ((x.zones[i]).judgeFault)) = faultEntry x c := rfl
    have hall : c.faults.all (·.zone != i) = true ↔ ∀ f ∈ c.faults, f.zone ≠ i := by simp
    by_cases hnew : ∀ f ∈ c.faults, f.zone ≠ i
    · rw [List.filter_cons_of_pos (p := fun j => c.faults.all (·.zone != j)) (hall.mpr hnew)]
      by_cases hroom : c.faults.length < 16
      · have hfilter : (l.filter fun j => (c.faults ++ [faultEntry x c i]).all (·.zone != j)) = l.filter fun j => c.faults.all (·.zone != j) :=
          List.filter_congr fun j hj => by
            have : i ≠ j := fun e => hi (e ▸ hj)
            simp [faultEntry, this]
        rw [if_pos ⟨hroom, hnew⟩] at hnote
        rw [hcons, ih hl (by rw [hnote, List.length_append]; exact hroom), hnote, hentry, hfilter, List.map_cons, List.append_assoc]
        rfl
      · rw [if_neg fun h => hroom h.1] at hnote
        rw [hcons, ih hl (by rwa [hnote]), hnote, List.take_append_of_le_length (by omega), List.take_append_of_le_length (by omega)]
    · rw [if_neg fun h => hnew h.2] at hnote
      rw [hcons, ih hl (by rwa [hnote]), hnote, hentry, List.filter_cons_of_neg (p := fun j => c.faults.all (·.zone != j)) (mt hall.mp hnew)]

/-! ### PLATEN_LOST (R18, R78) -/

theorem source_eq_hold_iff {x : StationState} : x.source = .hold ↔ x = .hold ∨ x = .latched := by
  cases x <;> decide

section Lost
variable {n : State} {st : Fin 6}

theorem takePlatenLost_of_offline (h : (n.station st).state = .offline) : n.takePlatenLost st = n := by
  unfold State.takePlatenLost
  rw [h]

theorem takePlatenLost_of_latched (h : (n.station st).state = .latched) :
    n.takePlatenLost st = announced n st { n.station st with cause := .platenLost } := by
  unfold State.takePlatenLost
  rw [h]
  dsimp only
  rw [modStation_eq, raiseStationState_withStation]

theorem takePlatenLost_of_live (h : (n.station st).state ≠ .offline) (hl : (n.station st).state ≠ .latched) :
    n.takePlatenLost st = n.enterLatched st .platenLost := by
  unfold State.takePlatenLost
  split
  · next e => exact absurd e h
  · next e => exact absurd e hl
  · rfl

/-- A latch leaves the ZONE_FAULT notices, whatever it ends. -/
theorem zoneFault_enterLatched (cause : Cause) (sx : Fin 6) :
    (n.enterLatched st cause).port.notices[noticeSlot .zoneFault (some sx)] = n.port.notices[noticeSlot .zoneFault (some sx)] := by
  have habort : (n.abortWeigh st).port.notices[noticeSlot .zoneFault (some sx)] = n.port.notices[noticeSlot .zoneFault (some sx)] := by
    unfold State.abortWeigh
    rw [State.notices_of_side (State.side_enterClearing _ _) rfl]
    cases h : n.ctx? st with
    | none =>
      rw [rejectCycle_of_no_ctx h]
      rfl
    | some c =>
      rw [rejectCycle_of_ctx h, notices_raise_of_ne fun e => NoticeKind.noConfusion (noticeSlot_injective e).1]
      exact State.notices_of_side (by simp) rfl _
  have hside : (n.enterLatched st cause).side = (if (n.station st).state = .charging then n.abortWeigh st else n).side := by
    unfold State.enterLatched
    dsimp only
    generalize (if (n.station st).state = .charging then n.abortWeigh st else n) = u
    rw [stopWork_eq]
    split <;> simp
  rw [State.notices_of_side hside rfl]
  split
  · exact habort
  · rfl

theorem zoneFault_takePlatenLost (n : State) (st : Fin 6) :
    (n.takePlatenLost st).port.notices[noticeSlot .zoneFault (some st)] = n.port.notices[noticeSlot .zoneFault (some st)] := by
  unfold State.takePlatenLost
  split
  · rfl
  · exact State.notices_of_side (State.side_raiseStationState _ _) rfl _
  · exact zoneFault_enterLatched .platenLost st

theorem platens_takePlatenLost (n : State) (st : Fin 6) : (n.takePlatenLost st).platens st = n.platens st := by
  unfold State.takePlatenLost
  split
  · rfl
  · exact (State.platens_raiseStationState _ _ _).trans (n.platens_modStation st st fun _ => ⟨rfl, rfl⟩)
  · obtain ⟨-, -, -, -, h⟩ := station_enterLatched n st .platenLost
    exact h

/-- A context stands, but for what a latch stops and writes, where the station is not CHARGING. -/
theorem ctx_takePlatenLost (hcharging : (n.station st).state ≠ .charging) {c : Context} (hc : n.ctx? st = some c) :
    ∃ d, (n.takePlatenLost st).ctx? st = some d ∧ d.cycle = c.cycle ∧ d.pieces = c.pieces ∧ d.excursions = c.excursions ∧
      d.suspect = c.suspect ∧ d.faults = c.faults := by
  by_cases hoffline : (n.station st).state = .offline
  · rw [takePlatenLost_of_offline hoffline]
    exact ⟨c, hc, rfl, rfl, rfl, rfl, rfl⟩
  by_cases hlatched : (n.station st).state = .latched
  · rw [takePlatenLost_of_latched hlatched]
    refine ⟨c, ?_, rfl, rfl, rfl, rfl, rfl⟩
    unfold State.ctx?
    rw [station_announced]
    exact hc
  · rw [takePlatenLost_of_live hoffline hlatched, enterLatched_eq n st hcharging]
    obtain ⟨-, -, hcycle, -, -, -, hexcursions, hsuspect, hfaults, hpieces⟩ :=
      stoppedCtx_keeps n.now (n.station st).state .platenLost c
    exact ⟨_, by rw [ctx_enteredFrom (written_latched n.now .platenLost (n.station st)), hc]; rfl, hcycle, hpieces, hexcursions, hsuspect,
      hfaults⟩

/-- PLATEN_LOST in the words of O23, of a station that is not OFFLINE. -/
structure PlatenTaken (s t : State) (st : Fin 6) : Prop where
  state : (t.station st).state = .latched
  cause : (t.station st).cause = .platenLost
  stops : (s.station st).state ≠ .latched → (t.station st).runEnable = false ∧ (t.station st).holdTimer = .stopped
  told : (s.station st).state ≠ .charging → Told s t .stationState st (put8 10 ++ put8 7 ++ putTime (s.station st).cycleNumber)
  queue : (s.station st).state = .calling → st ∉ t.arbiter.queue
  charging : ∀ c, (s.station st).state = .charging → s.ctx? st = some c → s.weigher.granted = some st → s.weigher.state ≠ .idle →
    WeighAborted s t st c ∧ Told s t .stationState st (put8 10 ++ put8 7 ++ putTime (s.station st).cycleNumber)
  working : ∀ c, (s.station st).state ≠ .charging → (s.station st).state ≠ .latched → s.ctx? st = some c →
    ∃ d, t.ctx? st = some d ∧ d.aborted = true ∧ d.lastCause = .platenLost ∧ WorkStopped s t st c d
  entered : (s.station st).state ≠ .charging → (s.station st).state ≠ .hold → (s.station st).state ≠ .latched →
    HoldEntered s t st .latched .platenLost

theorem platenTaken_takePlatenLost (hoffline : (n.station st).state ≠ .offline) : PlatenTaken n (n.takePlatenLost st) st := by
  by_cases hlatched : (n.station st).state = .latched
  · rw [takePlatenLost_of_latched hlatched]
    have hno {x : StationState} (hx : (n.station st).state = x) (hne : x ≠ .latched) : False := hne (hx.symm.trans hlatched)
    refine ⟨by rw [station_announced]; exact hlatched, by rw [station_announced], fun h => absurd hlatched h, fun _ => ?_,
      fun h => (hno h nofun).elim, fun c h => (hno h nofun).elim, fun c _ h => absurd hlatched h, fun _ _ h => absurd hlatched h⟩
    have htold := told_announced (s := n) (st := st) { n.station st with cause := .platenLost }
    rwa [show ({ n.station st with cause := .platenLost } : Station).state = .latched from hlatched] at htold
  · rw [takePlatenLost_of_live hoffline hlatched]
    obtain ⟨hstate, hcause, hrun, htimer, -⟩ := station_enterLatched n st .platenLost
    have hz := written_latched n.now .platenLost (n.station st)
    refine ⟨hstate, hcause, fun _ => ⟨hrun, htimer⟩, fun h => told_enterLatched h, fun h => ?_, fun c h hc _ hw => charging_enterLatched h hc hw _,
      fun c h _ hc => ?_, fun h hhold _ => ?_⟩
    · rw [enterLatched_eq n st (by rw [h]; nofun)]
      exact (queue_enteredFrom (s := ejectStopped n st) (new := .latched)
        (z := latchedStation .platenLost (stoppedStation n.now (n.station st))) h).1
    · rw [enterLatched_eq n st h]
      obtain ⟨haborted, hlast, -⟩ := stoppedCtx_keeps n.now (n.station st).state .platenLost c
      exact ⟨_, by rw [ctx_enteredFrom hz, hc]; rfl, haborted, hlast, workStopped_enteredFrom hz c⟩
    · rw [enterLatched_eq n st h]
      exact holdEntered_enteredFrom hz (Or.inr rfl) fun e => (source_eq_hold_iff.mp e).elim hhold hlatched

theorem PlatenTaken.of_kin {s t : State} (k : Kin s n st) (hstate : (n.station st).state = (s.station st).state)
    (hctx : (s.station st).state = .charging → n.ctx? st = s.ctx? st) (h : PlatenTaken n t st) : PlatenTaken s t st := by
  obtain ⟨h1, h2, h3, h4, h5, h6, h7, h8⟩ := h
  rw [hstate] at h3 h4 h5 h6 h7 h8
  rw [k.cycleNumber] at h4 h6
  refine ⟨h1, h2, h3, fun h => (h4 h).of_part k.toSamePart, h5, fun c hcharging hc hg hw => ?_, fun c hx hl hc => ?_,
    fun hx hh hl => (h8 hx hh hl).of_kin k⟩
  · obtain ⟨ha, ht⟩ := h6 c hcharging (by rw [hctx hcharging, hc]) (by rw [k.weigher]; exact hg) (by rw [k.weigher]; exact hw)
    exact ⟨ha.of_part k.toSamePart, ht.of_part k.toSamePart⟩
  · obtain ⟨c', hc', hkin⟩ := k.ctx_some hc
    obtain ⟨d, hd, ha, hlast, hstopped⟩ := h7 c' hx hl hc'
    exact ⟨d, hd, ha, hlast, hstopped.of_kin k hkin⟩

end Lost

end Sys2Proof.Claim
end

section
/-! PROOFS. O23: the supervisor's part of a round settled (R67 to R78). -/

namespace Sys2Proof.Claim

open Sys2Proof.Machine

/-! ### What a judged zone is -/

theorem reading_judgeFault (z : Zone) : z.judgeFault.reading = z.reading := by
  have hstatus : z.countStatus.reading = z.reading ∧ z.countStatus.entry = z.entry := by
    unfold Zone.countStatus
    cases z.lastStatus <;> exact ⟨rfl, rfl⟩
  have hstuck (y : Zone) : y.countStuck.reading = y.reading := by
    unfold Zone.countStuck
    split
    · split <;> rfl
    · rfl
  have hopen (y : Zone) : y.countHeaterOpen.1.reading = y.reading := by
    unfold Zone.countHeaterOpen
    split
    · rfl
    · split
      · rfl
      · split
        · rfl
        · split
          · rfl
          · split <;> rfl
  unfold Zone.judgeFault
  split
  · rfl
  · dsimp only
    split
    · rw [hopen, hstuck, hstatus.1]
    · show (z.countStatus.countStuck.countHeaterOpen).1.reading = z.reading
      rw [hopen, hstuck, hstatus.1]

theorem fault_judgeWindow (z : Zone) (b : Bool) : (z.judgeWindow b).fault = z.fault := by
  unfold Zone.judgeWindow
  split
  · rfl
  · split <;> rfl

section
variable (x : Station) (start : StationState) (ramping : Vector Bool 4)

theorem judgedZones_get (i : Fin 16) :
    (judgedZones x ramping)[i] = ((x.zones[i]).judgeFault).judgeWindow ramping[(x.zones[i]).entry.group] := by
  unfold judgedZones
  simp

theorem inService_judgedZones (i : Fin 16) :
    ((judgedZones x ramping)[i]).inService = ((x.zones[i]).entry.present && ((x.zones[i]).judgeFault).fault == .none) := by
  unfold Zone.inService
  rw [judgedZones_get, Zone.entry_judgeWindow, fault_judgeWindow, Zone.entry_judgeFault]

/-- A platen is lost with a present zone on it and every present zone on it at fault (R78). -/
theorem platenLost_judgedStation (p : Fin 2) : (judgedStation x start ramping).platenLost p = true ↔
    (∃ i : Fin 16, i.val / 8 = p.val ∧ (x.zones[i]).entry.present = true) ∧
      ∀ i : Fin 16, i.val / 8 = p.val → (x.zones[i]).entry.present = true → ((x.zones[i]).judgeFault).fault ≠ .none := by
  have hzones : (judgedStation x start ramping).zones = judgedZones x ramping := rfl
  have hpresent (i : Fin 16) : ((judgedZones x ramping)[i]).entry.present = (x.zones[i]).entry.present := by
    rw [judgedZones_get, Zone.entry_judgeWindow, Zone.entry_judgeFault]
  unfold Station.platenLost platenZones
  rw [hzones]
  simp only [hpresent, inService_judgedZones, Bool.and_eq_true, List.any_eq_true, List.all_eq_true, List.mem_filter, List.mem_finRange,
    true_and, decide_eq_true_iff, Bool.not_eq_true', Bool.and_eq_false_iff, beq_eq_false_iff_ne]
  refine and_congr_right fun _ => forall_congr' fun i => forall_congr' fun _ => ⟨fun h hp => h.resolve_left ?_, fun h => ?_⟩
  · rw [hp]
    nofun
  · cases hp : (x.zones[i]).entry.present with
    | false => exact Or.inl rfl
    | true => exact Or.inr (h hp)

theorem lost_judgedStation (p : Fin 2) :
    (judgedStation x start ramping).lost[p] = (judgedStation x start ramping).platenLost p := by
  have hlost : (judgedStation x start ramping).lost = Vector.ofFn (judgedStation x start ramping).platenLost := rfl
  rw [hlost]
  simp

theorem newlyLost_iff : newlyLost x (judgedStation x start ramping) = true ↔
    ∃ p : Fin 2, (judgedStation x start ramping).platenLost p = true ∧ x.lost[p] = false := by
  rw [Fin.exists_fin_two]
  unfold newlyLost
  simp

theorem judgedCtx_of_not_curing (h : start ≠ .curing) (c : Context) : judgedCtx x start ramping c = c := if_neg h

theorem judgedCtx_of_curing (c : Context) : judgedCtx x .curing ramping c =
    (faultsNoted x x.faultsTaken c).addExcursions (judgedOut x ramping) := if_pos rfl

theorem addExcursions_keeps (c : Context) (n : Nat) : let d := c.addExcursions n
    d.cycle = c.cycle ∧ d.pieces = c.pieces ∧ d.snapshot = c.snapshot ∧ d.cure = c.cure ∧ d.eject = c.eject ∧ d.faults = c.faults ∧
    d.excursions = min 65535 (c.excursions + n) ∧
    d.suspect = (c.suspect || decide (c.snapshot.excursionLimit < min 65535 (c.excursions + n))) := ⟨rfl, rfl, rfl, rfl, rfl, rfl, rfl, rfl⟩

theorem judgedCtx_keeps (c : Context) : let d := judgedCtx x start ramping c
    d.cycle = c.cycle ∧ d.pieces = c.pieces ∧ d.snapshot = c.snapshot ∧ d.cure = c.cure ∧ d.eject = c.eject := by
  intro d
  by_cases h : start = .curing
  · subst h
    obtain ⟨a1, a2, a3, a4, a5, -⟩ := faultsNoted_keeps x x.faultsTaken c
    obtain ⟨b1, b2, b3, b4, b5, -⟩ := addExcursions_keeps (faultsNoted x x.faultsTaken c) (judgedOut x ramping)
    rw [show d = _ from judgedCtx_of_curing x ramping c]
    exact ⟨b1.trans a1, b2.trans a2, b3.trans a3, b4.trans a4, b5.trans a5⟩
  · rw [show d = c from judgedCtx_of_not_curing x start ramping h c]
    exact ⟨rfl, rfl, rfl, rfl, rfl⟩

theorem ctxKin_judgedCtx (c : Context) : CtxKin c (judgedCtx x start ramping c) := by
  obtain ⟨hcycle, -, hsnapshot, hcure, heject⟩ := judgedCtx_keeps x start ramping c
  exact ⟨hcycle, hsnapshot, hcure, congrArg Ejection.attempts heject, congrArg Ejection.stopWork heject⟩

end

/-- The part that the supervisor has judged, before PLATEN_LOST. -/
def judged (s : State) (st : Fin 6) (ramping : Vector Bool 4) : State :=
  let x := s.station st
  withStation (zoneFaultsTold s st x x.state x.faultsTaken) st (judgedStation x x.state ramping)

section
variable (s : State) (st : Fin 6) (ramping : Vector Bool 4)

theorem station_judged : (judged s st ramping).station st = judgedStation (s.station st) (s.station st).state ramping :=
  station_withStation _ _ _

theorem ctx_judged : (judged s st ramping).ctx? st = (s.ctx? st).map (judgedCtx (s.station st) (s.station st).state ramping) := by
  unfold State.ctx?
  rw [station_judged]
  rfl

theorem kin_judged : Kin s (judged s st ramping) st := by
  obtain ⟨notices, heq, hne⟩ := zoneFaultsTold_eq s st (s.station st) (s.station st).state (s.station st).faultsTaken
  have hpart : SamePart s (judged s st ramping) st := by
    unfold judged
    dsimp only
    rw [heq]
    exact ⟨rfl, rfl, rfl, rfl, rfl, rfl, rfl, rfl, hne _ fun e => NoticeKind.noConfusion (noticeSlot_injective e).1,
      hne _ fun e => NoticeKind.noConfusion (noticeSlot_injective e).1, rfl, rfl, rfl⟩
  refine ⟨hpart, Or.inl ?_, ?_, ?_, ?_, ?_, ?_, ?_, ?_, ?_⟩
  case refine_9 =>
    rw [ctx_judged]
    cases s.ctx? st with
    | none => exact .none
    | some c => exact .some (ctxKin_judgedCtx _ _ _ c)
  all_goals
    rw [station_judged]
    rfl

theorem supervise_eq_judged : s.supervise st (s.station st).state ramping =
    if newlyLost (s.station st) (judgedStation (s.station st) (s.station st).state ramping) then (judged s st ramping).takePlatenLost st
    else judged s st ramping := supervise_eq s st (s.station st).state ramping

/-- What PLATEN_LOST leaves, whether it comes or not. -/
theorem supervise_keeps : let t := s.supervise st (s.station st).state ramping
    t.platens st = (judged s st ramping).platens st ∧
    t.port.notices[noticeSlot .zoneFault (some st)] = (judged s st ramping).port.notices[noticeSlot .zoneFault (some st)] ∧
    ∀ c, (s.station st).state ≠ .charging → s.ctx? st = some c → ∃ d, t.ctx? st = some d ∧
      d.cycle = c.cycle ∧ d.pieces = c.pieces ∧ d.excursions = (judgedCtx (s.station st) (s.station st).state ramping c).excursions ∧
      d.suspect = (judgedCtx (s.station st) (s.station st).state ramping c).suspect ∧
      d.faults = (judgedCtx (s.station st) (s.station st).state ramping c).faults := by
  have hctx {c : Context} (hc : s.ctx? st = some c) : (judged s st ramping).ctx? st =
      some (judgedCtx (s.station st) (s.station st).state ramping c) := by
    rw [ctx_judged, hc]
    rfl
  have hsame (c : Context) : (judgedCtx (s.station st) (s.station st).state ramping c).cycle = c.cycle ∧
      (judgedCtx (s.station st) (s.station st).state ramping c).pieces = c.pieces := by
    obtain ⟨hcycle, hpieces, -⟩ := judgedCtx_keeps (s.station st) (s.station st).state ramping c
    exact ⟨hcycle, hpieces⟩
  intro t
  rw [show t = _ from supervise_eq_judged s st ramping]
  split
  · refine ⟨platens_takePlatenLost _ _, zoneFault_takePlatenLost _ _, fun c hcharging hc => ?_⟩
    obtain ⟨d, hd, h1, h2, h3, h4, h5⟩ := ctx_takePlatenLost (n := judged s st ramping) (st := st)
      (by rw [station_judged]; exact hcharging) (hctx hc)
    exact ⟨d, hd, h1.trans (hsame c).1, h2.trans (hsame c).2, h3, h4, h5⟩
  · exact ⟨rfl, rfl, fun c _ hc => ⟨_, hctx hc, (hsame c).1, (hsame c).2, rfl, rfl, rfl⟩⟩

end

end Sys2Proof.Claim
end

section
/-! PROOFS. O23 settled (R67 to R78). -/

namespace Sys2Proof.Claim

open Sys2Proof.Machine

/-- The context after a round in CURING (R70, R76). -/
theorem judgedCtx_curing (x : Station) (ramping : Vector Bool 4) {c : Context} (hc : c.faults.length ≤ 16) :
    let d := judgedCtx x .curing ramping c
    let faulted (i : Fin 16) : Bool := (x.zones[i]).fault != ((x.zones[i]).judgeFault).fault
    d.excursions = min 65535 (c.excursions + judgedOut x ramping) ∧
    (d.suspect = true ↔ c.suspect = true ∨ c.snapshot.excursionLimit < d.excursions ∨
      ∃ i : Fin 16, faulted i = true ∧ (x.zones[i]).entry.cureRef = true) ∧
    d.faults = (c.faults ++ ((List.finRange 16).filter fun i => faulted i && c.faults.all (·.zone != i)).map (faultEntry x c)).take 16 := by
  intro d faulted
  have hd : d = _ := judgedCtx_of_curing x ramping c
  have htaken : x.faultsTaken = (List.finRange 16).filter faulted := rfl
  obtain ⟨-, -, hsnapshot, -, -, hexcursions⟩ := faultsNoted_keeps x x.faultsTaken c
  obtain ⟨-, -, -, -, -, hfaults, hadded, hsuspect⟩ := addExcursions_keeps (faultsNoted x x.faultsTaken c) (judgedOut x ramping)
  have hcount : d.excursions = min 65535 (c.excursions + judgedOut x ramping) := by rw [hd, hadded, hexcursions]
  refine ⟨hcount, ?_, ?_⟩
  · rw [hd, hsuspect, Bool.or_eq_true, suspect_faultsNoted, decide_eq_true_iff, hsnapshot, hadded, hexcursions, htaken]
    simp only [List.mem_filter, List.mem_finRange, true_and]
    rw [or_assoc, or_comm (a := ∃ i, _)]
  · have hnodup : x.faultsTaken.Nodup := (List.nodup_finRange 16).filter faulted
    have hfilter : (x.faultsTaken.filter fun i => c.faults.all (·.zone != i)) =
        (List.finRange 16).filter fun i => faulted i && c.faults.all (·.zone != i) := by
      rw [htaken, List.filter_filter]
      exact List.filter_congr fun i _ => Bool.and_comm _ _
    rw [hd, hfaults, faults_faultsNoted x hnodup hc, hfilter]

/-- The count of zones out of their windows, in the words of O23 (R70). -/
theorem judgedOut_eq (x : Station) (ramping : Vector Bool 4) : judgedOut x ramping = ((List.finRange 16).filter fun i =>
    (x.zones[i]).entry.present && ((judgedZones x ramping)[i]).fault == .none && ((judgedZones x ramping)[i]).window != .within).length := by
  have hout (i : Fin 16) : ((judgedZones x ramping)[i]).outOfWindow =
      ((x.zones[i]).entry.present && ((judgedZones x ramping)[i]).fault == .none && ((judgedZones x ramping)[i]).window != .within) := by
    unfold Zone.outOfWindow
    rw [inService_judgedZones, judgedZones_get, fault_judgeWindow]
  unfold judgedOut
  rw [List.filter_congr fun i _ => hout i]

/-- Settles O23. -/
theorem supervisorRule : Obligations.SupervisorRule := by
  intro s st ramping x t faulted isLost newly
  have hlost (p : Fin 2) : (judgedStation x x.state ramping).platenLost p = true ↔ isLost p := platenLost_judgedStation x x.state ramping p
  have hnewly : newlyLost x (judgedStation x x.state ramping) = true ↔ newly :=
    (newlyLost_iff x x.state ramping).trans (exists_congr fun p => and_congr_left fun _ => hlost p)
  have ht : t = if newlyLost x (judgedStation x x.state ramping) then (judged s st ramping).takePlatenLost st else judged s st ramping :=
    supervise_eq_judged s st ramping
  obtain ⟨hplatens, hnotice, hctx⟩ := supervise_keeps s st ramping
  have hstation : (judged s st ramping).station st = judgedStation x x.state ramping := station_judged s st ramping
  have hzones : (t.station st).zones = judgedZones x ramping := (congrArg Prod.fst hplatens).trans (congrArg Station.zones hstation)
  have hlosts : (t.station st).lost = (judgedStation x x.state ramping).lost :=
    (congrArg Prod.snd hplatens).trans (congrArg Station.lost hstation)
  obtain ⟨notices, htold, hne⟩ := zoneFaultsTold_eq s st x x.state x.faultsTaken
  have hzoneFault : t.port.notices[noticeSlot .zoneFault (some st)] =
      (zoneFaultsTold s st x x.state x.faultsTaken).port.notices[noticeSlot .zoneFault (some st)] := hnotice
  refine ⟨fun i => by rw [hzones, judgedZones_get], fun p => by rw [hlosts, lost_judgedStation, hlost], fun h => ?_, fun h hoffline => ?_,
    fun c hcuring hc hlength => ?_, fun c hcuring hcharging hc => ?_, fun i hmask hi hlast => ?_, fun hnone => ?_⟩
  · rw [ht, if_neg (mt hnewly.mp h), hstation]
    exact ⟨rfl, rfl, rfl⟩
  · have htaken : PlatenTaken s t st := by
      rw [ht, if_pos (hnewly.mpr h)]
      refine (platenTaken_takePlatenLost (n := judged s st ramping) (by rw [hstation]; exact hoffline)).of_kin (kin_judged s st ramping)
        (by rw [hstation]; rfl) fun hcharging => ?_
      rw [ctx_judged, hcharging, show judgedCtx (s.station st) .charging ramping = id from
        funext fun c => judgedCtx_of_not_curing _ _ _ (by nofun) c, Option.map_id]
      rfl
    exact ⟨htaken.state, htaken.cause, htaken.stops, htaken.told, htaken.queue, htaken.charging, htaken.working, htaken.entered⟩
  · obtain ⟨d, hd, hcycle, hpieces, hexcursions, hsuspect, hfaults⟩ := hctx c (by rw [show (s.station st).state = _ from hcuring]; nofun) hc
    rw [show (s.station st).state = .curing from hcuring] at hexcursions hsuspect hfaults
    obtain ⟨he, hs, hf⟩ := judgedCtx_curing x ramping hlength
    refine ⟨d, hd, hcycle, hpieces, ?_, ?_, hfaults.trans hf⟩
    · rw [hexcursions, hzones]
      exact he.trans (by rw [judgedOut_eq])
    · rw [hsuspect, hexcursions]
      exact hs
  · obtain ⟨d, hd, -, -, hexcursions, hsuspect, hfaults⟩ := hctx c hcharging hc
    rw [judgedCtx_of_not_curing _ _ _ hcuring] at hexcursions hsuspect hfaults
    exact ⟨d, hd, hexcursions, hsuspect, hfaults⟩
  · obtain ⟨l, hl⟩ := filter_finRange_eq_concat (p := faulted) hi hlast
    have htaken : x.faultsTaken = l ++ [i] := hl
    refine ⟨_, hzoneFault.trans ((by rw [htaken]; exact notice_zoneFaultsTold s st x x.state l i hmask)), rfl, ?_, ?_⟩
    · rw [hl]
    · have hreading : ((x.zones[i]).judgeFault).reading = if (x.zones[i]).kind = some .driven then (x.zones[i]).tavg else none :=
        reading_judgeFault x.zones[i]
      dsimp only
      unfold zoneFaultValues
      rw [hreading]
  · have htaken : x.faultsTaken = [] := List.filter_eq_nil_iff.mpr fun i _ => Bool.eq_false_iff.mp (hnone i)
    rw [hzoneFault, htaken]
    rfl

end Sys2Proof.Claim
end

section
/-! PROOFS. What an entry to HOLD, LATCHED or FAULT leaves of the duties and of NODE_SILENT, and of the press auto flag of its station. -/

namespace Sys2Proof.Machine

open Sys2Proof.Claim

/-- The duties that wait in the slate, and the pending NODE_SILENT notices. -/
def State.margin (s : State) : (Fin 6 → Option OutFrame) × (Option (Fin 6) → Option NoticeFlag) :=
  (fun st => s.port.slate[dutySlot st], fun key => s.port.notices[noticeSlot .nodeSilent key])

theorem State.margin_of_side {s t : State} (h : t.side = s.side) : t.margin = s.margin :=
  Prod.ext (funext fun st => State.duty_of_side h st) (funext fun key => State.notices_of_side h rfl key)

theorem State.duty_of_margin {s t : State} (h : t.margin = s.margin) (st : Fin 6) : t.port.slate[dutySlot st] = s.port.slate[dutySlot st] :=
  congrFun (congrArg Prod.fst h) st

theorem State.silent_of_margin {s t : State} (h : t.margin = s.margin) (key : Option (Fin 6)) :
    t.port.notices[noticeSlot .nodeSilent key] = s.port.notices[noticeSlot .nodeSilent key] := congrFun (congrArg Prod.snd h) key

section
variable (s : State) (st : Fin 6)

theorem State.margin_raise {k : NoticeKind} (hk : k ≠ .nodeSilent) (key : Option (Fin 6)) (v : List Byte) :
    (s.raise k key v).margin = s.margin := by
  refine Prod.ext (funext fun st => ?_) (funext fun key' => ?_)
  · exact congrArg (·[dutySlot st]) (slate_raise s k key v)
  · exact notices_raise_of_ne (fun e => hk (noticeSlot_injective e).1.symm) v

theorem State.margin_rejectCycle (reason : RejectReason) (total : Int) (time : Time) :
    (s.rejectCycle st reason total time).margin = s.margin := by
  cases h : s.ctx? st with
  | none => rw [rejectCycle_of_no_ctx h, State.margin_of_side s.side_endGrant]
  | some c =>
    rw [rejectCycle_of_ctx h, State.margin_raise _ (k := .chargeReject) nofun]
    exact State.margin_of_side (by simp)

theorem State.margin_abortWeigh : (s.abortWeigh st).margin = s.margin :=
  (State.margin_of_side (State.side_enterClearing _ _)).trans (s.margin_rejectCycle st _ _ _)

theorem State.side_stopWork : (s.stopWork st).side = s.side := by
  rw [stopWork_eq, side_withStation, side_ejectStopped]

/-- The start of an entry to HOLD or LATCHED: the weigh ends, or the work of the context stops. -/
theorem State.margin_endWork : ((if (s.station st).state = .charging then s.abortWeigh st else s).stopWork st).margin = s.margin := by
  rw [State.margin_of_side (State.side_stopWork _ _)]
  split
  · exact s.margin_abortWeigh st
  · rfl

theorem State.margin_enterLatched (cause : Cause) : (s.enterLatched st cause).margin = s.margin := by
  rw [← s.margin_endWork st]
  unfold State.enterLatched
  dsimp only
  split <;> exact State.margin_of_side (by simp)

theorem State.margin_enterHold (cause : Cause) : (s.enterHold st cause).margin = s.margin := by
  unfold State.enterHold
  dsimp only
  split
  · exact State.margin_enterLatched _ _ _
  · rw [← s.margin_endWork st]
    split <;> exact State.margin_of_side (by simp)

theorem State.margin_takeCause (cause : Cause) : (s.takeCause st cause).margin = s.margin := by
  unfold State.takeCause State.replaceHold
  dsimp only
  split
  · split
    · split
      · rfl
      · exact State.margin_of_side (State.side_raiseStationState _ _)
    · exact s.margin_enterHold st cause
  · rfl

theorem State.margin_raiseWeigherFault (c : WeigherCause) (left : WeigherState) (key : Option (Fin 6)) :
    (s.raiseWeigherFault c left key).margin = s.margin := State.margin_raise s (k := .weigherFault) nofun _ _

theorem State.margin_takeWeigherCause (c : WeigherCause) (time : Time) : (s.takeWeigherCause c time).margin = s.margin := by
  unfold State.takeWeigherCause State.enterFault
  dsimp only
  split
  · split
    · rfl
    · exact State.margin_raiseWeigherFault _ _ _ _
  · split
    · split
      · next sx _ =>
        rw [State.margin_of_side (State.side_enterCalling _ _ _), State.margin_raiseWeigherFault,
          State.margin_of_side (State.side_wantGate _ _)]
        exact s.margin_rejectCycle sx _ _ _
      · rw [State.margin_raiseWeigherFault, State.margin_of_side (State.side_wantGate _ _)]
        rfl
    · split
      · unfold State.answerTare
        split
        · exact State.margin_raiseWeigherFault _ _ _ _
        · exact State.margin_raiseWeigherFault _ _ _ _
      · exact State.margin_raiseWeigherFault _ _ _ _

/-- The weigher in FAULT with a new cause, whatever it did (R118, R119). -/
theorem State.weigher_takeWeigherCause (c : WeigherCause) (time : Time) :
    (s.takeWeigherCause c time).weigher.state = .fault ∧ (s.takeWeigherCause c time).weigher.cause = c := by
  have htold (u : State) (left : WeigherState) (key : Option (Fin 6)) : (u.raiseWeigherFault c left key).weigher = u.weigher :=
    State.weigher_raise _ _ _ _
  have hgate (u : State) (left : WeigherState) (key : Option (Fin 6)) :
      ((((u.modWeigher (·.enterFault c)).wantGate .divert).raiseWeigherFault c left key).weigher.state = .fault) ∧
      ((((u.modWeigher (·.enterFault c)).wantGate .divert).raiseWeigherFault c left key).weigher.cause = c) := by
    rw [htold, State.weigher_wantGate]
    exact ⟨rfl, rfl⟩
  unfold State.takeWeigherCause State.enterFault
  dsimp only
  split
  · next h =>
    split
    · next hc => exact ⟨h, hc⟩
    · rw [htold]
      exact ⟨h, rfl⟩
  · split
    · split
      · obtain ⟨hstate, hcause⟩ := hgate (s.rejectCycle _ c.reason s.weigher.vPrev time) s.weigher.state (some _)
        rw [weigher_calledFirst (by rw [hstate]; nofun)]
        exact ⟨hstate, hcause⟩
      · exact hgate s s.weigher.state none
    · split
      · unfold State.answerTare
        split
        · show (State.weigher (State.raiseWeigherFault _ _ _ _)).state = _ ∧ (State.weigher (State.raiseWeigherFault _ _ _ _)).cause = _
          rw [htold]
          exact ⟨rfl, rfl⟩
        · rw [htold]
          exact ⟨rfl, rfl⟩
      · rw [htold]
        exact ⟨rfl, rfl⟩

/-! ### The press auto flag -/

theorem State.flags_abortWeigh (sx : Fin 6) : (s.abortWeigh st).flags sx = s.flags sx := by
  unfold State.abortWeigh
  rw [State.flags_of_station (State.station_enterClearing _ _ _)]
  cases h : s.ctx? st with
  | none =>
    rw [rejectCycle_of_no_ctx h]
    rfl
  | some c =>
    rw [rejectCycle_of_ctx h, State.flags_of_station (State.station_raise _ _ _ _ _), State.flags_of_station (State.station_endGrant _ _),
      State.flags_releaseContext, State.flags_appendCycle]

theorem State.flags_stopWork (sx : Fin 6) : (s.stopWork st).flags sx = s.flags sx := by
  have heject (u : State) : (u.wantEject st .retract).flags sx = u.flags sx := by
    unfold State.wantEject
    dsimp only
    split
    · rfl
    · rw [State.placeEject, State.flags_of_station (State.station_placeCommand _ _ _ _ _ _ _)]
      exact u.flags_modStation st sx fun _ => ⟨rfl, rfl⟩
  have hctx (f : Context → Context) : (s.modCtx st f).flags sx = s.flags sx := s.flags_modStation st sx fun _ => ⟨rfl, rfl⟩
  unfold State.stopWork
  split
  · exact hctx _
  · exact hctx _
  · exact (heject _).trans (hctx _)
  · exact (heject _).trans (hctx _)
  · rfl

theorem State.pressAuto_endWork :
    (((if (s.station st).state = .charging then s.abortWeigh st else s).stopWork st).station st).pressAuto = (s.station st).pressAuto := by
  refine State.pressAuto_of_flags ((State.flags_stopWork _ _ _).trans ?_)
  split
  · exact s.flags_abortWeigh st st
  · rfl

theorem State.pressAuto_enterLatched (cause : Cause) : ((s.enterLatched st cause).station st).pressAuto = (s.station st).pressAuto := by
  rw [← s.pressAuto_endWork st]
  unfold State.enterLatched
  dsimp only
  split
  · rw [State.station_of_beside (State.beside_leaveQueue _ _), State.station_raiseStationState, State.station_setState_self,
      State.station_modStation_self]
  · rw [State.station_raiseStationState, State.station_setState_self, State.station_modStation_self]

theorem State.pressAuto_enterHold (cause : Cause) : ((s.enterHold st cause).station st).pressAuto = (s.station st).pressAuto := by
  unfold State.enterHold
  dsimp only
  split
  · rw [State.pressAuto_enterLatched, State.station_modStation_self]
  · rw [← s.pressAuto_endWork st]
    split
    · rw [State.station_of_beside (State.beside_leaveQueue _ _), State.station_raiseStationState, State.station_setState_self,
        State.station_modStation_self]
    · rw [State.station_raiseStationState, State.station_setState_self, State.station_modStation_self]

theorem State.pressAuto_takeCause (cause : Cause) : ((s.takeCause st cause).station st).pressAuto = (s.station st).pressAuto := by
  unfold State.takeCause State.replaceHold
  dsimp only
  split
  · split
    · split
      · rfl
      · rw [State.station_raiseStationState, State.station_modStation_self]
    · exact s.pressAuto_enterHold st cause
  · rfl

end

end Sys2Proof.Machine
end

section
/-! PROOFS. O38: an entry that becomes SILENT (R174, R80, R1, R15, R118, R147). -/

namespace Sys2Proof.Claim

open Sys2Proof.Machine

section Silence
variable {s : State} {e : Fin 32} {time : Time}

/-- The part with the entry SILENT and NODE_SILENT raised, before the report to its block (R174). -/
def silenced (s : State) (e : Fin 32) (time : Time) : State :=
  State.raise { s with port := { s.port with silence := s.port.silence.set e .silent } } .nodeSilent (s.port.routes[e]).key
    (put8 e.val ++ put8 (s.port.routes[e]).role ++ put8 (s.port.routes[e]).address ++ putTime time)

theorem becomeSilent_eq : s.becomeSilent e time = (silenced s e time).reportSilence s.port.routes[e] time := rfl

theorem silenced_eq : ∃ notices, silenced s e time =
    { s with port := { s.port with silence := s.port.silence.set e .silent, notices := notices } } ∧
      ∀ (k : NoticeKind) (key : Option (Fin 6)), k ≠ .nodeSilent → notices[noticeSlot k key] = s.port.notices[noticeSlot k key] := by
  by_cases hm : s.port.mask[(NoticeKind.nodeSilent).index] = true
  · refine ⟨_, raise_of_enabled (by exact hm) _ _, fun k key hk => ?_⟩
    exact Vector.getElem_set_ne (noticeSlot .nodeSilent (s.port.routes[e]).key).isLt (noticeSlot k key).isLt
      fun h => hk (noticeSlot_injective (Fin.ext h)).1.symm
  · exact ⟨s.port.notices, raise_of_disabled (by exact Bool.eq_false_iff.mpr hm) _ _, fun _ _ _ => rfl⟩

/-- NODE_SILENT of the entry (R174). -/
theorem notice_silenced (hm : s.port.mask[(6 : Fin 11)] = true) :
    (silenced s e time).port.notices[noticeSlot .nodeSilent (s.port.routes[e]).key] =
      some { count := min 255 ((s.port.notices[noticeSlot .nodeSilent (s.port.routes[e]).key]).elim 0 (·.count) + 1), time := s.now,
             values := put8 e.val ++ put8 (s.port.routes[e]).role ++ put8 (s.port.routes[e]).address ++ putTime time } :=
  notices_raise_self (s := { s with port := { s.port with silence := s.port.silence.set e .silent } }) (k := .nodeSilent) hm _ _

theorem line_silenced_silence : (silenced s e time).port.silence = s.port.silence.set e .silent ∧
    (silenced s e time).port.routes = s.port.routes ∧ (silenced s e time).now = s.now := by
  obtain ⟨notices, h, -⟩ := silenced_eq (s := s) (e := e) (time := time)
  rw [h]
  exact ⟨rfl, rfl, rfl⟩

theorem station_silenced (st : Fin 6) : (silenced s e time).station st = s.station st := State.station_raise _ _ _ _ _

theorem samePart_silenced (st : Fin 6) : SamePart s (silenced s e time) st := by
  obtain ⟨notices, h, hne⟩ := silenced_eq (s := s) (e := e) (time := time)
  rw [h]
  exact ⟨rfl, rfl, rfl, rfl, rfl, rfl, rfl, rfl, hne _ _ nofun, hne _ _ nofun, rfl, rfl, rfl⟩

/-- `Rejected` of a base that agrees with the state. -/
theorem Rejected.of_part {n t : State} {st : Fin 6} {c : Context} {reason : RejectReason} {total : Int} {pieces : List Int}
    (k : SamePart s n st) (h : Rejected n t st c reason total pieces time) : Rejected s t st c reason total pieces time := by
  obtain ⟨h1, h2, h3, h4, h5, h6, h7, h8, h9, h10, h11, h12, h13⟩ := h
  rw [k.arbiter] at h4
  rw [k.weigher] at h10
  rw [k.store] at h11
  refine ⟨h1, h2, h3, h4, h5, h6, h7, h8, h9, h10, h11, h12, fun hmask => ?_⟩
  rw [h13 (by rw [k.mask]; exact hmask), k.rejected, k.now]

/-- A cause taken over a twin base, before and after ring-out's turn. -/
theorem causeTaken_twin {n : State} {st : Fin 6} {cause : Cause} (k : Twin s n st) (htaken : cause.takenIn (n.station st).state = true) :
    CauseTaken s (n.takeCause st cause).beginSend st cause :=
  ((causeTaken_takeCause htaken).beginSend (State.line_takeCause n st cause)).of_twin k

theorem takenIn_heatSilent {x : StationState} : Cause.takenIn .heatSilent x = true ↔ x ≠ .offline ∧ x ≠ .latched := by
  cases x <;> decide

theorem takenIn_pressSilent {x : StationState} : Cause.takenIn .pressSilent x = true ↔ x ≠ .offline ∧ x ≠ .parked ∧ x ≠ .latched := by
  cases x <;> decide

theorem takenIn_ejectorSilent {x : StationState} : Cause.takenIn .ejectorSilent x = true ↔ x = .ejecting := by
  cases x <;> decide

variable {st : Fin 6}

/-! ### The HEAT entry (R80) -/

theorem twin_silenced : Twin s (silenced s e time) st :=
  ⟨samePart_silenced st, ⟨_, _, _, _, station_silenced st⟩⟩

theorem twin_zeroDuty {n : State} (k : Twin s n st) (q : Half) : Twin s (n.zeroDuty st q) st := by
  cases ha : n.nodeOf .heater st.val with
  | none => rwa [zeroDuty_of_no_node n st ha]
  | some a =>
    obtain ⟨auto, stop, echo, round, hx⟩ := k.station
    rw [zeroDuty_of_node n st ha]
    refine ⟨⟨k.now, k.nodeAddress, k.mask, k.sending, k.seqCounter, k.routes, k.recipes, k.profilesLive, k.told, k.rejected, k.weigher,
      k.arbiter, k.store⟩, ⟨auto, stop, echo, { round with lastSum := 0 }, ?_⟩⟩
    refine (station_withStation n st _).trans ?_
    rw [hx]

theorem duty_zeroDuty {n : State} {a : Byte} (ha : n.nodeOf .heater st.val = some a) (q : Half) :
    (n.zeroDuty st q).port.slate[dutySlot st] =
      some { dest := a, kind := 2, seq := none, payload := put16 q.toNat ++ List.replicate 16 0 } := by
  rw [zeroDuty_of_node n st ha]
  exact Vector.getElem_set_self (dutySlot st).isLt

/-- The silence of a HEAT entry at its station. -/
theorem heatSilent_rule (q : Half) : let t := (((silenced s e time).zeroDuty st q).takeCause st .heatSilent).beginSend
    (∀ a, s.nodeOf .heater st.val = some a →
      PlacedOrSent s t (dutySlot st) { dest := a, kind := 2, seq := none, payload := put16 q.toNat ++ List.replicate 16 0 }) ∧
    ((s.station st).state = .offline ∨ (s.station st).state = .latched →
      (t.station st).state = (s.station st).state ∧ (t.station st).cause = (s.station st).cause) ∧
    ((s.station st).state ≠ .offline → (s.station st).state ≠ .latched → CauseTaken s t st .heatSilent) := by
  have k := twin_zeroDuty (twin_silenced (s := s) (e := e) (time := time) (st := st)) q
  obtain ⟨auto, stop, echo, round, hx⟩ := k.station
  have hstate : (((silenced s e time).zeroDuty st q).station st).state = (s.station st).state := by rw [hx]
  have hline := State.line_takeCause ((silenced s e time).zeroDuty st q) st .heatSilent
  intro t
  refine ⟨fun a ha => ?_, fun h => ?_, fun h1 h2 => causeTaken_twin k (by rw [hstate]; exact takenIn_heatSilent.mpr ⟨h1, h2⟩)⟩
  · have hnode : (silenced s e time).nodeOf .heater st.val = some a := (nodeOf_of_routes line_silenced_silence.2.1 _ _).trans ha
    refine placedOrSent_beginSend ((State.sending_of_line hline).trans k.sending) ((State.nodeAddress_of_line hline).trans k.nodeAddress)
      ((State.seqCounter_of_line hline).trans k.seqCounter) ?_
    rw [State.duty_of_margin (State.margin_takeCause _ _ _)]
    exact duty_zeroDuty hnode q
  · have hquiet : ((silenced s e time).zeroDuty st q).takeCause st .heatSilent = (silenced s e time).zeroDuty st q := by
      refine takeCause_of_not_taken _ _ (Bool.eq_false_iff.mpr fun htaken => ?_)
      rw [hstate] at htaken
      obtain ⟨h1, h2⟩ := takenIn_heatSilent.mp htaken
      exact h.elim h1 h2
    rw [show t = _ from congrArg State.beginSend hquiet, State.station_beginSend, hx]
    exact ⟨rfl, rfl⟩

/-! ### The PRESS entry (R1) -/

/-- The silence of a PRESS entry at its station. -/
theorem pressSilent_rule :
    let t := (((silenced s e time).modStation st fun x => { x with pressAuto := false }).takeCause st .pressSilent).beginSend
    let x := s.station st
    (t.station st).pressAuto = false ∧
    (x.state = .offline ∨ x.state = .parked ∨ x.state = .latched → t.station st = { x with pressAuto := false }) ∧
    (x.state ≠ .offline → x.state ≠ .parked → x.state ≠ .latched → CauseTaken s t st .pressSilent) := by
  have hx : ((silenced s e time).modStation st fun x => { x with pressAuto := false }).station st =
      { s.station st with pressAuto := false } := by
    rw [State.station_modStation_self, station_silenced]
  have hpart := samePart_silenced (s := s) (e := e) (time := time) st
  have k : Twin s ((silenced s e time).modStation st fun x => { x with pressAuto := false }) st :=
    ⟨⟨hpart.now, hpart.nodeAddress, hpart.mask, hpart.sending, hpart.seqCounter, hpart.routes, hpart.recipes, hpart.profilesLive,
      hpart.told, hpart.rejected, hpart.weigher, hpart.arbiter, hpart.store⟩, ⟨_, _, _, _, hx⟩⟩
  intro t x
  refine ⟨?_, fun h => ?_, fun h1 h2 h3 => causeTaken_twin k (by rw [hx]; exact takenIn_pressSilent.mpr ⟨h1, h2, h3⟩)⟩
  · rw [State.station_beginSend, State.pressAuto_takeCause, hx]
  · have hquiet := takeCause_of_not_taken (((silenced s e time).modStation st fun x => { x with pressAuto := false })) st
      (cause := .pressSilent) (Bool.eq_false_iff.mpr fun htaken => by
        rw [hx] at htaken
        obtain ⟨h1, h2, h3⟩ := takenIn_pressSilent.mp htaken
        exact h.elim h1 fun h => h.elim h2 h3)
    rw [show t = _ from congrArg State.beginSend hquiet, State.station_beginSend, hx]

/-! ### The EJECTOR entry (R147) -/

/-- An EJECTING station that is held wants RETRACT, with a context or without one. -/
theorem wanted_enterHold {n : State} (h : (n.station st).state = .ejecting) (cause : Cause) :
    ((n.enterHold st cause).station st).demould.wanted = .retract := by
  by_cases hcount : (n.station st).ctx.isSome = true ∧ 2 ≤ (n.station st).holdCount
  · rw [enterHold_repeat n st hcount, enterLatched_eq _ _ (by rw [station_withStation]; exact h ▸ nofun), station_enteredFrom]
    have hw := wanted_stoppedStation n.now (x := (withStation n st { n.station st with holdCount := 3 }).station st)
      (Or.inr (by rw [station_withStation]; exact h))
    exact hw
  · rw [enterHold_eq n st (by rw [h]; nofun) hcount, station_enteredFrom]
    exact wanted_stoppedStation n.now (Or.inr h)

/-- The silence of an EJECTOR entry at its station. -/
theorem ejectorSilent_rule : let t := ((silenced s e time).takeCause st .ejectorSilent).beginSend
    let x := s.station st
    (x.state ≠ .ejecting → t.station st = x) ∧
    (x.state = .ejecting → CauseTaken s t st .ejectorSilent ∧ (t.station st).demould.wanted = .retract ∧
      ∀ c, s.ctx? st = some c → ∃ d, t.ctx? st = some d ∧ d.eject.sub = .none ∧ d.eject.attemptTimer = .stopped ∧
        d.eject.attempts = c.eject.attempts) := by
  have hx := station_silenced (s := s) (e := e) (time := time) st
  intro t x
  refine ⟨fun h => ?_, fun h => ?_⟩
  · have hquiet := takeCause_of_not_taken (silenced s e time) st (cause := .ejectorSilent) (Bool.eq_false_iff.mpr fun htaken =>
      h (by rw [hx] at htaken; exact takenIn_ejectorSilent.mp htaken))
    rw [show t = _ from congrArg State.beginSend hquiet, State.station_beginSend, hx]
  · have htaken : CauseTaken s t st .ejectorSilent :=
      causeTaken_twin twin_silenced (by rw [hx]; exact takenIn_ejectorSilent.mpr h)
    refine ⟨htaken, ?_, fun c hc => ?_⟩
    · have hstate : ((silenced s e time).station st).state = .ejecting := by rw [hx]; exact h
      have hhold : (silenced s e time).takeCause st .ejectorSilent = (silenced s e time).enterHold st .ejectorSilent := by
        unfold State.takeCause
        dsimp only
        rw [hstate]
        rfl
      rw [State.station_beginSend, hhold]
      exact wanted_enterHold hstate _
    · obtain ⟨-, -, -, hcycle, -⟩ := htaken
      obtain ⟨hheld, hout⟩ := hcycle c (Or.inr (Or.inr (Or.inr h))) hc
      have hstopped : ∃ d, t.ctx? st = some d ∧ WorkStopped s t st c d := by
        by_cases hcount : (s.station st).holdCount < 2
        · obtain ⟨-, -, -, -, hsome⟩ := hheld hcount
          obtain ⟨-, d, hd, -, -, -, -, -, hstopped⟩ := hsome c hc
          exact ⟨d, hd, hstopped⟩
        · obtain ⟨-, -, -, -, hsome⟩ := hout (Nat.not_lt.mp hcount)
          obtain ⟨d, hd, -, -, -, hstopped⟩ := hsome c hc
          exact ⟨d, hd, hstopped⟩
      obtain ⟨d, hd, -, -, heject⟩ := hstopped
      obtain ⟨-, hfields, -⟩ := heject (Or.inr h)
      exact ⟨d, hd, by rw [hfields], by rw [hfields], by rw [hfields]⟩

/-! ### The WEIGHER entry (R118) -/

/-- The silence of the WEIGHER entry in a weigh. -/
theorem rejected_silent {c : Context} (hstate : s.weigher.state = .armed ∨ s.weigher.state = .settling ∨ s.weigher.state = .stable)
    (hg : s.weigher.granted = some st) (hc : s.ctx? st = some c) :
    Rejected s ((silenced s e time).takeWeigherCause .silent time).beginSend st c .silent s.weigher.vPrev s.weigher.pieces time := by
  have hweigher : (silenced s e time).weigher = s.weigher := (samePart_silenced st).weigher
  have hctx : (silenced s e time).ctx? st = some c := by
    unfold State.ctx?
    rw [station_silenced]
    exact hc
  have hrunning : (silenced s e time).weigher.state ≠ .fault := by rw [hweigher]; obtain h | h | h := hstate <;> rw [h] <;> nofun
  have hbusy : (silenced s e time).weigher.state ≠ .idle := by rw [hweigher]; obtain h | h | h := hstate <;> rw [h] <;> nofun
  have hweigh : (silenced s e time).weigher.state.inWeigh = true := by rw [hweigher]; obtain h | h | h := hstate <;> rw [h] <;> rfl
  rw [takeWeigherCause_of_running hrunning]
  obtain ⟨hrejected, -⟩ := enterFault_weigh (c := .silent) (time := time) hweigh hbusy (by rw [hweigher]; exact hg) hctx
  rw [hweigher] at hrejected
  exact (hrejected.of_part (samePart_silenced st)).beginSend

end Silence

theorem line_reportSilence_kept {n : State} (r : RouteEntry) (time : Time) : let t := (n.reportSilence r time).beginSend
    t.port.silence = n.port.silence ∧ t.port.routes = n.port.routes ∧ t.now = n.now := by
  intro t
  have hline := State.line_reportSilence n r time
  refine ⟨?_, ?_, ?_⟩
  · rw [State.silence_beginSend]
    exact congrArg LineView.silence hline
  · rw [State.routes_beginSend]
    exact State.routes_of_line hline
  · rw [State.now_beginSend]
    exact State.now_of_line hline

theorem margin_reportSilence {n : State} (r : RouteEntry) (time : Time) (key : Option (Fin 6)) :
    (n.reportSilence r time).port.notices[noticeSlot .nodeSilent key] = n.port.notices[noticeSlot .nodeSilent key] := by
  unfold State.reportSilence
  split
  · exact State.silent_of_margin (State.margin_takeWeigherCause _ _ _) key
  · split
    · rfl
    · next st _ =>
      split
      · rw [State.silent_of_margin (State.margin_takeCause _ _ _) key]
        unfold State.zeroDuty
        split
        · rw [placeDuty_eq]
          cases State.nodeOf _ .heater st.val <;> rfl
        · rfl
      · split
        · exact State.silent_of_margin (State.margin_takeCause _ _ _) key
        · split
          · exact State.silent_of_margin (State.margin_takeCause _ _ _) key
          · rfl

/-- Settles O38. -/
theorem silenceExpiryMakesSilent : Obligations.SilenceExpiryMakesSilent := by
  intro s e since hrunning hlength
  let time := since + BitVec.ofNat 32 (s.port.routes[e]).silence
  let n := silenced s e time
  have hdue : s.silenceDue? e = some time := by
    unfold State.silenceDue?
    rw [hrunning]
    exact if_pos hlength
  have hexec : exec (.silenceExpiry e) s = .next (n.reportSilence s.port.routes[e] time).beginSend := by
    show Host.Outcome.next (State.beginSend ((s.silenceDue? e).elim s (s.becomeSilent e))) = _
    rw [hdue]
    rfl
  obtain ⟨hsilence, hroutes, hnow⟩ := line_reportSilence_kept (n := n) s.port.routes[e] time
  obtain ⟨hsilence', hroutes', hnow'⟩ := line_silenced_silence (s := s) (e := e) (time := time)
  have hnotice (key : Option (Fin 6)) (hkey : (s.port.routes[e]).key = key) (hm : s.port.mask[(6 : Fin 11)] = true) :
      (n.reportSilence s.port.routes[e] time).beginSend.port.notices[noticeSlot .nodeSilent key] =
        some { count := min 255 ((s.port.notices[noticeSlot .nodeSilent key]).elim 0 (·.count) + 1), time := s.now,
               values := put8 e.val ++ put8 (s.port.routes[e]).role ++ put8 (s.port.routes[e]).address ++ putTime time } := by
    subst hkey
    rw [State.notices_beginSend, margin_reportSilence]
    exact notice_silenced hm
  refine ⟨_, hexec, ?_, fun j hj => ?_, hroutes.trans hroutes', hnow.trans hnow', fun hrole => ?_, fun st hstation => ?_⟩
  · rw [hsilence, hsilence']
    exact Vector.getElem_set_self e.isLt
  · rw [hsilence, hsilence']
    exact Vector.getElem_set_ne e.isLt j.isLt fun h => hj (Fin.ext h.symm)
  · have hreport : n.reportSilence s.port.routes[e] time = n.takeWeigherCause .silent time := if_pos hrole
    obtain ⟨hfault, hcause⟩ := State.weigher_takeWeigherCause n .silent time
    refine ⟨?_, ?_, fun hm => ?_, fun st c hstate hg hc _ => ?_⟩
    · rw [State.weigher_beginSend, hreport, hfault]
    · rw [State.weigher_beginSend, hreport, hcause]
    · rw [← hrole]
      exact hnotice none (if_pos hrole) hm
    · rw [hreport]
      exact rejected_silent hstate hg hc
  · have hof : stationOf? (s.port.routes[e]).station = some st := by rw [hstation, stationOf?_val]
    have hreport (hrole : (s.port.routes[e]).role ≠ Role.weigher.code) : n.reportSilence s.port.routes[e] time =
        if (s.port.routes[e]).role = Role.heat.code then (n.zeroDuty st ((n.station st).round.lastNode.getD 0)).takeCause st .heatSilent
        else if (s.port.routes[e]).role = Role.press.code then
          (n.modStation st fun x => { x with pressAuto := false }).takeCause st .pressSilent
        else if (s.port.routes[e]).role = Role.ejector.code then n.takeCause st .ejectorSilent
        else n := by
      unfold State.reportSilence
      rw [if_neg hrole, hof]
    have hne {k : Nat} (hrole : (s.port.routes[e]).role = k) {j : Nat} (h : k ≠ j) : (s.port.routes[e]).role ≠ j := hrole ▸ h
    refine ⟨fun hrole hm => ⟨_, hnotice (some st) ((if_neg hrole).trans hof) hm, rfl, rfl⟩, fun hrole => ?_, fun hrole => ?_, fun hrole => ?_⟩
    · rw [hreport (hne hrole (by decide)), if_pos (show _ = Role.heat.code from hrole), station_silenced]
      exact heatSilent_rule _
    · rw [hreport (hne hrole (by decide)), if_neg (hne hrole (by decide)), if_pos (show _ = Role.press.code from hrole)]
      exact pressSilent_rule
    · rw [hreport (hne hrole (by decide)), if_neg (hne hrole (by decide)), if_neg (hne hrole (by decide)),
        if_pos (show _ = Role.ejector.code from hrole)]
      exact ejectorSilent_rule

end Sys2Proof.Claim
end

section
/-! PROOFS. The core of the part: what the invariants of the cell and of the store read of a state, and what the operations write of it. -/

namespace Sys2Proof.Claim

open Sys2Proof.Machine

/-! ### The view -/

/-- What the invariants read of a cycle context. -/
structure CtxCore where
  snapshot : Recipe
  mould : Bool
  sub : SubState
  number : Nat
  attempts : Nat
  pieces : Nat
  faults : Nat
  reservation : Reservation

/-- The core of a context. -/
def ctxCore (c : Context) : CtxCore :=
  { snapshot := c.snapshot, mould := c.mouldOccupied, sub := c.eject.sub, number := c.eject.number, attempts := c.eject.attempts.length,
    pieces := c.pieces.length, faults := c.faults.length, reservation := c.reservation }

/-- What the invariants read of a station: its state and its context. -/
structure StationCore where
  state : StationState
  ctx : Option CtxCore

/-- The core of a station. -/
def stationCore (x : Station) : StationCore := { state := x.state, ctx := x.ctx.map ctxCore }

/-- What the invariants read of the store. -/
structure StoreCore where
  ring : List (List Byte)
  oldest : Time
  next : Time
  cursor : Time
  autoPos : Time
  held : Nat
  reservations : Nat
  sender : Option Sending
  policy : Policy

/-- The core of the store. -/
def storeCore (x : Store) : StoreCore :=
  { ring := x.ring, oldest := x.oldest, next := x.next, cursor := x.cursor, autoPos := x.autoPos, held := x.held,
    reservations := x.reservations, sender := x.sender, policy := x.settings.policy }

/-- What the invariants of the cell and of the store read of the part. -/
structure Core where
  mode : Mode
  station : Fin 6 → StationCore
  queue : List (Fin 6)
  called : Option (Fin 6)
  granted : Option (Fin 6)
  weigher : WeigherState
  pieces : Nat
  recipes : Vector Recipe 16
  store : StoreCore

/-- The core of the part. -/
def core (s : State) : Core :=
  { mode := s.mode, station := fun st => stationCore (s.station st), queue := s.arbiter.queue, called := s.arbiter.granted,
    granted := s.weigher.granted, weigher := s.weigher.state, pieces := s.weigher.pieces.length, recipes := s.recipes,
    store := storeCore s.store }

/-- The core with another station. -/
def Core.put (v : Core) (st : Fin 6) (x : StationCore) : Core := { v with station := Function.update v.station st x }

/-- The core with another state of a station. -/
def Core.setState (v : Core) (st : Fin 6) (x : StationState) : Core := v.put st { v.station st with state := x }

/-- The core with another context of a station. -/
def Core.modCtx (v : Core) (st : Fin 6) (f : CtxCore → CtxCore) : Core :=
  v.put st { v.station st with ctx := (v.station st).ctx.map f }

@[simp] theorem Core.put_self (v : Core) (st : Fin 6) : v.put st (v.station st) = v := by
  unfold Core.put
  rw [Function.update_eq_self]

@[simp] theorem Core.station_put (v : Core) (st : Fin 6) (x : StationCore) : (v.put st x).station st = x := Function.update_self _ _ _

theorem Core.station_put_of_ne (v : Core) {st sx : Fin 6} (h : sx ≠ st) (x : StationCore) : (v.put st x).station sx = v.station sx :=
  Function.update_of_ne h _ _

@[simp] theorem Core.put_put (v : Core) (st : Fin 6) (x y : StationCore) : (v.put st x).put st y = v.put st y := by
  unfold Core.put
  simp

/-! ### What the operations write of it -/

section
variable (s : State) (st : Fin 6)

@[simp] theorem core_station : (core s).station st = stationCore (s.station st) := rfl

theorem core_withStation (x : Station) : core (withStation s st x) = (core s).put st (stationCore x) := by
  have hstation : (fun sx => stationCore ((withStation s st x).station sx)) =
      Function.update (fun sx => stationCore (s.station sx)) st (stationCore x) := by
    funext sx
    by_cases h : sx = st
    · subst h
      rw [station_withStation, Function.update_self]
    · rw [station_withStation_of_ne s st x h, Function.update_of_ne h]
  exact congrArg (fun f => { core s with station := f }) hstation

theorem core_modStation (f : Station → Station) : core (s.modStation st f) = (core s).put st (stationCore (f (s.station st))) :=
  core_withStation s st _

/-- A write of a station beside its state and what the invariants read of its context. -/
theorem core_modStation_beside {f : Station → Station} (h : ∀ x, stationCore (f x) = stationCore x) : core (s.modStation st f) = core s := by
  rw [core_modStation, h, ← core_station, Core.put_self]

theorem core_modCtx {f : Context → Context} {g : CtxCore → CtxCore} (h : ∀ c, ctxCore (f c) = g (ctxCore c)) :
    core (s.modCtx st f) = (core s).modCtx st g := by
  refine (core_modStation s st _).trans ?_
  unfold Core.modCtx
  congr 1
  unfold stationCore
  dsimp only [core_station, stationCore]
  rw [Option.map_map, Option.map_map]
  congr 2
  exact funext h

/-- A write of a context beside what the invariants read of it. -/
theorem core_modCtx_beside {f : Context → Context} (h : ∀ c, ctxCore (f c) = ctxCore c) : core (s.modCtx st f) = core s := by
  refine core_modStation_beside s st fun x => ?_
  unfold stationCore
  dsimp only
  rw [Option.map_map]
  congr 2
  exact funext h

@[simp] theorem core_modPort (f : Port → Port) : core (s.modPort f) = core s := rfl

@[simp] theorem core_raise (k : NoticeKind) (key : Option (Fin 6)) (v : List Byte) : core (s.raise k key v) = core s := by
  obtain ⟨p, h⟩ := raise_eq s k key v
  rw [h]
  rfl

@[simp] theorem core_raiseStationState : core (s.raiseStationState st) = core s := core_raise _ _ _ _

@[simp] theorem core_placeCommand (slot : Fin 19) (r : Role) (n : Nat) (k : Byte) (b : List Byte) :
    core (s.placeCommand slot r n k b) = core s := by
  unfold State.placeCommand
  split <;> rfl

@[simp] theorem core_placePermit : core (s.placePermit st) = core s := core_placeCommand _ _ _ _ _ _

@[simp] theorem core_placeEject : core (s.placeEject st) = core s := core_placeCommand _ _ _ _ _ _

@[simp] theorem core_placeGate : core s.placeGate = core s := core_placeCommand _ _ _ _ _ _

@[simp] theorem core_placeDuty (n : Half) (l : List Nat) : core (s.placeDuty st n l) = core s := core_placeCommand _ _ _ _ _ _

@[simp] theorem core_wantGate (g : Gate) : core (s.wantGate g) = core s := by
  unfold State.wantGate
  split
  · rfl
  · rw [core_placeGate]
    rfl

@[simp] theorem core_wantEject (w : EjectCmd) : core (s.wantEject st w) = core s := by
  unfold State.wantEject
  dsimp only
  split
  · rfl
  · rw [core_placeEject]
    exact core_modStation_beside s st fun _ => rfl

@[simp] theorem core_resolveAfresh : core (s.resolveAfresh st) = core s := core_modStation_beside s st fun _ => rfl

@[simp] theorem core_resolveOne (g : Fin 4) : core (s.resolveOne st g) = core s := core_modStation_beside s st fun _ => rfl

@[simp] theorem core_rereadGroups : core (s.rereadGroups st) = core s :=
  core_modStation_beside s st fun x => by split <;> rfl

@[simp] theorem core_setState (x : StationState) : core (s.setState st x) = (core s).setState st x := by
  have hset : core (s.modStation st fun y => { y with state := x }) = (core s).setState st x := core_modStation s st _
  unfold State.setState
  dsimp only
  split <;> split <;> simp only [core_resolveAfresh, core_placePermit, hset]

@[simp] theorem core_testBacklog : core s.testBacklog = core s := by
  obtain ⟨p, b, h⟩ := s.testBacklog_eq
  rw [h]
  rfl

@[simp] theorem core_testLow : core s.testLow = core s := by
  obtain ⟨p, b, h⟩ := s.testLow_eq
  rw [h]
  rfl

@[simp] theorem core_answer (src seq kind : Byte) (code : Result) (body : List Byte) (restart : Bool) :
    core (s.answer src seq kind code body restart) = core s := rfl

@[simp] theorem core_answerTare (code : Result) (body : List Byte) : core (s.answerTare code body) = core s := by
  unfold State.answerTare
  split <;> rfl

@[simp] theorem core_beginSend : core s.beginSend = core s := by
  unfold core
  simp only [State.station_beginSend, State.arbiter_beginSend, State.weigher_beginSend, State.store_beginSend, State.mode_beginSend,
    State.recipes_beginSend]

/-- The grant ends for arbiter and weigher. -/
@[simp] theorem core_endGrant : core s.endGrant = { core s with called := none, granted := none } := rfl

@[simp] theorem core_removeCall : core (s.removeCall st) = { core s with queue := s.arbiter.queue.filter (· ≠ st) } := rfl

/-- A write of the weigher. -/
theorem core_modWeigher (f : Weigher → Weigher) : core (s.modWeigher f) =
    { core s with granted := (f s.weigher).granted, weigher := (f s.weigher).state, pieces := (f s.weigher).pieces.length } := rfl

@[simp] theorem core_enterClearing (g : Gate) : core (s.enterClearing g) = { core s with weigher := .clearing } := by
  unfold State.enterClearing
  rw [core_wantGate]
  rfl

@[simp] theorem core_releaseContext : core (s.releaseContext st) = (core s).put st { (core s).station st with ctx := none } := by
  unfold State.releaseContext
  rw [core_resolveAfresh]
  exact core_modStation s st _

end

end Sys2Proof.Claim
end

section
/-! PROOFS. The invariants of the cell and of the store over the core, but for one station that an operation has in hand. -/

namespace Sys2Proof.Claim

open Sys2Proof.Machine

/-! ### The cell -/

/-- The context that goes with a state (R3, R134). -/
def CtxOk (x : StationState) (k : Option CtxCore) : Prop :=
  match x with
  | .offline | .warming | .ready | .calling | .parked => k = none
  | .charging => ∃ c, k = some c ∧ c.mould = false ∧ c.sub = .none
  | .loading | .curing => ∃ c, k = some c ∧ c.mould = true ∧ c.sub = .none
  | .opening => ∃ c, k = some c ∧ c.mould = true ∧ (c.sub = .none ∨ c.sub = .waitOpen)
  | .ejecting => ∃ c, k = some c ∧ c.mould = true ∧ (c.sub = .none ∨ c.sub = .extending ∨ c.sub = .retracting ∨ c.sub = .dwelling)
  | .hold | .latched => ∀ c, k = some c → c.mould = true ∧ c.sub = .none

/-- The states that neither the call queue nor the grant goes with. -/
def Settled (x : StationState) : Prop := x ≠ .calling ∧ x ≠ .charging

/-- The weigher is in a weigh (R105). -/
def Weighing (w : WeigherState) : Prop := w = .armed ∨ w = .settling ∨ w = .stable

/-- The cell's invariant (R3, R105, R123, R129, R187), but for the station `x`, which neither queue nor grant names. -/
structure CellRest (x : Option (Fin 6)) (v : Core) : Prop where
  ctx : ∀ st, x ≠ some st → CtxOk (v.station st).state (v.station st).ctx
  queue : ∀ st, x ≠ some st → (st ∈ v.queue ↔ (v.station st).state = .calling)
  granted : ∀ st, x ≠ some st → (v.granted = some st ↔ (v.station st).state = .charging)
  online : ∀ st, x ≠ some st → v.mode ≠ .run → (v.station st).state = .offline
  free : ∀ st, x = some st → st ∉ v.queue ∧ v.granted ≠ some st
  nodup : v.queue.Nodup
  called : v.called = v.granted
  weigh : v.granted ≠ none ↔ Weighing v.weigher

/-! ### The store -/

/-- The counts of a context (R76, R109, R134, R143). -/
structure CtxFits (c : CtxCore) : Prop where
  counts : CountsFit c.snapshot
  pieces : c.pieces ≤ 8
  faults : c.faults ≤ 16
  attempts : c.attempts ≤ c.number
  number : c.number ≤ c.snapshot.retryLimit + 1
  extending : c.sub = .extending → c.attempts < c.number
  dwelling : c.sub = .dwelling → c.number < c.snapshot.retryLimit + 1
  waitOpen : c.sub = .waitOpen → c.attempts = 0

/-- A send that was not cut is that of the record at the auto-send position (R158, R159, R162). -/
def SendFits (x : StoreCore) : Prop :=
  ∀ y, x.sender = some y → y.cut = false → y.seq = x.autoPos ∧
    (y.origin = .read → x.autoPos = x.cursor ∧ x.cursor ≠ x.next) ∧ (y.origin = .auto → x.autoPos ≠ x.cursor)

/-- What the store's invariant says of the store alone (R149 to R152). -/
structure StoreOk (x : StoreCore) : Prop where
  held : x.held = (x.ring.map List.length).sum
  fits : x.held + 168 * x.reservations ≤ 16384
  unreserved : x.policy = .overwrite → x.reservations = 0
  sizes : ∀ r ∈ x.ring, 16 ≤ r.length ∧ r.length ≤ 168
  next : x.next = x.oldest + BitVec.ofNat 32 x.ring.length
  cursor : (x.cursor - x.oldest).toNat ≤ x.ring.length
  autoPos : (x.autoPos - x.oldest).toNat ≤ (x.cursor - x.oldest).toNat
  sender : SendFits x

/-- What the store's invariant says of a context. -/
structure CtxStored (v : Core) (st : Fin 6) (c : CtxCore) : Prop where
  fits : CtxFits c
  reservation : c.reservation = .held ↔ v.store.policy = .hold
  pieces : v.granted = some st → v.pieces < c.snapshot.pieceLimit

/-- The stations with a context, but for the station `y`. -/
def contexts (y : Option (Fin 6)) (v : Core) : List (Fin 6) :=
  (List.finRange 6).filter fun st => decide (y ≠ some st) && (v.station st).ctx.isSome

/-- The store's invariant, but for the context of the station `y`, which counts for no reservation. -/
structure StoreRest (y : Option (Fin 6)) (v : Core) : Prop where
  store : StoreOk v.store
  counted : v.store.policy = .hold → v.store.reservations = (contexts y v).length
  recipes : ∀ n : Fin 16, CountsFit v.recipes[n]
  stored : ∀ st c, y ≠ some st → (v.station st).ctx = some c → CtxStored v st c

/-- Both invariants, but for the station `x` of the cell and the context of `y`; that of the store where `b` asks for it. -/
structure Inv (b : Bool) (x y : Option (Fin 6)) (v : Core) : Prop where
  cell : CellRest x v
  store : b = true → StoreRest y v

/-! ### The invariants of the statements -/

theorem ctxOk_stationCore (x : Station) : CtxOk x.state (x.ctx.map ctxCore) ↔ ContextByState x ∧ EjectionByState x := by
  have hnone (h : ContextByState x ↔ x.ctx = none) : x.ctx.map ctxCore = none ↔ ContextByState x ∧ EjectionByState x := by
    rw [h, Option.map_eq_none_iff]
    exact ⟨fun e => ⟨e, fun c hc => absurd (hc.symm.trans e) nofun⟩, And.left⟩
  have hsome {mould : Bool} (h : ContextByState x ↔ ∃ c, x.ctx = some c ∧ c.mouldOccupied = mould) {p : SubState → Prop}
      (hp : ∀ c : Context, (c.eject.sub = .none ∨ c.eject.sub = .waitOpen ∧ x.state = .opening ∨
        (c.eject.sub = .extending ∨ c.eject.sub = .retracting ∨ c.eject.sub = .dwelling) ∧ x.state = .ejecting) ↔ p c.eject.sub) :
      (∃ c, x.ctx.map ctxCore = some c ∧ c.mould = mould ∧ p c.sub) ↔ ContextByState x ∧ EjectionByState x := by
    rw [h]
    unfold EjectionByState
    simp only [hp, Option.map_eq_some_iff]
    constructor
    · rintro ⟨_, ⟨c, hc, rfl⟩, hm, hsub⟩
      exact ⟨⟨c, hc, hm⟩, fun d hd => by cases hc.symm.trans hd; exact hsub⟩
    · rintro ⟨⟨c, hc, hm⟩, he⟩
      exact ⟨_, ⟨c, hc, rfl⟩, hm, he c hc⟩
  have hheld (h : ContextByState x ↔ ∀ c, x.ctx = some c → c.mouldOccupied = true) (h1 : x.state ≠ .opening) (h2 : x.state ≠ .ejecting) :
      (∀ c, x.ctx.map ctxCore = some c → c.mould = true ∧ c.sub = .none) ↔ ContextByState x ∧ EjectionByState x := by
    rw [h]
    unfold EjectionByState
    simp only [h1, h2, and_false, or_false, Option.map_eq_some_iff]
    constructor
    · exact fun hx => ⟨fun c hc => (hx _ ⟨c, hc, rfl⟩).1, fun c hc => (hx _ ⟨c, hc, rfl⟩).2⟩
    · rintro ⟨hm, he⟩ _ ⟨c, hc, rfl⟩
      exact ⟨hm c hc, he c hc⟩
  cases hx : x.state with
  | offline | warming | ready | calling | parked => exact hnone (by unfold ContextByState; rw [hx])
  | charging => exact hsome (by unfold ContextByState; rw [hx]) (p := (· = .none)) fun c => by simp [hx]
  | loading | curing => exact hsome (by unfold ContextByState; rw [hx]) (p := (· = .none)) fun c => by simp [hx]
  | opening => exact hsome (by unfold ContextByState; rw [hx]) (p := fun u => u = .none ∨ u = .waitOpen) fun c => by simp [hx]
  | ejecting =>
    exact hsome (by unfold ContextByState; rw [hx]) (p := fun u => u = .none ∨ u = .extending ∨ u = .retracting ∨ u = .dwelling) fun c => by
      simp [hx]
  | hold | latched => exact hheld (by unfold ContextByState; rw [hx]) (by rw [hx]; nofun) (by rw [hx]; nofun)

/-- The cell's invariant over the core. -/
theorem cellInvariant_iff (s : State) : CellInvariant s ↔ CellRest none (core s) := by
  constructor
  · rintro ⟨hst, hnodup, hcalled, hweigh⟩
    refine ⟨fun st _ => ?_, fun st _ => (hst st).2.2.1, fun st _ => (hst st).2.2.2.1, fun st _ => (hst st).2.2.2.2, nofun, hnodup, hcalled,
      hweigh⟩
    exact (ctxOk_stationCore _).mpr ⟨(hst st).1, (hst st).2.1⟩
  · rintro ⟨hctx, hqueue, hgranted, honline, -, hnodup, hcalled, hweigh⟩
    refine ⟨fun st => ?_, hnodup, hcalled, hweigh⟩
    obtain ⟨h1, h2⟩ := (ctxOk_stationCore _).mp (hctx st nofun)
    exact ⟨h1, h2, hqueue st nofun, hgranted st nofun, honline st nofun⟩

theorem ctxFits_iff (c : Context) : ContextFits c ↔ CtxFits (ctxCore c) := by
  constructor
  · rintro ⟨h1, h2, h3, h4, h5, h6, h7, h8⟩
    exact ⟨h1, h2, h3, h4, h5, h6, h7, fun h => congrArg List.length (h8 h)⟩
  · rintro ⟨h1, h2, h3, h4, h5, h6, h7, h8⟩
    exact ⟨h1, h2, h3, h4, h5, h6, h7, fun h => List.length_eq_zero_iff.mp (h8 h)⟩

theorem contexts_none (s : State) : contexts none (core s) = (List.finRange 6).filter fun st => ((s.station st).ctx).isSome := by
  unfold contexts
  refine List.filter_congr fun st _ => ?_
  simp [stationCore]

/-- The store's invariant over the core. -/
theorem storeInvariant_iff (s : State) : StoreInvariant s ↔ StoreRest none (core s) := by
  constructor
  · rintro ⟨h1, h2, h3, h4, h5, h6, h7, h8, h9, h10, h11⟩
    refine ⟨⟨h1, h2, h3, h5, h6, h7, h8, h9⟩, fun hp => by rw [contexts_none]; exact h4 hp, h10, fun st d _ hd => ?_⟩
    obtain ⟨c, hc, rfl⟩ := Option.map_eq_some_iff.mp hd
    obtain ⟨hfits, hres, hpieces⟩ := h11 st c hc
    exact ⟨(ctxFits_iff c).mp hfits, hres, hpieces⟩
  · rintro ⟨⟨h1, h2, h3, h5, h6, h7, h8, h9⟩, h4, h10, h11⟩
    refine ⟨h1, h2, h3, fun hp => by rw [← contexts_none]; exact h4 hp, h5, h6, h7, h8, h9, h10, fun st c hc => ?_⟩
    have hd : ((core s).station st).ctx = some (ctxCore c) := by
      rw [core_station, stationCore, hc]
      rfl
    obtain ⟨hfits, hres, hpieces⟩ := h11 st (ctxCore c) nofun hd
    exact ⟨(ctxFits_iff c).mpr hfits, hres, hpieces⟩

theorem inv_false_iff (s : State) : CellInvariant s ↔ Inv false none none (core s) :=
  (cellInvariant_iff s).trans ⟨fun h => ⟨h, nofun⟩, fun h => h.cell⟩

theorem inv_true_iff (s : State) : CellInvariant s ∧ StoreInvariant s ↔ Inv true none none (core s) := by
  rw [cellInvariant_iff, storeInvariant_iff]
  exact ⟨fun h => ⟨h.1, fun _ => h.2⟩, fun h => ⟨h.cell, h.store rfl⟩⟩

end Sys2Proof.Claim
end

section
/-! PROOFS. How the invariants of the cell and of the store go over to another core. -/

namespace Sys2Proof.Claim

open Sys2Proof.Machine

/-! ### Contexts that change and keep their counts -/

/-- A change of a context that keeps its reservation and its counts. -/
def KeepsFit (c d : CtxCore) : Prop := d.reservation = c.reservation ∧ (CtxFits c → CtxFits d)

theorem KeepsFit.refl (c : CtxCore) : KeepsFit c c := ⟨rfl, id⟩

/-- With no ejection under way, a context whose counts stand keeps them. -/
theorem KeepsFit.of_idle {c d : CtxCore} (hres : d.reservation = c.reservation) (hsnap : d.snapshot = c.snapshot) (hpieces : d.pieces = c.pieces)
    (hfaults : d.faults = c.faults) (hattempts : d.attempts = c.attempts) (hnumber : d.number = c.number)
    (hsub : d.sub = .none ∨ d.sub = .retracting) : KeepsFit c d := by
  refine ⟨hres, fun h => ?_⟩
  obtain ⟨h1, h2, h3, h4, h5, -, -, -⟩ := h
  refine ⟨hsnap ▸ h1, hpieces ▸ h2, hfaults ▸ h3, ?_, ?_, ?_, ?_, ?_⟩
  · rwa [hattempts, hnumber]
  · rwa [hnumber, hsnap]
  all_goals
    intro h
    rw [h] at hsub
    exact absurd hsub (by simp)

section
variable {b : Bool} {v : Core} {st : Fin 6} {x y : Option (Fin 6)}

/-! ### The contexts counted -/

theorem contexts_congr {v w : Core} (h : ∀ sx, y ≠ some sx → (w.station sx).ctx.isSome = (v.station sx).ctx.isSome) :
    contexts y w = contexts y v := by
  refine List.filter_congr fun sx _ => ?_
  by_cases hy : y = some sx
  · simp [hy]
  · rw [h sx hy]

/-- One more element meets the condition. -/
theorem length_filter_succ {α : Type} {l : List α} {p q : α → Bool} {a : α} (hl : l.Nodup) (ha : a ∈ l) (hp : p a = false) (hq : q a = true)
    (h : ∀ c, c ≠ a → q c = p c) : (l.filter q).length = (l.filter p).length + 1 := by
  induction l with
  | nil => exact absurd ha (by simp)
  | cons c l ih =>
    obtain ⟨hc, hnodup⟩ := List.nodup_cons.mp hl
    by_cases hca : c = a
    · subst hca
      have hrest : l.filter q = l.filter p := List.filter_congr fun d hd => h d (ne_of_mem_of_not_mem hd hc)
      simp [hp, hq, hrest]
    · have hmem : a ∈ l := by simpa [Ne.symm hca] using ha
      have hlen := ih hnodup hmem
      rw [List.filter_cons, List.filter_cons, h c hca]
      split <;> simp [hlen]

/-- A station gains a context. -/
theorem contexts_gain {w : Core} (hy : y ≠ some st) (hv : (v.station st).ctx = none) (hw : (w.station st).ctx.isSome = true)
    (h : ∀ sx, sx ≠ st → w.station sx = v.station sx) : (contexts y w).length = (contexts y v).length + 1 := by
  refine length_filter_succ (List.nodup_finRange 6) (List.mem_finRange st) ?_ ?_ fun sx hsx => ?_
  · simp [hv]
  · simp [hy, hw]
  · rw [h sx hsx]

/-- The context of a station is no longer counted. -/
theorem contexts_except (hv : (v.station st).ctx.isSome = true) : (contexts none v).length = (contexts (some st) v).length + 1 := by
  refine length_filter_succ (List.nodup_finRange 6) (List.mem_finRange st) ?_ ?_ fun sx hsx => ?_
  · simp
  · simp [hv]
  · simp [Ne.symm hsx]

/-! ### Out of its place and back -/

/-- A station that neither queue nor grant names may change. -/
theorem CellRest.exempt (h : CellRest none v) (hst : Settled (v.station st).state) : CellRest (some st) v := by
  obtain ⟨hctx, hqueue, hgranted, honline, -, hnodup, hcalled, hweigh⟩ := h
  refine ⟨fun sx _ => hctx sx nofun, fun sx _ => hqueue sx nofun, fun sx _ => hgranted sx nofun, fun sx _ => honline sx nofun, ?_, hnodup,
    hcalled, hweigh⟩
  rintro sx ⟨rfl⟩
  rw [hqueue st nofun, Ne, hgranted st nofun]
  exact hst

theorem Inv.exempt (h : Inv b none y v) (hst : Settled (v.station st).state) : Inv b (some st) y v := ⟨h.cell.exempt hst, h.store⟩

/-- One station apart from the others. -/
theorem stationwise {P : Fin 6 → Prop} (st : Fin 6) (hself : P st) (hother : ∀ sx, sx ≠ st → P sx) (sx : Fin 6) : P sx := by
  by_cases h : sx = st
  · exact h ▸ hself
  · exact hother sx h

theorem some_ne {sx : Fin 6} (h : sx ≠ st) : (some st : Option (Fin 6)) ≠ some sx := fun e => h (Option.some.inj e).symm

theorem CellRest.restore (h : CellRest (some st) v) (hst : Settled (v.station st).state) (hok : CtxOk (v.station st).state (v.station st).ctx)
    (hmode : v.mode = .run ∨ (v.station st).state = .offline) : CellRest none v := by
  obtain ⟨hctx, hqueue, hgranted, honline, hfree, hnodup, hcalled, hweigh⟩ := h
  obtain ⟨hnot, hne⟩ := hfree st rfl
  refine ⟨fun sx _ => ?_, fun sx _ => ?_, fun sx _ => ?_, fun sx _ hrun => ?_, nofun, hnodup, hcalled, hweigh⟩
  · exact stationwise st hok (fun _ hsx => hctx _ (some_ne hsx)) sx
  · exact stationwise st (iff_of_false hnot hst.1) (fun _ hsx => hqueue _ (some_ne hsx)) sx
  · exact stationwise st (iff_of_false hne hst.2) (fun _ hsx => hgranted _ (some_ne hsx)) sx
  · exact stationwise st (hmode.resolve_left hrun) (fun _ hsx => honline _ (some_ne hsx) hrun) sx

/-- The station takes its place again. -/
theorem Inv.restore (h : Inv b (some st) y v) (hst : Settled (v.station st).state) (hok : CtxOk (v.station st).state (v.station st).ctx)
    (hmode : v.mode = .run ∨ (v.station st).state = .offline) : Inv b none y v := ⟨h.cell.restore hst hok hmode, h.store⟩

/-- It takes its place as one that calls, at the head or at the tail of the queue (R124). -/
theorem CellRest.restoreCalling {q : List (Fin 6)} (h : CellRest (some st) v) (hst : (v.station st).state = .calling)
    (hctx : (v.station st).ctx = none) (hmode : v.mode = .run) (hq : q.Perm (st :: v.queue)) : CellRest none { v with queue := q } := by
  obtain ⟨hctxs, hqueue, hgranted, honline, hfree, hnodup, hcalled, hweigh⟩ := h
  obtain ⟨hnot, hne⟩ := hfree st rfl
  refine ⟨fun sx _ => ?_, fun sx _ => ?_, fun sx _ => ?_, fun _ _ hrun => absurd hmode hrun, nofun, ?_, hcalled, hweigh⟩
  · exact stationwise (P := fun sx => CtxOk (v.station sx).state (v.station sx).ctx) st (by rw [hst]; exact hctx)
      (fun _ hsx => hctxs _ (some_ne hsx)) sx
  · show sx ∈ q ↔ (v.station sx).state = .calling
    rw [hq.mem_iff]
    refine stationwise (P := fun sx => sx ∈ st :: v.queue ↔ (v.station sx).state = .calling) st (iff_of_true (by simp) hst) (fun sy hsy => ?_) sx
    rw [← hqueue sy (some_ne hsy)]
    simp [hsy]
  · exact stationwise (P := fun sx => v.granted = some sx ↔ (v.station sx).state = .charging) st (iff_of_false hne (by rw [hst]; nofun))
      (fun _ hsx => hgranted _ (some_ne hsx)) sx
  · show q.Nodup
    exact hq.nodup_iff.mpr (List.nodup_cons.mpr ⟨hnot, hnodup⟩)

theorem StoreRest.of_eq {w : Core} (h : StoreRest y v) (hstation : w.station = v.station) (hstore : w.store = v.store)
    (hrecipes : w.recipes = v.recipes) (hpieces : ∀ sx, w.granted = some sx → v.granted = some sx ∧ w.pieces = v.pieces) : StoreRest y w := by
  obtain ⟨h1, h2, h3, h4⟩ := h
  refine ⟨hstore ▸ h1, ?_, hrecipes ▸ h3, fun sx c hy hc => ?_⟩
  · rw [hstore, contexts_congr (v := v) fun sx _ => by rw [hstation]]
    exact h2
  · obtain ⟨hf, hr, hp⟩ := h4 sx c hy (hstation ▸ hc)
    refine ⟨hf, hstore ▸ hr, fun hg => ?_⟩
    obtain ⟨hg', e⟩ := hpieces sx hg
    exact e ▸ hp hg'

theorem Inv.restoreCalling {q : List (Fin 6)} (h : Inv b (some st) y v) (hst : (v.station st).state = .calling)
    (hctx : (v.station st).ctx = none) (hmode : v.mode = .run) (hq : q.Perm (st :: v.queue)) : Inv b none y { v with queue := q } :=
  ⟨h.cell.restoreCalling hst hctx hmode hq, fun hb => (h.store hb).of_eq rfl rfl rfl fun _ hg => ⟨hg, rfl⟩⟩

/-- A calling station leaves the queue (R125). -/
theorem CellRest.leave (h : CellRest none v) (hst : (v.station st).state = .calling) :
    CellRest (some st) { v with queue := v.queue.filter (· ≠ st) } := by
  obtain ⟨hctx, hqueue, hgranted, honline, -, hnodup, hcalled, hweigh⟩ := h
  refine ⟨fun sx _ => hctx sx nofun, fun sx hsx => ?_, fun sx _ => hgranted sx nofun, fun sx _ => honline sx nofun, ?_, hnodup.filter _,
    hcalled, hweigh⟩
  · have hne : sx ≠ st := fun e => hsx (congrArg some e.symm)
    show sx ∈ v.queue.filter (· ≠ st) ↔ _
    rw [List.mem_filter, hqueue sx nofun]
    simp [hne]
  · rintro _ ⟨rfl⟩
    refine ⟨by simp, fun hg => ?_⟩
    exact absurd (((hgranted st nofun).mp hg).symm.trans hst) nofun

theorem Inv.leave (h : Inv b none y v) (hst : (v.station st).state = .calling) :
    Inv b (some st) y { v with queue := v.queue.filter (· ≠ st) } :=
  ⟨h.cell.leave hst, fun hb => (h.store hb).of_eq rfl rfl rfl fun _ hg => ⟨hg, rfl⟩⟩

/-! ### A station that changes -/

theorem CellRest.put (h : CellRest (some st) v) (k : StationCore) : CellRest (some st) (v.put st k) := by
  obtain ⟨hctx, hqueue, hgranted, honline, hfree, hnodup, hcalled, hweigh⟩ := h
  have hother {sx : Fin 6} (hsx : some st ≠ some sx) : (v.put st k).station sx = v.station sx :=
    v.station_put_of_ne (fun e => hsx (congrArg some e.symm)) k
  refine ⟨fun sx hsx => ?_, fun sx hsx => ?_, fun sx hsx => ?_, fun sx hsx => ?_, hfree, hnodup, hcalled, hweigh⟩
  · rw [hother hsx]; exact hctx sx hsx
  · rw [hother hsx]; exact hqueue sx hsx
  · rw [hother hsx]; exact hgranted sx hsx
  · rw [hother hsx]; exact honline sx hsx

/-- A station out of its place takes another state, and its context keeps its counts. -/
theorem Inv.put (h : Inv b (some st) y v) {f : CtxCore → CtxCore}
    (hf : b = true → ∀ c, (v.station st).ctx = some c → KeepsFit c (f c)) (k : StationState) :
    Inv b (some st) y (v.put st { state := k, ctx := (v.station st).ctx.map f }) := by
  refine ⟨h.cell.put _, fun hb => ?_⟩
  obtain ⟨hstore, hcounted, hrecipes, hstored⟩ := h.store hb
  have hself : (v.put st { state := k, ctx := (v.station st).ctx.map f }).station st = _ := v.station_put st _
  refine ⟨hstore, fun hp => ?_, hrecipes, fun sx d hy hd => ?_⟩
  · rw [contexts_congr (v := v) fun sx _ => ?_]
    · exact hcounted hp
    · by_cases hsx : sx = st
      · rw [hsx, hself, Option.isSome_map]
      · rw [v.station_put_of_ne hsx]
  · by_cases hsx : sx = st
    · subst hsx
      rw [hself] at hd
      obtain ⟨c, hc, rfl⟩ := Option.map_eq_some_iff.mp hd
      obtain ⟨hfit, hres, -⟩ := hstored sx c hy hc
      obtain ⟨hsame, hkeep⟩ := hf hb c hc
      exact ⟨hkeep hfit, by rw [hsame]; exact hres, fun hg => absurd hg (h.cell.free sx rfl).2⟩
    · rw [v.station_put_of_ne hsx] at hd
      obtain ⟨hfit, hres, hpieces⟩ := hstored sx d hy hd
      exact ⟨hfit, hres, hpieces⟩

/-- A station out of its place takes another state. -/
theorem Inv.setState (h : Inv b (some st) y v) (k : StationState) : Inv b (some st) y (v.setState st k) := by
  have hput := h.put (f := id) (fun _ c _ => KeepsFit.refl c) k
  rwa [Option.map_id, id] at hput

/-- A live station shows that the mode is RUN (R187). -/
theorem Inv.run (h : Inv b x y v) (hx : x ≠ some st) (hlive : (v.station st).state ≠ .offline) : v.mode = .run :=
  by_contra fun hm => hlive (h.cell.online st hx hm)

theorem Inv.ok (h : Inv b none y v) (st : Fin 6) : CtxOk (v.station st).state (v.station st).ctx := h.cell.ctx st nofun

/-- A station out of its place takes a state that neither queue nor grant goes with; its context keeps its counts. -/
theorem Inv.place (h : Inv b (some st) y v) {k : StationState} {f : CtxCore → CtxCore} (hk : Settled k)
    (hf : b = true → ∀ c, (v.station st).ctx = some c → KeepsFit c (f c)) (hok : CtxOk k ((v.station st).ctx.map f))
    (hlive : v.mode = .run ∨ k = .offline) : Inv b none y (v.put st { state := k, ctx := (v.station st).ctx.map f }) :=
  (h.put hf k).restore (by rwa [Core.station_put]) (by rwa [Core.station_put]) (by rwa [Core.station_put])

/-- A station that neither queue nor grant goes with takes another such state. -/
theorem Inv.move (h : Inv b none y v) {k : StationState} {f : CtxCore → CtxCore} (hst : Settled (v.station st).state) (hk : Settled k)
    (hf : b = true → ∀ c, (v.station st).ctx = some c → KeepsFit c (f c)) (hok : CtxOk k ((v.station st).ctx.map f))
    (hlive : (v.station st).state ≠ .offline ∨ k = .offline) :
    Inv b none y (v.put st { state := k, ctx := (v.station st).ctx.map f }) :=
  (h.exempt hst).place hk hf hok (hlive.imp_left fun hl => h.run nofun hl)

/-! ### The weigher -/

/-- The weigher changes and stays in its weigh, or out of one; its pieces stay below the limit. -/
theorem Inv.setWeigher (h : Inv b x y v) {w : WeigherState} {n : Nat} (hw : Weighing w ↔ Weighing v.weigher)
    (hn : b = true → ∀ sx c, v.granted = some sx → (v.station sx).ctx = some c → v.pieces < c.snapshot.pieceLimit →
      n < c.snapshot.pieceLimit) :
    Inv b x y { v with weigher := w, pieces := n } := by
  obtain ⟨⟨hctx, hqueue, hgranted, honline, hfree, hnodup, hcalled, hweigh⟩, hstore⟩ := h
  refine ⟨⟨hctx, hqueue, hgranted, honline, hfree, hnodup, hcalled, hweigh.trans hw.symm⟩, fun hb => ?_⟩
  obtain ⟨h1, h2, h3, h4⟩ := hstore hb
  refine ⟨h1, h2, h3, fun sx c hy hc => ?_⟩
  obtain ⟨hfit, hres, hpieces⟩ := h4 sx c hy hc
  exact ⟨hfit, hres, fun hg => hn hb sx c hg hc (hpieces hg)⟩

/-- Outside a weigh the weigher changes and stays outside one. -/
theorem Inv.outside (h : Inv b x y v) (hv : ¬Weighing v.weigher) {w : WeigherState} (hw : ¬Weighing w) : Inv b x y { v with weigher := w } :=
  h.setWeigher (n := v.pieces) (iff_of_false hw hv) fun _ _ _ _ _ hn => hn

/-- Without a grant the pieces count for nothing. -/
theorem Inv.setPieces (h : Inv b x y v) (hg : v.granted = none) (n : Nat) : Inv b x y { v with pieces := n } :=
  h.setWeigher (w := v.weigher) Iff.rfl fun _ _ _ hs => absurd (hg.symm.trans hs) nofun

/-- The grant ends, and the weigh with it (R113): the station that was charging is out of its place. -/
theorem CellRest.endGrant (h : CellRest none v) (hst : (v.station st).state = .charging) {w : WeigherState} (hw : ¬Weighing w) :
    CellRest (some st) { v with called := none, granted := none, weigher := w } := by
  obtain ⟨hctx, hqueue, hgranted, honline, -, hnodup, -, -⟩ := h
  have hg : v.granted = some st := (hgranted st nofun).mpr hst
  refine ⟨fun sx _ => hctx sx nofun, fun sx _ => hqueue sx nofun, fun sx hsx => ?_, fun sx _ => honline sx nofun, ?_, hnodup, rfl,
    iff_of_false (not_not_intro rfl) hw⟩
  · refine iff_of_false nofun fun hc => hsx ?_
    exact hg.symm.trans ((hgranted sx nofun).mpr hc)
  · rintro _ ⟨rfl⟩
    refine ⟨fun hm => ?_, nofun⟩
    exact absurd (((hqueue st nofun).mp hm).symm.trans hst) nofun

/-- A grant (R127): a calling station leaves the queue for CHARGING, and the idle weigher takes up the weigh. -/
theorem CellRest.grant (h : CellRest none v) (hst : (v.station st).state = .calling) (hidle : v.weigher = .idle) {k : StationCore}
    (hk : k.state = .charging) (hok : CtxOk .charging k.ctx) {w : WeigherState} (hw : Weighing w) :
    CellRest none { v.put st k with queue := v.queue.filter (· ≠ st), called := some st, granted := some st, weigher := w } := by
  have hrun : v.mode = .run := by_contra fun hm => absurd ((h.online st nofun hm).symm.trans hst) nofun
  obtain ⟨hctx, hqueue, hgranted, -, -, hnodup, -, hweigh⟩ := h
  have hnone : v.granted = none := by_contra fun hg => by simp [hidle, Weighing] at hweigh; exact hg hweigh
  have hself : (v.put st k).station st = k := v.station_put st k
  refine ⟨fun sx _ => ?_, fun sx _ => ?_, fun sx _ => ?_, fun sx _ hm => absurd hrun hm, nofun, hnodup.filter _, rfl, iff_of_true nofun hw⟩
  · show CtxOk ((v.put st k).station sx).state ((v.put st k).station sx).ctx
    by_cases hsx : sx = st
    · rw [hsx, hself, hk]
      exact hok
    · rw [v.station_put_of_ne hsx]
      exact hctx sx nofun
  · show sx ∈ v.queue.filter (· ≠ st) ↔ ((v.put st k).station sx).state = .calling
    by_cases hsx : sx = st
    · rw [hsx, hself, hk]
      simp
    · rw [v.station_put_of_ne hsx, ← hqueue sx nofun]
      simp [hsx]
  · show some st = some sx ↔ ((v.put st k).station sx).state = .charging
    by_cases hsx : sx = st
    · rw [hsx, hself, hk]
      simp
    · rw [v.station_put_of_ne hsx, ← hgranted sx nofun, hnone]
      simp [Ne.symm hsx]

/-! ### The store -/

/-- The store changes beside policy and reservations. -/
theorem Inv.setStore (h : Inv b x y v) {z : StoreCore}
    (hz : b = true → StoreOk z ∧ z.policy = v.store.policy ∧ z.reservations = v.store.reservations) :
    Inv b x y { v with store := z } := by
  obtain ⟨⟨hctx, hqueue, hgranted, honline, hfree, hnodup, hcalled, hweigh⟩, hstore⟩ := h
  refine ⟨⟨hctx, hqueue, hgranted, honline, hfree, hnodup, hcalled, hweigh⟩, fun hb => ?_⟩
  obtain ⟨-, h2, h3, h4⟩ := hstore hb
  obtain ⟨hok, hpolicy, hres⟩ := hz hb
  refine ⟨hok, fun hp => hres.trans (h2 (hpolicy.symm.trans hp)), h3, fun sx c hy hc => ?_⟩
  obtain ⟨hfit, hheld, hpieces⟩ := h4 sx c hy hc
  exact ⟨hfit, by rw [hheld]; exact iff_of_eq (congrArg (· = _) hpolicy.symm), hpieces⟩

/-- A cycle's reservation is used (R155): its context no longer counts. -/
theorem Inv.spend (h : Inv b x none v) (hctx : (v.station st).ctx.isSome = true) {z : StoreCore}
    (hz : b = true → StoreOk z ∧ z.policy = v.store.policy ∧ (z.policy = .hold → z.reservations + 1 = v.store.reservations)) :
    Inv b x (some st) { v with store := z } := by
  obtain ⟨⟨hc, hqueue, hgranted, honline, hfree, hnodup, hcalled, hweigh⟩, hstore⟩ := h
  refine ⟨⟨hc, hqueue, hgranted, honline, hfree, hnodup, hcalled, hweigh⟩, fun hb => ?_⟩
  obtain ⟨-, h2, h3, h4⟩ := hstore hb
  obtain ⟨hok, hpolicy, hres⟩ := hz hb
  refine ⟨hok, fun hp => ?_, h3, fun sx c _ hc => ?_⟩
  · have hcount : v.store.reservations = (contexts (some st) v).length + 1 := (h2 (hpolicy.symm.trans hp)).trans (contexts_except hctx)
    exact Nat.succ_injective ((hres hp).trans hcount)
  · obtain ⟨hfit, hheld, hpieces⟩ := h4 sx c nofun hc
    exact ⟨hfit, by rw [hheld]; exact iff_of_eq (congrArg (· = _) hpolicy.symm), hpieces⟩

/-- A station whose context counts no longer loses it (R7). -/
theorem StoreRest.release (h : StoreRest (some st) v) {k : StationCore} (hk : k.ctx = none) : StoreRest none (v.put st k) := by
  obtain ⟨h1, h2, h3, h4⟩ := h
  refine ⟨h1, fun hp => (h2 hp).trans (congrArg List.length ?_), h3, fun sx c _ hc => ?_⟩
  · refine List.filter_congr fun sx _ => ?_
    by_cases hsx : sx = st
    · subst hsx
      simp [hk]
    · simp [v.station_put_of_ne hsx, Ne.symm hsx]
  · by_cases hsx : sx = st
    · rw [hsx, Core.station_put, hk] at hc
      exact absurd hc nofun
    · rw [v.station_put_of_ne hsx] at hc
      obtain ⟨hfit, hres, hpieces⟩ := h4 sx c (some_ne hsx) hc
      exact ⟨hfit, hres, hpieces⟩

theorem Inv.release (h : Inv b (some st) (some st) v) {k : StationCore} (hk : k.ctx = none) : Inv b (some st) none (v.put st k) :=
  ⟨h.cell.put k, fun hb => (h.store hb).release hk⟩

/-! ### The grant -/

/-- The grant ends (R113, R129). -/
theorem Inv.endGrant (h : Inv b none y v) (hst : (v.station st).state = .charging) {w : WeigherState} (hw : ¬Weighing w) :
    Inv b (some st) y { v with called := none, granted := none, weigher := w } :=
  ⟨h.cell.endGrant hst hw, fun hb => (h.store hb).of_eq rfl rfl rfl nofun⟩

/-- The grant (R127) creates a context, with a reservation under HOLD. -/
theorem Inv.grant (h : Inv b none y v) (hy : y ≠ some st) (hst : (v.station st).state = .calling) (hidle : v.weigher = .idle) {c : CtxCore}
    (hmould : c.mould = false) (hsub : c.sub = .none) (hfit : b = true → CtxFits c ∧ (c.reservation = .held ↔ v.store.policy = .hold))
    {w : WeigherState} (hw : Weighing w) {z : StoreCore}
    (hz : b = true → StoreOk z ∧ z.policy = v.store.policy ∧ (z.policy = .hold → z.reservations = v.store.reservations + 1)) :
    Inv b none y { v.put st { state := .charging, ctx := some c } with
      queue := v.queue.filter (· ≠ st), called := some st, granted := some st, weigher := w, pieces := 0, store := z } := by
  obtain ⟨hctx, hqueue, hgranted, honline, hfree, hnodup, hcalled, hweigh⟩ :=
    h.cell.grant hst hidle (k := { state := .charging, ctx := some c }) rfl ⟨c, rfl, hmould, hsub⟩ hw
  refine ⟨⟨hctx, hqueue, hgranted, honline, hfree, hnodup, hcalled, hweigh⟩, fun hb => ?_⟩
  obtain ⟨-, h2, h3, h4⟩ := h.store hb
  obtain ⟨hok, hpolicy, hres⟩ := hz hb
  obtain ⟨hfits, hheld⟩ := hfit hb
  have hnone : (v.station st).ctx = none := by
    have := h.ok st
    rwa [hst] at this
  have hself : (v.put st { state := .charging, ctx := some c }).station st = { state := .charging, ctx := some c } := v.station_put st _
  refine ⟨hok, fun hp => ?_, h3, fun sx d hsx hd => ?_⟩
  · rw [hres hp, h2 (hpolicy.symm.trans hp)]
    exact (contexts_gain hy hnone (by simp) fun sx hsx => v.station_put_of_ne hsx _).symm
  · by_cases hne : sx = st
    · subst hne
      cases (congrArg StationCore.ctx hself).symm.trans hd
      have hlimit : 0 < c.snapshot.pieceLimit := by
        obtain ⟨h1, h2, -, -⟩ := hfits.counts
        omega
      exact ⟨hfits, by rw [hheld]; exact iff_of_eq (congrArg (· = _) hpolicy.symm), fun _ => hlimit⟩
    · obtain ⟨hfits', hheld', -⟩ := h4 sx d hsx ((congrArg StationCore.ctx (v.station_put_of_ne hne _)).symm.trans hd)
      refine ⟨hfits', by rw [hheld']; exact iff_of_eq (congrArg (· = _) hpolicy.symm), fun hg => ?_⟩
      exact absurd (Option.some.inj hg).symm hne

/-! ### A station in hand -/

/-- A station out of its place has no context, and the part runs. -/
structure Vacant (b : Bool) (st : Fin 6) (y : Option (Fin 6)) (v : Core) : Prop where
  inv : Inv b (some st) y v
  ctx : (v.station st).ctx = none
  run : v.mode = .run

theorem Vacant.restore (h : Vacant b st y v) {k : StationState} (hk : Settled k) (hok : CtxOk k none) : Inv b none y (v.setState st k) := by
  have hself : (v.setState st k).station st = { v.station st with state := k } := v.station_put st _
  refine (h.inv.setState k).restore (by rwa [hself]) ?_ (.inl h.run)
  rw [hself]
  show CtxOk k (v.station st).ctx
  rwa [h.ctx]

/-- It joins the call queue (R124). -/
theorem Vacant.call (h : Vacant b st y v) {q : List (Fin 6)} (hq : q.Perm (st :: v.queue)) :
    Inv b none y { v.setState st .calling with queue := q } := by
  have hself : (v.setState st .calling).station st = { v.station st with state := .calling } := v.station_put st _
  exact (h.inv.setState .calling).restoreCalling (by rw [hself]) (by rw [hself]; exact h.ctx) h.run hq

/-- A live station in a state without context, call and grant. -/
theorem Inv.vacant (h : Inv b none y v) (hst : Settled (v.station st).state) (hctx : (v.station st).ctx = none)
    (hlive : (v.station st).state ≠ .offline) : Vacant b st y v := ⟨h.exempt hst, hctx, h.run nofun hlive⟩

/-- A calling station leaves the queue (R125). -/
theorem Inv.leaveVacant (h : Inv b none y v) (hst : (v.station st).state = .calling) :
    Vacant b st y { v with queue := v.queue.filter (· ≠ st) } := by
  have hrun : v.mode = .run := h.run (st := st) nofun (by rw [hst]; nofun)
  refine ⟨h.leave hst, ?_, hrun⟩
  have := h.ok st
  rwa [hst] at this

/-- The context of a station that was in its place counts no longer and is released (R7). -/
theorem Inv.releaseVacant (h : Inv b none (some st) v) (hst : Settled (v.station st).state) (hlive : (v.station st).state ≠ .offline)
    {k : StationCore} (hk : k.ctx = none) : Vacant b st none (v.put st k) := by
  have hrun : v.mode = .run := h.run (st := st) nofun hlive
  exact ⟨(h.exempt hst).release hk, by rw [Core.station_put, hk], hrun⟩

end

end Sys2Proof.Claim
end

section
/-! PROOFS. The store's part of its invariant: records dropped, records appended, positions moved (R150, R154 to R156). -/

namespace Sys2Proof.Claim

open Sys2Proof.Machine

namespace StoreOk

variable {z : StoreCore} (h : StoreOk z)
include h

/-- Records of 16 bytes and more fill the ring with at most 1024. -/
theorem length_le : z.ring.length ≤ 1024 := by
  have hsum := List.card_nsmul_le_sum (z.ring.map List.length) 16 fun n hn => by
    obtain ⟨r, hr, rfl⟩ := List.mem_map.mp hn
    exact (h.sizes r hr).1
  rw [← h.held, List.length_map, smul_eq_mul] at hsum
  have := h.fits
  omega

/-- The oldest record is dropped (R156): positions on it move on, and a send of it is cut. -/
theorem dropOldest {r : List Byte} {rest : List (List Byte)} (hring : z.ring = r :: rest) : StoreOk { z with
    ring := rest, oldest := z.oldest + 1, held := z.held - r.length,
    cursor := if z.cursor = z.oldest then z.oldest + 1 else z.cursor,
    autoPos := if z.autoPos = z.oldest then z.oldest + 1 else z.autoPos,
    sender := z.sender.map fun x => if x.seq = z.oldest then { x with cut := true } else x } := by
  have hlen := h.length_le
  obtain ⟨hheld, hfits, hres, hsizes, hnext, hcursor, hauto, hsend⟩ := h
  rw [hring] at hheld hsizes hnext hcursor hlen
  simp only [List.map_cons, List.sum_cons, List.length_cons] at hheld hnext hcursor hlen
  have hplace {p : Time} (hp : p ≠ z.oldest) : (p - (z.oldest + 1)).toNat + 1 = (p - z.oldest).toNat := dist_succ hp
  refine ⟨?_, ?_, hres, fun q hq => hsizes q (List.mem_cons_of_mem r hq), ?_, ?_, ?_, ?_⟩
  · show z.held - r.length = (rest.map List.length).sum
    omega
  · show z.held - r.length + 168 * z.reservations ≤ 16384
    omega
  · show z.next = z.oldest + 1 + BitVec.ofNat 32 rest.length
    rw [hnext, BitVec.add_assoc, ← BitVec.ofNat_add_ofNat, BitVec.add_comm 1]
    rfl
  · dsimp only
    split
    · simp
    · next hp =>
      have := hplace hp
      omega
  · dsimp only
    by_cases ha : z.autoPos = z.oldest
    · rw [if_pos ha, BitVec.sub_self]
      exact Nat.zero_le _
    · have hc : z.cursor ≠ z.oldest := fun e => by
        rw [e, BitVec.sub_self] at hauto
        have := hplace ha
        simp only [BitVec.toNat_zero] at hauto
        omega
      rw [if_neg ha, if_neg hc]
      have h1 := hplace ha
      have h2 := hplace hc
      omega
  · intro y hy hcut
    obtain ⟨x, hx, hxy⟩ := Option.map_eq_some_iff.mp hy
    by_cases hseq : x.seq = z.oldest
    · rw [if_pos hseq] at hxy
      rw [← hxy] at hcut
      exact absurd hcut nofun
    · rw [if_neg hseq] at hxy
      subst hxy
      obtain ⟨hpos, hread, hsent⟩ := hsend x hx hcut
      have ha : z.autoPos ≠ z.oldest := fun e => hseq (hpos.trans e)
      have hc : z.cursor ≠ z.oldest := fun e => by
        rw [e, BitVec.sub_self] at hauto
        have := hplace ha
        simp only [BitVec.toNat_zero] at hauto
        omega
      simp only [if_neg ha, if_neg hc]
      exact ⟨hpos, hread, hsent⟩

/-- A record is appended where the room is there; a cursor that has caught up may pass with it (R154). -/
theorem push {bytes : List Byte} (hsize : 16 ≤ bytes.length ∧ bytes.length ≤ 168)
    (hroom : z.held + bytes.length + 168 * z.reservations ≤ 16384) {c : Time} (hc : c = z.cursor ∨ z.cursor = z.next ∧ c = z.next + 1) :
    StoreOk { z with ring := z.ring ++ [bytes], next := z.next + 1, held := z.held + bytes.length, cursor := c } := by
  have hlen := h.length_le
  obtain ⟨hheld, hfits, hres, hsizes, hnext, hcursor, hauto, hsend⟩ := h
  have hdist : (z.next - z.oldest).toNat = z.ring.length := by
    rw [hnext]
    bv_omega
  have hsucc : (z.next + 1 - z.oldest).toNat = z.ring.length + 1 := by
    rw [hnext]
    bv_omega
  have hfar {p : Time} (hp : (p - z.oldest).toNat ≤ z.ring.length) : p ≠ z.next + 1 := fun e => by
    rw [e, hsucc] at hp
    omega
  refine ⟨?_, hroom, hres, fun q hq => ?_, ?_, ?_, ?_, fun y hy hcut => ?_⟩
  · simp [hheld]
  · obtain hq | hq := List.mem_append.mp hq
    · exact hsizes q hq
    · rw [List.mem_singleton.mp hq]
      exact hsize
  · show z.next + 1 = z.oldest + BitVec.ofNat 32 (z.ring ++ [bytes]).length
    rw [hnext, List.length_append, List.length_singleton, ← BitVec.ofNat_add_ofNat, BitVec.add_assoc]
    rfl
  · show (c - z.oldest).toNat ≤ (z.ring ++ [bytes]).length
    rw [List.length_append, List.length_singleton]
    obtain rfl | ⟨-, rfl⟩ := hc
    · omega
    · omega
  · show (z.autoPos - z.oldest).toNat ≤ (c - z.oldest).toNat
    obtain rfl | ⟨-, rfl⟩ := hc
    · exact hauto
    · omega
  · obtain ⟨hpos, hread, hsent⟩ := hsend y hy hcut
    obtain rfl | ⟨hcaught, rfl⟩ := hc
    · exact ⟨hpos, fun ho => ⟨(hread ho).1, hfar hcursor⟩, hsent⟩
    · refine ⟨hpos, fun ho => absurd hcaught (hread ho).2, fun _ => hfar ?_⟩
      show (z.autoPos - z.oldest).toNat ≤ z.ring.length
      omega

end StoreOk

/-! ### Making room -/

/-- Dropping oldest records keeps the store's invariant and frees the bytes. -/
theorem storeOk_dropFor {n : Nat} (hn : n ≤ 16384) (l : List (List Byte)) {x : Store} (hl : x.ring = l) (h : StoreOk (storeCore x)) :
    StoreOk (storeCore (Store.dropFor n l x)) ∧ (Store.dropFor n l x).held + n ≤ 16384 := by
  induction l generalizing x with
  | nil =>
    refine ⟨h, ?_⟩
    have hheld : x.held = (x.ring.map List.length).sum := h.held
    show x.held + n ≤ 16384
    rw [hheld, hl]
    simpa using hn
  | cons r rest ih =>
    unfold Store.dropFor
    split
    · exact ih rfl (h.dropOldest hl)
    · next hfree =>
      refine ⟨h, ?_⟩
      have hfits := h.fits
      simp only [Store.free, Config.ringBytes, storeCore] at hfree hfits
      omega

theorem core_makeRoom (s : State) (n : Nat) : core (s.makeRoom n) = { core s with store := storeCore (s.makeRoom n).store } := by
  obtain ⟨p, x, h, -⟩ := s.makeRoom_eq n
  rw [h]
  rfl

/-- Room is made (R155, R156): under OVERWRITE it is there. -/
theorem storeOk_makeRoom {s : State} {n : Nat} (hn : n ≤ 16384) (h : StoreOk (storeCore s.store)) :
    StoreOk (storeCore (s.makeRoom n).store) ∧
      (s.store.settings.policy = .overwrite → (s.makeRoom n).store.held + n ≤ 16384) ∧
      (s.store.settings.policy = .hold → (s.makeRoom n).store = s.store) := by
  cases hp : s.store.settings.policy with
  | hold =>
    rw [makeRoom_hold n hp]
    exact ⟨h, nofun, fun _ => rfl⟩
  | overwrite =>
    obtain ⟨hok, hfree⟩ := storeOk_dropFor hn s.store.ring rfl h
    have hstore : ∃ b, (s.makeRoom n).store = { Store.dropFor n s.store.ring s.store with overrun := b } := by
      unfold State.makeRoom
      rw [hp]
      dsimp only
      split
      · exact ⟨_, rfl⟩
      · rw [State.store_raise]
        exact ⟨true, rfl⟩
    obtain ⟨b, hstore⟩ := hstore
    rw [hstore]
    exact ⟨hok, fun _ => hfree, nofun⟩

/-! ### The append (R154) -/

/-- The record takes its number, its bytes and, where the cursor passes with it, its place behind the cursor. -/
theorem core_pushRecord (s : State) (bytes : List Byte) (pass : Bool) : ∃ c,
    (c = s.store.cursor ∨ s.store.cursor = s.store.next ∧ c = s.store.next + 1) ∧
    core (s.pushRecord bytes pass) = { core s with store := { storeCore s.store with
      ring := s.store.ring ++ [bytes], next := s.store.next + 1, held := s.store.held + bytes.length, cursor := c } } := by
  rw [pushRecord_rule, core_testLow, core_testBacklog]
  refine ⟨_, ?_, rfl⟩
  dsimp only
  split
  · next h => exact .inr ⟨h.2.2.1, rfl⟩
  · exact .inl rfl

/-- Room for a record, and its append, where it fits with the reservations that stand. -/
theorem core_append {s : State} {bytes : List Byte} (pass : Bool) : ∃ z,
    core ((s.makeRoom bytes.length).pushRecord bytes pass) = { core s with store := z } ∧ z.policy = s.store.settings.policy ∧
    z.reservations = s.store.reservations ∧ (StoreOk (storeCore s.store) → 16 ≤ bytes.length ∧ bytes.length ≤ 168 →
      (s.store.settings.policy = .hold → s.store.held + bytes.length + 168 * s.store.reservations ≤ 16384) → StoreOk z) := by
  obtain ⟨c, hc, hpush⟩ := core_pushRecord (s.makeRoom bytes.length) bytes pass
  obtain ⟨p, x, hroom, -, hres, hsettings⟩ := s.makeRoom_eq bytes.length
  have hx : (s.makeRoom bytes.length).store = x := congrArg State.store hroom
  rw [core_makeRoom] at hpush
  refine ⟨_, hpush, ?_, ?_, fun hok hsize hhold => ?_⟩
  · exact congrArg HistorySettings.policy ((congrArg Store.settings hx).trans hsettings)
  · exact (congrArg Store.reservations hx).trans hres
  · obtain ⟨hmade, hover, hsame⟩ := storeOk_makeRoom (s := s) (n := bytes.length) (by omega) hok
    refine hmade.push hsize ?_ hc
    show (s.makeRoom bytes.length).store.held + bytes.length + 168 * (s.makeRoom bytes.length).store.reservations ≤ 16384
    cases hp : s.store.settings.policy with
    | hold =>
      rw [hsame hp]
      exact hhold hp
    | overwrite =>
      have hzero : s.store.reservations = 0 := hok.unreserved hp
      rw [hx, hres, hzero, ← hx]
      exact hover hp

/-- A cycle's record is appended with its reservation (R154, R155). -/
def recorded (s : State) (r : Reservation) (bytes : List Byte) : State := ((s.useReservation r).makeRoom bytes.length).pushRecord bytes true

theorem appendCycle_eq (s : State) (r : Reservation) (bytes : List Byte) : s.appendCycle r bytes =
    if s.store.room < (recorded s r bytes).store.room then (recorded s r bytes).consider else recorded s r bytes := rfl

theorem core_recorded (s : State) (r : Reservation) (bytes : List Byte) : ∃ z,
    core (recorded s r bytes) = { core s with store := z } ∧ (StoreOk (storeCore s.store) → 16 ≤ bytes.length ∧ bytes.length ≤ 168 →
      (r = .held ↔ s.store.settings.policy = .hold) → (s.store.settings.policy = .hold → 1 ≤ s.store.reservations) →
      StoreOk z ∧ z.policy = s.store.settings.policy ∧ (z.policy = .hold → z.reservations + 1 = s.store.reservations)) := by
  obtain ⟨z, hz, hpolicy, hres, hok⟩ := core_append (s := s.useReservation r) (bytes := bytes) true
  by_cases hr : r = .held
  · have huse : s.useReservation r = s.modStore fun x => { x with reservations := x.reservations - 1 } := if_pos hr
    rw [huse] at hz hpolicy hres hok
    rw [recorded, huse]
    refine ⟨z, hz, fun h hsize hheld hone => ?_⟩
    have hhold := hheld.mp hr
    have h1 := hone hhold
    have hfits : s.store.held + 168 * s.store.reservations ≤ 16384 := h.fits
    have hres' : z.reservations = s.store.reservations - 1 := hres
    refine ⟨hok ?_ hsize fun _ => ?_, hpolicy, fun _ => by omega⟩
    · obtain ⟨k1, k2, k3, k4, k5, k6, k7, k8⟩ := h
      refine ⟨k1, ?_, fun hp => absurd (hhold.symm.trans hp) nofun, k4, k5, k6, k7, k8⟩
      show s.store.held + 168 * (s.store.reservations - 1) ≤ 16384
      omega
    · show s.store.held + bytes.length + 168 * (s.store.reservations - 1) ≤ 16384
      omega
  · have huse : s.useReservation r = s := if_neg hr
    rw [huse] at hz hpolicy hres hok
    rw [recorded, huse]
    refine ⟨z, hz, fun h hsize hheld hone => ?_⟩
    have hnot : s.store.settings.policy ≠ .hold := fun hp => hr (hheld.mpr hp)
    exact ⟨hok h hsize fun hp => absurd hp hnot, hpolicy, fun hp => absurd (hpolicy.symm.trans hp) hnot⟩

end Sys2Proof.Claim
end

section
/-! PROOFS. The calls and the grant (R123 to R128) keep the invariants of the cell and of the store. -/

namespace Sys2Proof.Claim

open Sys2Proof.Machine

section
variable (s : State) (st : Fin 6)

/-! ### What they write of the core -/

theorem core_recipeMissing : core (s.recipeMissing st) = { (core s).setState st .ready with queue := s.arbiter.queue.filter (· ≠ st) } := by
  unfold State.recipeMissing
  rw [core_raise, core_raiseStationState, core_setState, core_removeCall]
  rfl

theorem core_armWeigher : core (s.armWeigher st) = { core s with weigher := .armed, pieces := 0, granted := some st } := by
  unfold State.armWeigher
  dsimp only
  rw [core_wantGate]
  rfl

/-- The context of a grant, as the invariants read it. -/
def grantedCtx (r : Reservation) : CtxCore :=
  { snapshot := s.recipes[(s.station st).boundRecipe], mould := false, sub := .none, number := 0, attempts := 0, pieces := 0, faults := 0,
    reservation := r }

/-- The reservation of a grant (R155). -/
def reservationOf (p : Policy) : Reservation := if p = .hold then .held else .none

theorem reservationOf_eq_held (p : Policy) : reservationOf p = .held ↔ p = .hold := by
  cases p <;> simp [reservationOf]

/-- The store of a grant. -/
def grantedStore : StoreCore :=
  { storeCore s.store with reservations := s.store.reservations + if s.store.settings.policy = .hold then 1 else 0 }

theorem core_grantCalls : core (grantCalls s st) =
    { core s with queue := s.arbiter.queue.filter (· ≠ st), called := some st, store := grantedStore s } := by
  obtain ⟨p, b, h⟩ := grantCalls_eq s st
  rw [h]
  rfl

theorem core_grant : core (s.grant st) =
    { (core s).put st { state := .charging, ctx := some (grantedCtx s st (reservationOf s.store.settings.policy)) } with
      queue := s.arbiter.queue.filter (· ≠ st), called := some st, granted := some st, weigher := .armed, pieces := 0,
      store := grantedStore s } := by
  rw [grant_eq, core_armWeigher, core_resolveAfresh, core_setState, created_grantCalls, core_withStation, core_grantCalls]
  unfold Core.setState
  rw [Core.put_put, Core.station_put]
  rfl

end

/-! ### What they keep -/

section
variable {b : Bool} {x y : Option (Fin 6)} {s : State} {st : Fin 6}

theorem state_of_core {t : State} (h : core t = core s) (st : Fin 6) : (t.station st).state = (s.station st).state :=
  congrArg (fun v => (Core.station v st).state) h

/-- A write of a station beside its state and what the invariants read of its context. -/
theorem Inv.modStation (h : Inv b x y (core s)) (st : Fin 6) {f : Station → Station} (hf : ∀ z, stationCore (f z) = stationCore z) :
    Inv b x y (core (s.modStation st f)) := by
  rwa [core_modStation_beside s st hf]

/-- A write of a context beside what the invariants read of it. -/
theorem Inv.modCtx (h : Inv b x y (core s)) (st : Fin 6) {f : Context → Context} (hf : ∀ c, ctxCore (f c) = ctxCore c) :
    Inv b x y (core (s.modCtx st f)) := by
  rwa [core_modCtx_beside s st hf]

/-- The context of a grant has the counts of a recipe (R98, R121). -/
theorem ctxFits_grantedCtx (r : Reservation) (h : CountsFit s.recipes[(s.station st).boundRecipe]) : CtxFits (grantedCtx s st r) :=
  ⟨h, Nat.zero_le _, Nat.zero_le _, Nat.le_refl _, Nat.zero_le _, nofun, nofun, nofun⟩

/-- Where the arbiter may grant, a reservation fits (R126). -/
theorem storeOk_grantedStore (h : StoreOk (storeCore s.store)) (hcan : s.canGrant = true) : StoreOk (grantedStore s) := by
  obtain ⟨h1, h2, h3, h4, h5, h6, h7, h8⟩ := h
  obtain ⟨-, -, -, hroom⟩ := (canGrant_iff s).mp hcan
  have hfits : s.store.held + 168 * s.store.reservations ≤ 16384 := h2
  unfold grantedStore
  cases hp : s.store.settings.policy with
  | overwrite => exact ⟨h1, h2, h3, h4, h5, h6, h7, h8⟩
  | hold =>
    refine ⟨h1, ?_, fun ho => absurd (hp.symm.trans ho) nofun, h4, h5, h6, h7, h8⟩
    rw [hp] at hroom
    have := hroom.resolve_left nofun
    show s.store.held + 168 * (s.store.reservations + 1) ≤ 16384
    simp only [store_room] at this
    omega

theorem Inv.of_grant (h : Inv b none y (core s)) (hy : y ≠ some st) (hst : (s.station st).state = .calling) (hcan : s.canGrant = true) :
    Inv b none y (core (s.grant st)) := by
  rw [core_grant]
  obtain ⟨-, hidle, -, -⟩ := (canGrant_iff s).mp hcan
  refine Inv.grant h hy hst hidle rfl rfl (fun hb => ⟨ctxFits_grantedCtx _ ((h.store hb).recipes _), reservationOf_eq_held _⟩) (.inl rfl)
    fun hb => ⟨storeOk_grantedStore (h.store hb).store hcan, rfl, fun hp => congrArg (s.store.reservations + ·) (if_pos hp)⟩

theorem Inv.considerFrom (l : List (Fin 6)) {s : State} (hl : s.arbiter.queue = l) (hy : ∀ sx ∈ l, y ≠ some sx) (h : Inv b none y (core s)) :
    Inv b none y (core (State.considerFrom l s)) := by
  induction l generalizing s with
  | nil => exact h
  | cons st rest ih =>
    have hst : (s.station st).state = .calling := (h.cell.queue st nofun).mp (by rw [core, hl]; exact List.mem_cons_self)
    unfold State.considerFrom
    split
    · next hcan =>
      split
      · exact h.of_grant (hy st List.mem_cons_self) hst hcan
      · refine ih ?_ (fun sx hsx => hy sx (List.mem_cons_of_mem st hsx)) ?_
        · obtain ⟨hnot, -⟩ := List.nodup_cons.mp (hl ▸ h.cell.nodup : (st :: rest).Nodup)
          have hkeep : rest.filter (· ≠ st) = rest := List.filter_eq_self.mpr fun sx hsx => by simpa using ne_of_mem_of_not_mem hsx hnot
          rw [arbiter_recipeMissing, hl]
          simpa using hkeep
        · rw [core_recipeMissing]
          exact (h.leaveVacant hst).restore ⟨nofun, nofun⟩ rfl
    · exact h

/-- The arbiter's test (R126, R127). -/
theorem Inv.consider (h : Inv b none y (core s)) (hy : ∀ sx ∈ s.arbiter.queue, y ≠ some sx) : Inv b none y (core s.consider) :=
  Inv.considerFrom s.arbiter.queue rfl hy h

/-- A station that has left the queue (R125). -/
theorem Inv.leaveQueue (h : Inv b none none (core (s.removeCall st))) : Inv b none none (core (s.leaveQueue st)) := by
  unfold State.leaveQueue
  dsimp only
  split
  · exact h
  · exact h.consider fun _ _ => nofun

/-- A calling station leaves for a state with neither context, call nor grant (R125). -/
theorem Inv.leaveQueueFor {t : State} (h : Inv b none none (core s)) (hst : (s.station st).state = .calling) {k : StationState} (hk : Settled k)
    (hok : CtxOk k none) (ht : core t = (core s).setState st k) : Inv b none none (core (t.leaveQueue st)) := by
  refine Inv.leaveQueue ?_
  have hqueue : t.arbiter.queue = s.arbiter.queue := congrArg Core.queue ht
  rw [core_removeCall, ht, hqueue]
  exact (h.leaveVacant hst).restore hk hok

/-- A station without context calls (R124). -/
theorem Vacant.enterCalling (h : Vacant b st none (core s)) (atHead : Bool) : Inv b none none (core (s.enterCalling st atHead)) := by
  have hset := core_setState s st .calling
  have hqueue : (s.setState st .calling).arbiter.queue = s.arbiter.queue := congrArg Core.queue hset
  unfold State.enterCalling
  refine Inv.consider ?_ fun _ _ => nofun
  show Inv b none none { core (s.setState st .calling) with queue := if atHead then _ else _ }
  rw [hset, hqueue]
  refine h.call ?_
  split
  · exact List.Perm.refl _
  · exact List.perm_append_singleton st _

/-- The look at the calling condition (R10). -/
theorem Inv.lookCalling (h : Inv b none none (core s)) (st : Fin 6) : Inv b none none (core (s.lookCalling st)) := by
  unfold State.lookCalling
  dsimp only
  split
  · next hlook =>
    have hready : ((core s).station st).state = .ready := hlook.1
    have hnone := h.ok st
    rw [hready] at hnone
    exact (h.vacant (by rw [hready]; exact ⟨nofun, nofun⟩) hnone (by rw [hready]; nofun)).enterCalling false
  · exact h

/-- A station without context enters READY (R10, R26). -/
theorem Vacant.enterReady (h : Vacant b st none (core s)) : Inv b none none (core (s.enterReady st)) := by
  unfold State.enterReady
  refine Inv.lookCalling ?_ st
  rw [core_raiseStationState, core_setState]
  exact h.restore ⟨nofun, nofun⟩ rfl

end

end Sys2Proof.Claim
end

section
/-! PROOFS. The end of a charge (R112 to R114), faults of the weigher (R118), clearing and taring (R115, R117) keep the invariants of the
cell and of the store. -/

namespace Sys2Proof.Claim

open Sys2Proof.Machine

section
variable {b : Bool} {s : State} {st : Fin 6}

/-! ### The record of a cycle -/

/-- A station that is in its place with a context has a reservation to use under HOLD (R128). -/
theorem one_le_reservations {v : Core} (h : StoreRest none v) (hctx : (v.station st).ctx.isSome = true) (hp : v.store.policy = .hold) :
    1 ≤ v.store.reservations := by
  have hcount := h.counted hp
  rw [contexts_except hctx] at hcount
  omega

/-- The record of a cycle uses its reservation (R154, R155): from then on its context counts no longer. A weigh may hold one piece more
than the invariant counts, until it has decided on it (R109). -/
theorem Inv.record {n : Nat} (h : Inv b none none { core s with pieces := n }) {c : Context} (hc : (s.station st).ctx = some c) {bytes : List Byte}
    (hsize : CtxStored { core s with pieces := n } st (ctxCore c) → 16 ≤ bytes.length ∧ bytes.length ≤ 168) :
    ∃ z, core (recorded s c.reservation bytes) = { core s with store := z } ∧ Inv b none (some st) { core s with pieces := n, store := z } := by
  have hctx : ((core s).station st).ctx = some (ctxCore c) := congrArg (Option.map ctxCore) hc
  obtain ⟨z, hz, hok⟩ := core_recorded s c.reservation bytes
  refine ⟨z, hz, Inv.spend (st := st) h (by rw [hctx]; rfl) fun hb => ?_⟩
  have hstore := h.store hb
  have hstored := hstore.stored st _ nofun hctx
  exact hok hstore.store (hsize hstored) hstored.reservation (one_le_reservations (st := st) hstore (by rw [hctx]; rfl))

/-! ### The end of a charge -/

/-- The context of a charging station, and its weigh. -/
theorem Inv.charging {n : Nat} (h : Inv b none none { core s with pieces := n }) (hst : (s.station st).state = .charging) :
    s.weigher.granted = some st ∧ Weighing s.weigher.state ∧ s.weigher.state ≠ .idle ∧ ∃ c, (s.station st).ctx = some c := by
  have hg : (core s).granted = some st := (h.cell.granted st nofun).mpr hst
  have hw : Weighing (core s).weigher := h.cell.weigh.mp (Option.ne_none_iff_exists'.mpr ⟨st, hg⟩)
  have hok : CtxOk ((core s).station st).state ((core s).station st).ctx := h.ok st
  rw [core_station, show (stationCore (s.station st)).state = .charging from hst] at hok
  obtain ⟨k, hk, -⟩ := hok
  obtain ⟨c, hc, -⟩ := Option.map_eq_some_iff.mp hk
  refine ⟨hg, hw, fun hidle => ?_, c, hc⟩
  rw [show (core s).weigher = .idle from hidle] at hw
  simp [Weighing] at hw

/-- A REJECT record is of 24 to 56 bytes (R153). -/
theorem length_rejectRecord (c : Context) (reason : RejectReason) (total : Int) (l : List Int) (time : Time) :
    (rejectRecord st c reason total l time).length = 24 + 4 * l.length := (rejectRecord_fields st c reason total l time).1

/-- The core once the cycle of a charging station is recorded, its context released and its grant over. -/
def rejectedCore (v : Core) (st : Fin 6) (z : StoreCore) : Core :=
  { v.put st { v.station st with ctx := none } with called := none, granted := none, store := z }

theorem vacant_rejectedCore {v : Core} {n : Nat} {z : StoreCore} (h : Inv b none (some st) { v with pieces := n, store := z })
    (hst : (v.station st).state = .charging) {w : WeigherState} (hw : ¬Weighing w) :
    Vacant b st none { rejectedCore v st z with weigher := w } := by
  have hrun : ({ v with pieces := n, store := z } : Core).mode = .run := h.run (st := st) nofun (hst.trans_ne nofun)
  have hended := h.endGrant hst hw
  have hreleased := hended.release (k := { v.station st with ctx := none }) rfl
  have hpieces := hreleased.setPieces rfl v.pieces
  exact ⟨hpieces, congrArg StationCore.ctx (v.station_put st _), hrun⟩

/-- A charging station whose cycle ends with a REJECT record, the weigher out of its weigh (R113). -/
theorem Inv.rejectCycle {n : Nat} (h : Inv b none none { core s with pieces := n }) (hn : s.weigher.pieces.length ≤ n + 1)
    (hst : (s.station st).state = .charging) {w : WeigherState} (hw : ¬Weighing w) (reason : RejectReason) (total : Int) (time : Time) :
    Vacant b st none { core (s.rejectCycle st reason total time) with weigher := w } := by
  obtain ⟨hg, -, hidle, c, hc⟩ := h.charging hst
  obtain ⟨z, hz, hrec⟩ := h.record hc (bytes := rejectRecord st c reason total s.weigher.pieces time) fun hstored => by
    have hpieces : n < c.snapshot.pieceLimit := hstored.pieces hg
    have hlimit : c.snapshot.pieceLimit ≤ 8 := hstored.fits.counts.2.2.1
    rw [length_rejectRecord]
    omega
  generalize hu : recorded s c.reservation (rejectRecord st c reason total s.weigher.pieces time) = u at hz
  have happend : s.appendCycle c.reservation (rejectRecord st c reason total s.weigher.pieces time) = u := by
    have hui : u.weigher.state ≠ .idle := (congrArg Core.weigher hz).trans_ne hidle
    rw [appendCycle_eq, hu, State.consider_of_not_idle u hui, ite_self]
  have hcore : core (s.rejectCycle st reason total time) = rejectedCore (core s) st z := by
    rw [rejectCycle_of_ctx hc, core_raise, core_endGrant, happend, core_releaseContext, hz]
    rfl
  rw [hcore]
  exact vacant_rejectedCore hrec hst hw

theorem not_weighing_clearing : ¬Weighing .clearing := by simp [Weighing]

/-- A charging station ends the weigh of its own cycle (R114). -/
theorem Inv.abortWeigh (h : Inv b none none (core s)) (hst : (s.station st).state = .charging) :
    Vacant b st none (core (s.abortWeigh st)) := by
  unfold State.abortWeigh
  rw [core_enterClearing]
  exact Inv.rejectCycle h (Nat.le_succ _) hst not_weighing_clearing _ _ _

/-- The station of a weigh (R105, R123). -/
theorem Inv.weighed {n : Nat} (h : Inv b none none { core s with pieces := n }) (hw : Weighing s.weigher.state) :
    ∃ st, s.weigher.granted = some st ∧ (s.station st).state = .charging := by
  obtain ⟨st, hst⟩ := Option.ne_none_iff_exists'.mp (h.cell.weigh.mpr hw)
  exact ⟨st, hst, (h.cell.granted st nofun).mp hst⟩

/-- A reject decided by the weigher (R113). -/
theorem Inv.rejectCharge {n : Nat} (h : Inv b none none { core s with pieces := n }) (hn : s.weigher.pieces.length ≤ n + 1)
    (hw : Weighing s.weigher.state) (reason : RejectReason) (total : Int) (time : Time) :
    Inv b none none (core (s.rejectCharge reason total time)) := by
  obtain ⟨st, hg, hst⟩ := h.weighed hw
  unfold State.rejectCharge
  rw [hg]
  refine Vacant.enterCalling (st := st) ?_ true
  rw [core_enterClearing]
  exact h.rejectCycle hn hst not_weighing_clearing _ _ _

theorem Inv.rejectWaited (h : Inv b none none (core s)) (hw : Weighing s.weigher.state) (time : Time) :
    Inv b none none (core (s.rejectWaited time)) := Inv.rejectCharge h (Nat.le_succ _) hw _ _ time

/-- What an accept writes of a context (R112). -/
def acceptedCtx (n : Nat) (c : CtxCore) : CtxCore := { c with mould := true, pieces := n }

theorem keepsFit_acceptedCtx {n : Nat} {c : CtxCore} (hn : n ≤ c.snapshot.pieceLimit) : KeepsFit c (acceptedCtx n c) := by
  refine ⟨rfl, fun h => ?_⟩
  obtain ⟨h1, h2, h3, h4, h5, h6, h7, h8⟩ := h
  exact ⟨h1, hn.trans h1.2.2.1, h3, h4, h5, h6, h7, h8⟩

/-- The core once a charge is accepted, but for the weigher. -/
def acceptedCore (v : Core) (st : Fin 6) (n : Nat) : Core :=
  { v.put st { state := .loading, ctx := (v.station st).ctx.map (acceptedCtx n) } with called := none, granted := none }

theorem inv_acceptedCore {v : Core} {n m : Nat} (h : Inv b none none { v with pieces := n }) (hm : m ≤ n + 1)
    (hst : (v.station st).state = .charging) {w : WeigherState} (hw : ¬Weighing w) :
    Inv b none none { acceptedCore v st m with weigher := w } := by
  have hg : v.granted = some st := (h.cell.granted st nofun).mpr hst
  have hok : CtxOk (v.station st).state (v.station st).ctx := h.ok st
  rw [hst] at hok
  obtain ⟨c, hc, -, hsub⟩ := hok
  have hrun : ({ v with pieces := n } : Core).mode = .run := h.run (st := st) nofun (hst.trans_ne nofun)
  have hended := h.endGrant hst hw
  have hplaced := hended.place (k := .loading) (f := acceptedCtx m) ⟨nofun, nofun⟩ (fun hb d hd => keepsFit_acceptedCtx ?_)
    ⟨acceptedCtx m c, congrArg (Option.map _) hc, rfl, hsub⟩ (.inl hrun)
  · have hpieces := hplaced.setPieces rfl v.pieces
    exact hpieces
  · have hbelow : n < d.snapshot.pieceLimit := ((h.store hb).stored st d nofun hd).pieces hg
    omega

/-- The accept of a charge (R112). -/
theorem Inv.acceptCharge {n : Nat} (h : Inv b none none { core s with pieces := n }) (hn : s.weigher.pieces.length ≤ n + 1)
    (hw : Weighing s.weigher.state) (m : Int) : Inv b none none (core (s.acceptCharge m)) := by
  obtain ⟨st, hg, hst⟩ := h.weighed hw
  have hcore : core (s.acceptCharge m) = { acceptedCore (core s) st s.weigher.pieces.length with weigher := .clearing } := by
    unfold State.acceptCharge
    rw [hg]
    dsimp only
    rw [core_enterClearing, core_endGrant, core_setState,
      core_modCtx s st (g := acceptedCtx s.weigher.pieces.length) fun _ => rfl]
    unfold Core.setState Core.modCtx acceptedCore
    rw [Core.put_put, Core.station_put]
  rw [hcore]
  exact inv_acceptedCore h hn hst not_weighing_clearing

end

end Sys2Proof.Claim
end

section
/-! PROOFS. The weigher's samples and timers (R100 to R119) keep the invariants of the cell and of the store. -/

namespace Sys2Proof.Claim

open Sys2Proof.Machine

section
variable {b : Bool} {s : State}

theorem inWeigh_iff (w : WeigherState) : w.inWeigh = true ↔ Weighing w := by
  cases w <;> simp [WeigherState.inWeigh, Weighing]

/-! ### Faults (R118, R119) -/

theorem core_weigherFault (s : State) (c : WeigherCause) :
    core (s.modWeigher (·.enterFault c)) = { core s with weigher := .fault } := rfl

theorem Inv.enterFault (h : Inv b none none (core s)) (c : WeigherCause) (time : Time) : Inv b none none (core (s.enterFault c time)) := by
  have hfault : ¬Weighing .fault := by simp [Weighing]
  by_cases hw : Weighing s.weigher.state
  · obtain ⟨st, hg, hst⟩ := Inv.weighed (n := s.weigher.pieces.length) h hw
    rw [enterFault_of_weigh ((inWeigh_iff _).mpr hw) hg]
    refine Vacant.enterCalling (st := st) ?_ true
    unfold chargeFaulted State.raiseWeigherFault
    rw [core_raise, core_wantGate, core_weigherFault]
    exact Inv.rejectCycle h (Nat.le_succ _) hst hfault _ _ _
  · have hin : ¬s.weigher.state.inWeigh = true := fun e => hw ((inWeigh_iff _).mp e)
    have hcore : core (s.enterFault c time) = { core s with weigher := .fault } := by
      unfold State.enterFault State.raiseWeigherFault
      dsimp only
      rw [if_neg hin]
      split
      · rw [core_answerTare, core_raise, core_weigherFault]
      · rw [core_raise, core_weigherFault]
    rw [hcore]
    exact h.outside hw hfault

theorem Inv.takeWeigherCause (h : Inv b none none (core s)) (c : WeigherCause) (time : Time) :
    Inv b none none (core (s.takeWeigherCause c time)) := by
  unfold State.takeWeigherCause
  split
  · split
    · exact h
    · unfold State.raiseWeigherFault
      rw [core_raise]
      exact h
  · exact h.enterFault c time

/-! ### The decision on a piece (R109) -/

/-- The weigher waits for another piece only where the recipe allows one more. -/
theorem ne_pieceLimit_of_wait {r : Recipe} {m : Int} {n : Nat} (hr : r.minPieces ≤ r.pieceLimit) (h : decideCharge r m n = .wait) :
    n ≠ r.pieceLimit := by
  rintro rfl
  unfold decideCharge at h
  split at h
  · cases h
  · split at h
    · cases h
    · next hno =>
      split at h
      · cases h
      · next hover =>
        refine hover ⟨?_, rfl⟩
        by_contra hge
        exact hno ⟨not_lt.mp hge, hr⟩

theorem Inv.decidePiece {n : Nat} (h : Inv b none none { core s with pieces := n }) (hn : s.weigher.pieces.length = n + 1)
    (hw : Weighing s.weigher.state) (m : Int) : Inv b none none (core (s.decidePiece m)) := by
  unfold State.decidePiece
  split
  · exact h.rejectCharge hn.le hw _ _ _
  · exact h.acceptCharge hn.le hw m
  · exact h.rejectCharge hn.le hw _ _ _
  · next hwait =>
    have hpieces := h.setWeigher (w := s.weigher.state) (n := s.weigher.pieces.length) Iff.rfl fun hb st c hg hctx hlt => by
      obtain ⟨d, hd, rfl⟩ := Option.map_eq_some_iff.mp hctx
      rw [weighRecipe_eq hg hd, hn] at hwait
      have hcounts : CountsFit d.snapshot := ((h.store hb).stored st _ nofun hctx).fits.counts
      have hne := ne_pieceLimit_of_wait hcounts.2.1 hwait
      change n < d.snapshot.pieceLimit at hlt
      change s.weigher.pieces.length < d.snapshot.pieceLimit
      omega
    exact hpieces

/-! ### What a fed sample makes of the state (R105 to R108, R115, R117) -/

theorem Inv.settleEnd (h : Inv b none none (core s)) (hw : Weighing s.weigher.state) (m : Int) : Inv b none none (core (s.settleEnd m)) := by
  have hstable : Weighing .stable := .inr (.inr rfl)
  have hsame : Inv b none none { core s with weigher := .stable } :=
    h.setWeigher (n := s.weigher.pieces.length) (iff_of_true hstable hw) fun _ _ _ _ _ hlt => hlt
  unfold State.settleEnd
  dsimp only
  split
  · exact Inv.decidePiece (n := s.weigher.pieces.length) hsame (by simp [State.modWeigher]) hstable m
  · split
    · exact Inv.rejectCharge (s := s.modWeigher fun w => { w with settle := .stopped }) (n := s.weigher.pieces.length) h (Nat.le_succ _) hw
        _ _ _
    · split
      · exact Inv.rejectWaited hsame hstable _
      · exact hsame

theorem Inv.startSettle (h : Inv b none none (core s)) (hw : Weighing s.weigher.state) (net : Int) :
    Inv b none none (core (s.startSettle net)) :=
  h.setWeigher (n := s.weigher.pieces.length) (iff_of_true (.inr (.inl rfl)) hw) fun _ _ _ _ _ hlt => hlt

theorem Inv.enterClearing (h : Inv b none none (core s)) (hw : ¬Weighing s.weigher.state) (g : Gate) :
    Inv b none none (core (s.enterClearing g)) := by
  rw [core_enterClearing]
  exact h.outside hw not_weighing_clearing

theorem not_weighing_idle : ¬Weighing .idle := by simp [Weighing]

theorem Inv.finishClear (h : Inv b none none (core s)) (hw : ¬Weighing s.weigher.state) : Inv b none none (core s.finishClear) := by
  unfold State.finishClear
  refine Inv.consider ?_ fun _ _ => nofun
  have hgate := core_wantGate (s.modWeigher fun w => { w with tare := w.trackedTare, clear := .stopped }) .neutral
  show Inv b none none { core ((s.modWeigher fun w => { w with tare := w.trackedTare, clear := .stopped }).wantGate .neutral) with weigher := .idle }
  rw [hgate]
  exact h.outside hw not_weighing_idle

theorem Inv.clearSample (h : Inv b none none (core s)) (hw : ¬Weighing s.weigher.state) : Inv b none none (core s.clearSample) := by
  unfold State.clearSample
  dsimp only
  split
  · exact Inv.finishClear h hw
  · exact h

theorem Inv.endTaring (h : Inv b none none (core s)) (hw : ¬Weighing s.weigher.state) (tare : Int) (code : Result) (body : List Byte) :
    Inv b none none (core (s.endTaring tare code body)) := by
  unfold State.endTaring
  refine Inv.consider ?_ fun _ _ => nofun
  rw [core_answerTare]
  exact h.outside hw not_weighing_idle

theorem Inv.startTaring (h : Inv b none none (core s)) (hw : ¬Weighing s.weigher.state) (src seq : Byte) :
    Inv b none none (core (s.startTaring src seq)) :=
  h.outside (w := .taring) hw (by simp [Weighing])

theorem Inv.actOnNet (h : Inv b none none (core s)) (net : Int) : Inv b none none (core (s.actOnNet net)) := by
  unfold State.actOnNet
  dsimp only
  split
  · next hidle =>
    split
    · exact h.enterClearing (by rw [hidle]; exact not_weighing_idle) _
    · exact h
  · next harmed =>
    split
    · exact h.startSettle (.inl harmed) net
    · exact h
  · next hstable =>
    split
    · exact h.startSettle (.inr (.inr hstable)) net
    · exact h
  · next hsettling =>
    split
    · exact h.settleEnd (.inr (.inl hsettling)) _
    · exact h
  · next hclearing => exact h.clearSample (by rw [hclearing]; exact not_weighing_clearing)
  · next htaring =>
    split
    · exact h.endTaring (by rw [htaring]; simp [Weighing]) _ _ _
    · exact h
  · exact h

/-! ### The samples and the timers -/

theorem core_markSlow (s : State) : core s.markSlow = core s := by
  unfold State.markSlow
  split
  · exact core_modCtx_beside s _ fun _ => rfl
  · rfl

theorem core_note (s : State) (m : WeighSample) (now : Time) : core (s.modWeigher (·.note m now)) = core s := by
  rw [core_modWeigher]
  unfold Weigher.note
  dsimp only
  split <;> rfl

theorem Inv.newWeighSample (h : Inv b none none (core s)) (m : WeighSample) : Inv b none none (core (s.newWeighSample m)) := by
  have hnoted : core ((if s.weigher.lateSample s.now then s.markSlow else s).modWeigher (·.note m s.now)) = core s := by
    rw [core_note]
    split
    · exact core_markSlow s
    · rfl
  unfold State.newWeighSample
  dsimp only
  generalize (if s.weigher.lateSample s.now then s.markSlow else s).modWeigher (·.note m s.now) = t at hnoted
  have ht : Inv b none none (core t) := hnoted ▸ h
  split
  · exact ht.takeWeigherCause _ _
  · exact Inv.actOnNet (s := t.modWeigher (·.feed _)) ht _

/-- A WEIGH-SAMPLE (R100). -/
theorem Inv.weighWork (h : Inv b none none (core s)) (m : WeighSample) : Inv b none none (core (s.weighWork m)) := by
  have hgate : core (if m.gate = s.weigher.wantedGate then s else s.placeGate) = core s := by
    split
    · rfl
    · exact core_placeGate s
  unfold State.weighWork
  dsimp only
  generalize (if m.gate = s.weigher.wantedGate then s else s.placeGate) = t at hgate
  have ht : Inv b none none (core t) := hgate ▸ h
  split
  · exact ht
  · exact ht.newWeighSample m

theorem Inv.pieceWaitExpired (h : Inv b none none (core s)) (t : Time) : Inv b none none (core (s.pieceWaitExpired t)) := by
  unfold State.pieceWaitExpired
  split
  · next hw => exact h.rejectWaited (.inl hw) t
  · next hw => exact h.rejectWaited (.inr (.inr hw)) t
  · exact h
  · exact h

theorem Inv.settleExpired (h : Inv b none none (core s)) (t : Time) : Inv b none none (core (s.settleExpired t)) := by
  unfold State.settleExpired
  split
  · next hw => exact Inv.rejectCharge (n := s.weigher.pieces.length) h (Nat.le_succ _) (.inr (.inl hw)) _ _ _
  · next hw => exact h.endTaring (by rw [hw]; simp [Weighing]) _ _ _
  · exact h

theorem Inv.clearExpired (h : Inv b none none (core s)) (t : Time) : Inv b none none (core (s.clearExpired t)) := by
  unfold State.clearExpired
  split
  · exact h.enterFault _ _
  · exact h

/-- RESET (R119). -/
theorem Inv.resetWeigher (h : Inv b none none (core s)) (hw : ¬Weighing s.weigher.state) : Inv b none none (core s.resetWeigher) :=
  Inv.enterClearing (s := s.modWeigher fun w => { w with cause := .none }) h hw _

end

end Sys2Proof.Claim
end

section
/-! PROOFS. Holds and latches (R15 to R18) keep the invariants of the cell and of the store. -/

namespace Sys2Proof.Claim

open Sys2Proof.Machine

/-! ### What a held or latched station keeps of its context -/

/-- What the stop of the work writes of a context, by the state it leaves (R94, R147). -/
def stopCtx (x : StationState) (c : CtxCore) : CtxCore := if x = .opening ∨ x = .ejecting then { c with sub := .none } else c

theorem keepsFit_stopCtx (x : StationState) (c : CtxCore) : KeepsFit c (stopCtx x c) := by
  unfold stopCtx
  split
  · exact KeepsFit.of_idle rfl rfl rfl rfl rfl rfl (.inl rfl)
  · exact KeepsFit.refl c

theorem ctxCore_stoppedCtx (now : Time) (x : StationState) (c : Context) : ctxCore (stoppedCtx now x c) = stopCtx x (ctxCore c) := by
  cases x <;> rfl

/-- HOLD and LATCHED: with the mould occupied and no ejection under way where there is a context at all. -/
def Standing (x : StationState) : Prop := x = .hold ∨ x = .latched

theorem Standing.settled {x : StationState} (h : Standing x) : Settled x := by
  obtain rfl | rfl := h <;> exact ⟨nofun, nofun⟩

theorem Standing.ctxOk_none {x : StationState} (h : Standing x) : CtxOk x none := by
  obtain rfl | rfl := h <;> exact nofun

theorem ctxOk_standing {x : StationState} (h : Standing x) (k : Option CtxCore) :
    CtxOk x k ↔ ∀ c, k = some c → c.mould = true ∧ c.sub = .none := by
  obtain rfl | rfl := h <;> exact Iff.rfl

/-- A context that goes with a state other than CHARGING goes, stopped, with HOLD and LATCHED. -/
theorem ctxOk_stopped {x y : StationState} {k : Option CtxCore} (h : CtxOk x k) (hx : x ≠ .charging) (hy : Standing y) :
    CtxOk y (k.map (stopCtx x)) := by
  rw [ctxOk_standing hy]
  intro d hd
  obtain ⟨c, rfl, rfl⟩ := Option.map_eq_some_iff.mp hd
  cases x with
  | offline | warming | ready | calling | parked => exact absurd h nofun
  | charging => exact absurd rfl hx
  | loading | curing =>
    obtain ⟨e, he, hm, hs⟩ := h
    cases he
    exact ⟨hm, hs⟩
  | opening | ejecting =>
    obtain ⟨e, he, hm, -⟩ := h
    cases he
    exact ⟨hm, rfl⟩
  | hold | latched => exact h c rfl

theorem stationCore_stoppedStation (now : Time) (x : Station) :
    stationCore (stoppedStation now x) = { state := x.state, ctx := (stationCore x).ctx.map (stopCtx x.state) } := by
  unfold stationCore stoppedStation
  dsimp only
  rw [Option.map_map, Option.map_map]
  congr 2
  exact funext fun c => ctxCore_stoppedCtx now x.state c

theorem stationCore_latchedStation (cause : Cause) (x : Station) : stationCore (latchedStation cause x) = stationCore x := by
  unfold stationCore latchedStation
  dsimp only
  rw [Option.map_map]
  rfl

theorem stationCore_heldStation (now : Time) (cause : Cause) (x : Station) : stationCore (heldStation now cause x) = stationCore x := by
  unfold stationCore heldStation
  dsimp only
  rw [Option.map_map]
  rfl

theorem core_ejectStopped (s : State) (st : Fin 6) : core (ejectStopped s st) = core s := by
  obtain ⟨slate, h⟩ := ejectStopped_eq s st
  rw [h]
  rfl

section
variable {b : Bool} {s : State} {st : Fin 6} {x : StationState}

/-! ### The entry -/

/-- A station, neither calling nor charging, whose context goes with HOLD and LATCHED once its work is stopped. -/
def Stoppable (x : StationCore) : Prop :=
  Settled x.state ∧ ∀ c, x.ctx = some c → (stopCtx x.state c).mould = true ∧ (stopCtx x.state c).sub = .none

theorem Stoppable.ctxOk {k : StationCore} (h : Stoppable k) (hx : Standing x) : CtxOk x (k.ctx.map (stopCtx k.state)) := by
  rw [ctxOk_standing hx]
  intro d hd
  obtain ⟨c, hc, rfl⟩ := Option.map_eq_some_iff.mp hd
  exact h.2 c hc

/-- A station in its place can stop, but for the calls and the charge. -/
theorem Inv.stoppable (h : Inv b none none (core s)) (hcalling : (s.station st).state ≠ .calling) (hcharging : (s.station st).state ≠ .charging) :
    Stoppable ((core s).station st) := by
  refine ⟨⟨hcalling, hcharging⟩, fun c hc => ?_⟩
  have hok := (ctxOk_standing (.inl rfl) _).mp (ctxOk_stopped (h.ok st) hcharging (.inl rfl))
  exact hok _ (congrArg (Option.map _) hc)

theorem Vacant.stoppable (h : Vacant b st none (core s)) (hst : Settled (s.station st).state) : Stoppable ((core s).station st) :=
  ⟨hst, fun _ hc => absurd (h.ctx.symm.trans hc) nofun⟩

section
variable {t : State} {z : Station}

theorem core_entered (ht : core t = core s) (hz : stationCore z = stationCore (stoppedStation s.now (s.station st))) :
    core (((withStation t st z).setState st x).raiseStationState st) =
      (core s).put st { state := x, ctx := ((core s).station st).ctx.map (stopCtx (s.station st).state) } := by
  rw [core_raiseStationState, core_setState, core_withStation, ht, Core.setState, Core.put_put, Core.station_put, hz,
    stationCore_stoppedStation]
  rfl

/-- A station out of its place enters HOLD or LATCHED with its work stopped. -/
theorem Inv.enteredFrom (h : Inv b (some st) none (core s)) (hs : Stoppable ((core s).station st)) (hrun : s.mode = .run)
    (ht : core t = core s) (hz : stationCore z = stationCore (stoppedStation s.now (s.station st))) (hx : Standing x) :
    Inv b none none (core (enteredFrom t st z x)) := by
  have hcalling : z.state ≠ .calling := by
    rw [show z.state = (s.station st).state from congrArg StationCore.state hz]
    exact hs.1.1
  unfold Claim.enteredFrom
  dsimp only
  rw [if_neg hcalling, core_entered ht hz]
  exact h.place hx.settled (fun _ c _ => keepsFit_stopCtx _ c) (hs.ctxOk hx) (.inl hrun)

/-- A calling station enters HOLD or LATCHED and leaves the queue. -/
theorem Inv.enteredFrom_calling (h : Inv b none none (core s)) (hst : (s.station st).state = .calling) (ht : core t = core s)
    (hz : stationCore z = stationCore (stoppedStation s.now (s.station st))) (hx : Standing x) :
    Inv b none none (core (Claim.enteredFrom t st z x)) := by
  have hcalling : z.state = .calling := (congrArg StationCore.state hz).trans hst
  have hnone : ((core s).station st).ctx = none := by
    have hok := h.ok st
    rwa [core_station, show (stationCore (s.station st)).state = .calling from hst] at hok
  unfold Claim.enteredFrom
  dsimp only
  rw [if_pos hcalling]
  refine h.leaveQueueFor hst hx.settled hx.ctxOk_none ((core_entered ht hz).trans ?_)
  unfold Core.setState
  rw [show (core s).station st = ⟨((core s).station st).state, ((core s).station st).ctx⟩ from rfl, hnone]
  rfl

end

/-- A station out of its place enters LATCHED (R18). -/
theorem Inv.latchFrom (h : Inv b (some st) none (core s)) (hs : Stoppable ((core s).station st)) (hrun : s.mode = .run) (cause : Cause) :
    Inv b none none (core (s.enterLatched st cause)) := by
  rw [enterLatched_eq s st hs.1.2]
  exact h.enteredFrom hs hrun (core_ejectStopped s st) (stationCore_latchedStation _ _) (.inr rfl)

theorem core_holdCount (s : State) (st : Fin 6) (n : Nat) : core (withStation s st { s.station st with holdCount := n }) = core s :=
  core_modStation_beside (f := fun y => { y with holdCount := n }) s st fun _ => rfl

/-- A station out of its place enters HOLD (R16), or LATCHED with the third. -/
theorem Inv.holdFrom (h : Inv b (some st) none (core s)) (hs : Stoppable ((core s).station st)) (hrun : s.mode = .run) (cause : Cause) :
    Inv b none none (core (s.enterHold st cause)) := by
  by_cases hcount : (s.station st).ctx.isSome = true ∧ 2 ≤ (s.station st).holdCount
  · have hcore := core_holdCount s st 3
    rw [enterHold_repeat s st hcount]
    refine Inv.latchFrom ?_ ?_ ?_ _
    · rwa [hcore]
    · rwa [hcore]
    · exact hrun
  · rw [enterHold_eq s st hs.1.2 hcount]
    exact h.enteredFrom hs hrun (core_ejectStopped s st) (stationCore_heldStation _ _ _) (.inl rfl)

/-- A charging station enters HOLD or LATCHED once its weigh is over. -/
theorem Vacant.enteredFrom {t : State} {z : Station} (h : Vacant b st none (core t)) (hz : stationCore z = stationCore (t.station st))
    (hcharging : (t.station st).state = .charging) (hx : Standing x) : Inv b none none (core (Claim.enteredFrom t st z x)) := by
  have hcalling : z.state ≠ .calling := by
    rw [show z.state = .charging from (congrArg StationCore.state hz).trans hcharging]
    nofun
  have hcore : core (((withStation t st z).setState st x).raiseStationState st) = (core t).setState st x := by
    rw [core_raiseStationState, core_setState, core_withStation, Core.setState, Core.put_put, Core.station_put, hz]
    rfl
  unfold Claim.enteredFrom
  dsimp only
  rw [if_neg hcalling, hcore]
  exact h.restore hx.settled hx.ctxOk_none

theorem Inv.state_abortWeigh (h : Inv b none none (core s)) (hst : (s.station st).state = .charging) :
    ((s.abortWeigh st).station st).state = .charging := by
  obtain ⟨-, -, hidle, c, hc⟩ := Inv.charging (n := s.weigher.pieces.length) h hst
  obtain ⟨groups, hstation⟩ := station_abortWeigh hidle hc
  rw [hstation]
  exact hst

/-- Entry to LATCHED (R18). -/
theorem Inv.enterLatched (h : Inv b none none (core s)) (hlive : (s.station st).state ≠ .offline) (cause : Cause) :
    Inv b none none (core (s.enterLatched st cause)) := by
  by_cases hst : (s.station st).state = .charging
  · have hstate := h.state_abortWeigh hst
    have hvacant := h.abortWeigh hst
    rw [enterLatched_of_charging s st hst hstate]
    exact hvacant.enteredFrom (stationCore_latchedStation _ _) hstate (.inr rfl)
  · by_cases hcalling : (s.station st).state = .calling
    · rw [enterLatched_eq s st hst]
      exact h.enteredFrom_calling hcalling (core_ejectStopped s st) (stationCore_latchedStation _ _) (.inr rfl)
    · exact (h.exempt ⟨hcalling, hst⟩).latchFrom (h.stoppable hcalling hst) (h.run (st := st) nofun hlive) cause

/-- Entry to HOLD (R16), or to LATCHED with the third. -/
theorem Inv.enterHold (h : Inv b none none (core s)) (hlive : (s.station st).state ≠ .offline) (cause : Cause) :
    Inv b none none (core (s.enterHold st cause)) := by
  by_cases hcount : (s.station st).ctx.isSome = true ∧ 2 ≤ (s.station st).holdCount
  · have hcore := core_holdCount s st 3
    rw [enterHold_repeat s st hcount]
    refine Inv.enterLatched (by rwa [hcore]) ?_ _
    rwa [station_withStation]
  · by_cases hst : (s.station st).state = .charging
    · have hstate := h.state_abortWeigh hst
      have hvacant := h.abortWeigh hst
      rw [enterHold_of_charging s st hst hstate hcount]
      exact hvacant.enteredFrom (stationCore_heldStation _ _ _) hstate (.inl rfl)
    · by_cases hcalling : (s.station st).state = .calling
      · rw [enterHold_eq s st hst hcount]
        exact h.enteredFrom_calling hcalling (core_ejectStopped s st) (stationCore_heldStation _ _ _) (.inl rfl)
      · exact (h.exempt ⟨hcalling, hst⟩).holdFrom (h.stoppable hcalling hst) (h.run (st := st) nofun hlive) cause

/-! ### The causes (R15, R16, R18) -/

theorem core_replaceHold (s : State) (st : Fin 6) (cause : Cause) : core (s.replaceHold st cause) = core s := by
  unfold State.replaceHold
  split
  · rfl
  · rw [core_raiseStationState]
    refine core_modStation_beside s st fun x => ?_
    unfold stationCore
    dsimp only
    rw [Option.map_map]
    rfl

/-- No HOLD cause is taken in OFFLINE. -/
theorem takenIn_offline (c : Cause) : c.takenIn .offline = false := by cases c <;> rfl

theorem Inv.takeCause (h : Inv b none none (core s)) (st : Fin 6) (cause : Cause) : Inv b none none (core (s.takeCause st cause)) := by
  unfold State.takeCause
  dsimp only
  split
  · next htaken =>
    split
    · rw [core_replaceHold]
      exact h
    · refine h.enterHold (fun hoff => ?_) cause
      rw [hoff, takenIn_offline] at htaken
      cases htaken
  · exact h

theorem Inv.takePlatenLost (h : Inv b none none (core s)) (st : Fin 6) : Inv b none none (core (s.takePlatenLost st)) := by
  unfold State.takePlatenLost
  split
  · exact h
  · rw [core_raiseStationState]
    exact h.modStation st fun _ => rfl
  · next hoff _ => exact h.enterLatched hoff _

end

end Sys2Proof.Claim
end

section
/-! PROOFS. Demoulding (R134 to R147) and the end of a cycle (R7, R14) keep the invariants of the cell and of the store. -/

namespace Sys2Proof.Claim

open Sys2Proof.Machine

section
variable {b : Bool} {s : State} {st : Fin 6}

/-! ### Contexts that change in their place -/

theorem core_modCtx_setState {F : Context → Context} {f : CtxCore → CtxCore} (hF : ∀ c, ctxCore (F c) = f (ctxCore c)) (k : StationState) :
    core ((s.modCtx st F).setState st k) = (core s).put st { state := k, ctx := ((core s).station st).ctx.map f } := by
  rw [core_setState, core_modCtx s st hF]
  unfold Core.setState Core.modCtx
  rw [Core.put_put, Core.station_put]

theorem core_modCtx_put {F : Context → Context} {f : CtxCore → CtxCore} (hF : ∀ c, ctxCore (F c) = f (ctxCore c)) :
    core (s.modCtx st F) = (core s).put st { state := (s.station st).state, ctx := ((core s).station st).ctx.map f } := core_modCtx s st hF

/-- A context changes in its place. -/
theorem Inv.changeCtx (h : Inv b none none (core s)) (hst : Settled (s.station st).state) {F : Context → Context} {f : CtxCore → CtxCore}
    (hF : ∀ c, ctxCore (F c) = f (ctxCore c)) (hf : b = true → ∀ c, ((core s).station st).ctx = some c → KeepsFit c (f c))
    (hok : CtxOk (s.station st).state (((core s).station st).ctx.map f)) : Inv b none none (core (s.modCtx st F)) := by
  rw [core_modCtx s st hF]
  exact h.move hst hst hf hok (em (_ = _)).symm

/-- The context and the state of a station change together. -/
theorem Inv.changeTo (h : Inv b none none (core s)) (hst : Settled (s.station st).state) (hlive : (s.station st).state ≠ .offline)
    {F : Context → Context} {f : CtxCore → CtxCore} (hF : ∀ c, ctxCore (F c) = f (ctxCore c)) {k : StationState} (hk : Settled k)
    (hf : b = true → ∀ c, ((core s).station st).ctx = some c → KeepsFit c (f c)) (hok : CtxOk k (((core s).station st).ctx.map f)) :
    Inv b none none (core ((s.modCtx st F).setState st k)) := by
  rw [core_modCtx_setState hF]
  exact h.move hst hk hf hok (.inl hlive)

/-- The context of a station in its place goes with its state. -/
theorem Inv.ctxOk (h : Inv b none none (core s)) {c : Context} (hc : (s.station st).ctx = some c) :
    CtxOk (s.station st).state (some (ctxCore c)) := by
  have hok := h.ok st
  have hctx : ((core s).station st).ctx = some (ctxCore c) := congrArg (Option.map ctxCore) hc
  rwa [hctx] at hok

/-- The sub-state of a demoulding shows the state (R134). -/
theorem ejecting_of_sub {x : StationState} {k : CtxCore} (h : CtxOk x (some k))
    (hsub : k.sub = .extending ∨ k.sub = .retracting ∨ k.sub = .dwelling) :
    x = .ejecting ∧ k.mould = true := by
  have hne : k.sub ≠ .none ∧ k.sub ≠ .waitOpen := by obtain h | h | h := hsub <;> rw [h] <;> exact ⟨nofun, nofun⟩
  cases x with
  | offline | warming | ready | calling | parked => exact absurd h nofun
  | charging | loading | curing =>
    obtain ⟨c, hc, -, hs⟩ := h
    cases hc
    exact absurd hs hne.1
  | opening =>
    obtain ⟨c, hc, -, hs⟩ := h
    cases hc
    exact absurd hs (not_or_intro hne.1 hne.2)
  | ejecting =>
    obtain ⟨c, hc, hm, -⟩ := h
    cases hc
    exact ⟨rfl, hm⟩
  | hold | latched => exact absurd (h k rfl).2 hne.1

/-! ### The end of a cycle (R7, R14) -/

/-- The states of a demoulding. -/
def Demoulding (x : StationState) : Prop := x = .opening ∨ x = .ejecting

theorem Demoulding.settled {x : StationState} (h : Demoulding x) : Settled x := by
  obtain rfl | rfl := h <;> exact ⟨nofun, nofun⟩

theorem Demoulding.live {x : StationState} (h : Demoulding x) : x ≠ .offline := by
  obtain rfl | rfl := h <;> nofun

/-- A context without an ejection under way. -/
def idleCtx (c : CtxCore) : CtxCore := { c with sub := .none }

theorem keepsFit_idleCtx (c : CtxCore) : KeepsFit c (idleCtx c) := KeepsFit.of_idle rfl rfl rfl rfl rfl rfl (.inl rfl)

theorem Demoulding.ctxOk_idle {x : StationState} (h : Demoulding x) {c : CtxCore} (hc : CtxOk x (some c)) : CtxOk x (some (idleCtx c)) := by
  obtain rfl | rfl := h
  all_goals
    obtain ⟨d, hd, hm, -⟩ := hc
    cases hd
    exact ⟨_, rfl, hm, .inl rfl⟩

/-- A PART record is of 56 to 168 bytes (R152). -/
theorem partRecord_size {c : Context} (h : CtxFits (ctxCore c)) (st : Fin 6) (e : Ending) :
    16 ≤ (partRecord st c e).length ∧ (partRecord st c e).length ≤ 168 := by
  obtain ⟨⟨-, -, -, hretry⟩, hpieces, hfaults, hattempts, hnumber, -, -, -⟩ := h
  simp only [ctxCore] at hretry hpieces hfaults hattempts hnumber
  rw [length_partRecord]
  omega

/-- The part with the context a cycle ends with. -/
theorem Inv.endingCtx (h : Inv b none none (core s)) {c : Context} (hc : (s.station st).ctx = some c) (hst : Demoulding (s.station st).state)
    (cause : Cause) (t : Time) : Inv b none none (core (withStation s st { s.station st with ctx := some (ending c cause t) })) := by
  have hctx : ((core s).station st).ctx = some (ctxCore c) := congrArg (Option.map ctxCore) hc
  have hmoved := h.move (st := st) (k := (s.station st).state) (f := idleCtx) hst.settled hst.settled (fun _ k _ => keepsFit_idleCtx k)
    (by rw [hctx]; exact hst.ctxOk_idle (h.ctxOk hc)) (.inl hst.live)
  rw [core_withStation]
  rw [hctx] at hmoved
  exact hmoved

/-- The PART record is appended, and the station stands as it was: the arbiter grants to others. -/
theorem Inv.appendCycle (h : Inv b none none (core s)) {c : Context} (hc : (s.station st).ctx = some c) (hst : Demoulding (s.station st).state)
    (e : Ending) : Inv b none (some st) (core (s.appendCycle c.reservation (partRecord st c e))) ∧
      Demoulding ((s.appendCycle c.reservation (partRecord st c e)).station st).state := by
  have hqueue : st ∉ s.arbiter.queue := fun hq => hst.settled.1 ((h.cell.queue st nofun).mp hq)
  obtain ⟨z, hz, hrec⟩ := Inv.record (n := s.weigher.pieces.length) h hc (bytes := partRecord st c e) fun hs => partRecord_size hs.fits st e
  refine ⟨?_, by rwa [State.station_of_beside (State.beside_appendCycle s hqueue _ _)]⟩
  rw [appendCycle_eq]
  generalize recorded s c.reservation (partRecord st c e) = u at hz
  have hu : Inv b none (some st) (core u) := hz ▸ hrec
  have hsame : u.arbiter.queue = s.arbiter.queue := congrArg Core.queue hz
  split
  · refine hu.consider fun sx hsx he => hqueue ?_
    rwa [← Option.some.inj he, hsame] at hsx
  · exact hu

/-- A cycle that has ended leaves its station without context, in a state of the demoulding. -/
theorem Inv.cycleOut (h : Inv b none none (core s)) {c : Context} (hc : (s.station st).ctx = some c) (hst : Demoulding (s.station st).state)
    (cause : Cause) (e : Ending) (t : Time) : Vacant b st none (core (cycleOut s st (ending c cause t) e)) ∧
      Demoulding ((cycleOut s st (ending c cause t) e).station st).state := by
  obtain ⟨happend, hstate⟩ := (h.endingCtx hc hst cause t).appendCycle (st := st) (c := ending c cause t) (by rw [station_withStation])
    (by rw [station_withStation]; exact hst) e
  unfold Claim.cycleOut
  rw [core_raise, core_releaseContext, State.station_raise, State.station_releaseContext_self]
  exact ⟨happend.releaseVacant hstate.settled hstate.live rfl, hstate⟩

/-- The end of a cycle after its accept (R14). -/
theorem Inv.endCycle (h : Inv b none none (core s)) (hst : Demoulding (s.station st).state) (e : Ending) (t : Time) :
    Inv b none none (core (s.endCycle st e t)) := by
  cases hc : s.ctx? st with
  | none =>
    unfold State.endCycle
    rw [hc]
    exact h
  | some c =>
    obtain ⟨hout, hstate⟩ := h.cycleOut hc hst e.cause e t
    rw [endCycle_eq hc]
    dsimp only
    split
    · split
      · exact hout.enterCalling false
      · exact hout.enterReady
    · exact hout.inv.latchFrom (hout.stoppable hstate.settled) hout.run _

end

end Sys2Proof.Claim
end

section
/-! PROOFS. Attempts and retracts (R138 to R145), the opening and closing of the press (R12, R135, R136), warming and recovery (R17, R19)
keep the invariants of the cell and of the store. -/

namespace Sys2Proof.Claim

open Sys2Proof.Machine

section
variable {b : Bool} {s : State} {st : Fin 6}

/-- The state of a station with this context of the core. -/
theorem ctx_eq_some_iff {k : CtxCore} : ((core s).station st).ctx = some k ↔ ∃ c, (s.station st).ctx = some c ∧ ctxCore c = k :=
  Option.map_eq_some_iff

theorem core_ctx {c : Context} (hc : (s.station st).ctx = some c) : ((core s).station st).ctx = some (ctxCore c) :=
  ctx_eq_some_iff.mpr ⟨c, hc, rfl⟩

/-! ### Attempts (R138 to R145) -/

/-- What the start of attempt `j` writes (R139). -/
def attemptCtx (j : Nat) (c : CtxCore) : CtxCore := { c with sub := .extending, number := j }

theorem keepsFit_attemptCtx {j : Nat} {c : CtxCore} (h : CtxFits c → c.attempts < j ∧ j ≤ c.snapshot.retryLimit + 1) :
    KeepsFit c (attemptCtx j c) := by
  refine ⟨rfl, fun hfits => ?_⟩
  obtain ⟨hlt, hle⟩ := h hfits
  obtain ⟨h1, h2, h3, -, -, -, -, -⟩ := hfits
  exact ⟨h1, h2, h3, hlt.le, hle, fun _ => hlt, nofun, nofun⟩

/-- Attempt `j` starts in EJECTING (R139), whatever the sub-state was. -/
theorem Inv.attemptFrom (h : Inv b (some st) none (core s)) (hst : (s.station st).state = .ejecting) {c : Context}
    (hc : (s.station st).ctx = some c) (hmould : c.mouldOccupied = true) (hrun : s.mode = .run) {j : Nat}
    (hj : CtxFits (ctxCore c) → c.eject.attempts.length < j ∧ j ≤ c.snapshot.retryLimit + 1) :
    Inv b none none (core (s.startAttempt st j)) := by
  have hctx := core_ctx hc
  unfold State.startAttempt
  rw [show s.ctx? st = some c from hc]
  dsimp only
  rw [core_wantEject, core_modCtx_put (f := attemptCtx j) fun _ => rfl, hst]
  refine h.place ⟨nofun, nofun⟩ (fun _ d hd => keepsFit_attemptCtx ?_) ?_ (.inl hrun)
  · cases hctx.symm.trans hd
    exact hj
  · rw [hctx]
    exact ⟨_, rfl, hmould, .inr (.inl rfl)⟩

/-- Attempt `j` starts in its place. -/
theorem Inv.startAttempt (h : Inv b none none (core s)) (hst : (s.station st).state = .ejecting) {c : Context}
    (hc : (s.station st).ctx = some c) {j : Nat} (hj : CtxFits (ctxCore c) → c.eject.attempts.length < j ∧ j ≤ c.snapshot.retryLimit + 1) :
    Inv b none none (core (s.startAttempt st j)) := by
  have hok := h.ctxOk hc
  rw [hst] at hok
  obtain ⟨d, hd, hmould, -⟩ := hok
  cases hd
  exact (h.exempt (st := st) ⟨hst.trans_ne nofun, hst.trans_ne nofun⟩).attemptFrom hst hc hmould
    (h.run (st := st) nofun (hst.trans_ne nofun)) hj

/-- What an outcome writes (R142). -/
def outcomeCtx (c : CtxCore) : CtxCore := { c with attempts := c.attempts + 1, sub := .retracting }

theorem keepsFit_outcomeCtx {c : CtxCore} (h : c.sub = .extending) : KeepsFit c (outcomeCtx c) := by
  refine ⟨rfl, fun hfits => ?_⟩
  obtain ⟨h1, h2, h3, -, h5, h6, -, -⟩ := hfits
  exact ⟨h1, h2, h3, h6 h, h5, nofun, nofun, nofun⟩

/-- An extending attempt takes its outcome (R142). -/
theorem Inv.takeOutcome (h : Inv b none none (core s)) {c : Context} (hc : (s.station st).ctx = some c) (hsub : c.eject.sub = .extending)
    (o : AttemptOutcome) : Inv b none none (core (s.takeOutcome st o)) := by
  have hctx := core_ctx hc
  obtain ⟨hst, hmould⟩ := ejecting_of_sub (h.ctxOk hc) (.inl hsub)
  have hset : Settled (s.station st).state := by rw [hst]; exact ⟨nofun, nofun⟩
  unfold State.takeOutcome
  rw [core_wantEject]
  refine h.changeCtx hset (f := outcomeCtx) (fun d => ?_) (fun _ d hd => ?_) ?_
  · simp [ctxCore, outcomeCtx]
  · cases hctx.symm.trans hd
    exact keepsFit_outcomeCtx hsub
  · rw [hst, hctx]
    exact ⟨_, rfl, hmould, .inr (.inr (.inl rfl))⟩

/-- What the dwell after a retract writes (R143). -/
def dwellCtx (c : CtxCore) : CtxCore := { c with sub := .dwelling }

theorem keepsFit_dwellCtx {c : CtxCore} (h : c.number < c.snapshot.retryLimit + 1) : KeepsFit c (dwellCtx c) := by
  refine ⟨rfl, fun hfits => ?_⟩
  obtain ⟨h1, h2, h3, h4, h5, -, -, -⟩ := hfits
  exact ⟨h1, h2, h3, h4, h5, nofun, fun _ => h, nofun⟩

/-- The retract is complete (R143). -/
theorem Inv.retractComplete (h : Inv b none none (core s)) {c : Context} (hc : (s.station st).ctx = some c)
    (hsub : c.eject.sub = .retracting) : Inv b none none (core (s.retractComplete st c)) := by
  obtain ⟨hst, hmould⟩ := ejecting_of_sub (h.ctxOk hc) (.inr (.inl hsub))
  unfold State.retractComplete
  dsimp only
  have hcore : core (s.modCtx st fun c => { c with eject := { c.eject with attemptTimer := .stopped } }) = core s :=
    core_modCtx_beside s st fun _ => rfl
  have hnow : ((s.modCtx st fun c => { c with eject := { c.eject with attemptTimer := .stopped } }).station st).ctx =
      some { c with eject := { c.eject with attemptTimer := .stopped } } := by
    rw [modCtx_of_ctx s st hc, station_withStation]
  generalize (s.modCtx st fun c => { c with eject := { c.eject with attemptTimer := .stopped } }) = t at hcore hnow
  have ht : Inv b none none (core t) := hcore ▸ h
  have hstate : (t.station st).state = .ejecting := (state_of_core hcore st).trans hst
  split
  · exact ht.endCycle (.inr hstate) _ _
  · split
    · next hmore =>
      split
      · refine ht.startAttempt hstate hnow fun hfits => ⟨?_, hmore⟩
        have := hfits.attempts
        exact Nat.lt_succ_of_le this
      · have hctx := core_ctx hnow
        refine ht.changeCtx (st := st) (f := dwellCtx) (by rw [hstate]; exact ⟨nofun, nofun⟩) (fun _ => rfl) (fun _ d hd => ?_) ?_
        · cases hctx.symm.trans hd
          exact keepsFit_dwellCtx hmore
        · rw [hstate, hctx]
          exact ⟨_, rfl, hmould, .inr (.inr (.inr rfl))⟩
    · exact ht.endCycle (.inr hstate) _ _

/-- What an EJECT-SAMPLE decides (R140, R143). -/
theorem Inv.judgeEject (h : Inv b none none (core s)) (st : Fin 6) (m : EjectSample) : Inv b none none (core (s.judgeEject st m)) := by
  unfold State.judgeEject
  split
  · exact h
  · next c hc =>
    split
    · next hsub =>
      split
      · have hpeak := h.modCtx st (f := fun c => { c with eject := { c.eject with peak := max c.eject.peak m.force } }) fun _ => rfl
        dsimp only
        split
        · exact hpeak
        · refine hpeak.takeOutcome (c := { c with eject := { c.eject with peak := max c.eject.peak m.force } }) ?_ hsub _
          rw [modCtx_of_ctx s st hc, station_withStation]
      · exact h
    · next hsub =>
      split
      · exact h.retractComplete hc hsub
      · exact h
    · exact h

/-- The attempt timer expires (R141, R144, R145). -/
theorem Inv.attemptExpired (h : Inv b none none (core s)) {c : Context} (hc : (s.station st).ctx = some c) (t : Time) :
    Inv b none none (core (s.attemptExpired st c t)) := by
  unfold State.attemptExpired
  split
  · next hsub => exact h.takeOutcome hc hsub _
  · next hsub => exact h.endCycle (.inr (ejecting_of_sub (h.ctxOk hc) (.inr (.inl hsub))).1) _ _
  · next hsub =>
    refine h.startAttempt (ejecting_of_sub (h.ctxOk hc) (.inr (.inr hsub))).1 hc fun hfits => ⟨?_, hfits.dwelling hsub⟩
    exact Nat.lt_succ_of_le hfits.attempts
  · exact h

/-- The work on an EJECT-SAMPLE (R133). -/
theorem Inv.ejectWork (h : Inv b none none (core s)) (st : Fin 6) (m : EjectSample) : Inv b none none (core (s.ejectWork st m)) := by
  have hnoted := h.modStation st
    (f := fun x => { x with demould := { x.demould with echoed := some m.echo, position := some m.position, force := some m.force } }) fun _ => rfl
  unfold State.ejectWork
  dsimp only
  split
  · exact hnoted.judgeEject st m
  · exact Inv.judgeEject (by rwa [core_placeEject]) st m

end

end Sys2Proof.Claim
end

section
/-! PROOFS. The press (R10, R12, R13, R135, R136), warming, recovery and abort (R9, R17, R19, R22), and the rounds of the heat engine
(R45 to R93) keep the invariants of the cell and of the store. -/

namespace Sys2Proof.Claim

open Sys2Proof.Machine

section
variable {b : Bool} {s : State} {st : Fin 6}

/-! ### Opening, warming and recovery -/

/-- What the fresh start of an opening writes (R135). -/
def openingCtx (c : CtxCore) : CtxCore := { c with sub := .waitOpen, number := 0, attempts := 0 }

theorem keepsFit_openingCtx (c : CtxCore) : KeepsFit c (openingCtx c) := by
  refine ⟨rfl, fun hfits => ?_⟩
  obtain ⟨h1, h2, h3, -, -, -, -, -⟩ := hfits
  exact ⟨h1, h2, h3, Nat.zero_le _, Nat.zero_le _, nofun, nofun, fun _ => rfl⟩

/-- The station has a context with the mould occupied (R6). -/
def Occupied (x : StationCore) : Prop := ∃ c, x.ctx = some c ∧ c.mould = true

/-- A station with its mould occupied opens (R135). -/
theorem Inv.startOpening (h : Inv b none none (core s)) (hst : Settled (s.station st).state) (hlive : (s.station st).state ≠ .offline)
    (hoccupied : Occupied ((core s).station st)) : Inv b none none (core (s.startOpening st)) := by
  obtain ⟨c, hc, hmould⟩ := hoccupied
  unfold State.startOpening
  refine h.changeTo (f := openingCtx) hst hlive (fun _ => rfl) ⟨nofun, nofun⟩ (fun _ d _ => keepsFit_openingCtx d) ?_
  rw [hc]
  exact ⟨_, rfl, hmould, .inr rfl⟩

/-- LOADING and CURING have their mould occupied and no ejection under way. -/
theorem Inv.inMould (h : Inv b none none (core s)) (hst : (s.station st).state = .loading ∨ (s.station st).state = .curing) :
    ∃ c, ((core s).station st).ctx = some c ∧ c.mould = true ∧ c.sub = .none := by
  have hok := h.ok st
  obtain hst | hst := hst
  all_goals
    rw [core_station, show (stationCore (s.station st)).state = _ from hst] at hok
    exact hok

theorem Inv.occupied (h : Inv b none none (core s)) (hst : (s.station st).state = .loading ∨ (s.station st).state = .curing) :
    Occupied ((core s).station st) := by
  obtain ⟨c, hc, hmould, -⟩ := h.inMould hst
  exact ⟨c, hc, hmould⟩

/-- A station without context changes its state alone. -/
theorem Inv.setState_of_none (h : Inv b none none (core s)) (hst : Settled (s.station st).state) (hlive : (s.station st).state ≠ .offline)
    (hctx : ((core s).station st).ctx = none) {k : StationState} (hk : Settled k) (hok : CtxOk k none) :
    Inv b none none (core (s.setState st k)) := by
  rw [core_setState]
  exact (h.vacant hst hctx hlive).restore hk hok

/-- Entry to WARMING from a state without context (R9). -/
theorem Inv.enterWarming (h : Inv b none none (core s)) (hst : Settled (s.station st).state) (hlive : (s.station st).state ≠ .offline)
    (hctx : ((core s).station st).ctx = none) : Inv b none none (core (s.enterWarming st)) := by
  have hcore : core (s.modStation st fun x => { x with readyCount := 0, cause := .none }) = core s := core_modStation_beside s st fun _ => rfl
  have hstate : ((s.modStation st fun x => { x with readyCount := 0, cause := .none }).station st).state = (s.station st).state :=
    state_of_core hcore st
  unfold State.enterWarming
  refine Inv.setState_of_none (by rwa [hcore]) ?_ ?_ (by rwa [hcore]) ⟨nofun, nofun⟩ rfl
  · rwa [hstate]
  · rwa [hstate]

/-- Recovery from HOLD or LATCHED (R17, R19). -/
theorem Inv.recover (h : Inv b none none (core s)) (hst : Standing (s.station st).state) : Inv b none none (core (s.recover st)) := by
  have hok := (ctxOk_standing hst _).mp (h.ok st)
  have hlive : (s.station st).state ≠ .offline := by obtain e | e := hst <;> exact e.trans_ne nofun
  have hcore : core (s.modStation st fun x => { x with cause := .none }) = core s := core_modStation_beside s st fun _ => rfl
  have hstate : ((s.modStation st fun x => { x with cause := .none }).station st).state = (s.station st).state :=
    state_of_core hcore st
  unfold State.recover
  dsimp only
  generalize (s.modStation st fun x => { x with cause := .none }) = t at hcore hstate
  have ht : Inv b none none (core t) := hcore ▸ h
  rw [← hstate] at hst hlive
  cases hc : (s.station st).ctx with
  | none =>
    have hno : ¬(s.station st).mouldOccupied = true := by simp [Station.mouldOccupied, hc]
    rw [if_neg hno]
    exact ht.enterWarming hst.settled hlive (by rw [hcore]; exact congrArg (Option.map ctxCore) hc)
  | some c =>
    have hmould : c.mouldOccupied = true := (hok _ (core_ctx hc)).1
    have hyes : (s.station st).mouldOccupied = true := by simp [Station.mouldOccupied, hc, hmould]
    rw [if_pos hyes]
    exact ht.startOpening hst.settled hlive ⟨ctxCore c, by rw [hcore]; exact core_ctx hc, hmould⟩

/-- The hold timer expires (R17). -/
theorem Inv.holdExpired (h : Inv b none none (core s)) (hst : (s.station st).state = .hold) : Inv b none none (core (s.holdExpired st)) := by
  have hcore : core (s.modStation st fun x => { x with holdTimer := .stopped }) = core s := core_modStation_beside s st fun _ => rfl
  have hstate : ((s.modStation st fun x => { x with holdTimer := .stopped }).station st).state = (s.station st).state :=
    state_of_core hcore st
  unfold State.holdExpired
  dsimp only
  generalize (s.modStation st fun x => { x with holdTimer := .stopped }) = t at hcore hstate
  have ht : Inv b none none (core t) := hcore ▸ h
  rw [hst] at hstate
  split
  · exact ht.enterLatched (hstate.trans_ne nofun) _
  · exact ht.recover (.inl hstate)

/-! ### The press (R10, R12, R13, R136) -/

/-- CALLING back to READY (R10). -/
theorem Inv.callToReady (h : Inv b none none (core s)) (hst : (s.station st).state = .calling) : Inv b none none (core (s.callToReady st)) := by
  unfold State.callToReady
  refine h.leaveQueueFor (k := .ready) hst ⟨nofun, nofun⟩ rfl ?_
  rw [core_raiseStationState, core_setState]

/-- The closing sample (R12). -/
theorem Inv.closePress (h : Inv b none none (core s)) (hst : (s.station st).state = .loading) : Inv b none none (core (s.closePress st)) := by
  unfold State.closePress
  refine h.changeTo (F := fun c => c.startCure s.now) (k := .curing) (f := id) (by rw [hst]; exact ⟨nofun, nofun⟩)
    (hst.trans_ne nofun) (fun _ => rfl) ⟨nofun, nofun⟩ (fun _ c _ => KeepsFit.refl c) ?_
  rw [Option.map_id, id]
  exact h.inMould (.inl hst)

theorem Inv.watchPressure (h : Inv b none none (core s)) (st : Fin 6) (n : Nat) : Inv b none none (core (s.watchPressure st n)) := by
  unfold State.watchPressure
  split
  · exact h
  · next c _ =>
    have hlow := h.modCtx st (f := fun d => { d with lowTonnage := nextLow (s.station st).settings.minTonnage n c.lowTonnage }) fun _ => rfl
    dsimp only
    split
    · exact hlow.takeCause st _
    · exact hlow

/-- The press is open (R136): the ejection of an opening that waited for it starts, or the station holds. -/
theorem Inv.pressOpen (h : Inv b none none (core s)) {c : Context} (hc : (s.station st).ctx = some c) (hsub : c.eject.sub = .waitOpen)
    (hst : (s.station st).state = .opening) : Inv b none none (core (s.pressOpen st)) := by
  have hok := h.ctxOk hc
  rw [hst] at hok
  obtain ⟨d, hd, hmould, -⟩ := hok
  cases hd
  have hrun : s.mode = .run := h.run (st := st) nofun (hst.trans_ne nofun)
  have hcore : core ((s.modCtx st fun c => { c with eject := { c.eject with openTimer := .stopped } }).setState st .ejecting) =
      (core s).setState st .ejecting := by
    rw [core_setState]
    refine congrArg (·.setState st .ejecting) (core_modCtx_beside s st ?_)
    exact fun _ => rfl
  have hstation : (core ((s.modCtx st fun c => { c with eject := { c.eject with openTimer := .stopped } }).setState st .ejecting)).station st =
      { state := .ejecting, ctx := some (ctxCore c) } := by
    rw [hcore, Core.setState, Core.station_put]
    exact congrArg (StationCore.mk .ejecting) (core_ctx hc)
  unfold State.pressOpen
  dsimp only
  generalize (s.modCtx st fun c => { c with eject := { c.eject with openTimer := .stopped } }).setState st .ejecting = t at hcore hstation
  have ht : Inv b (some st) none (core t) := by
    rw [hcore]
    have hset : Settled ((core s).station st).state := by
      rw [show ((core s).station st).state = .opening from hst]
      exact ⟨nofun, nofun⟩
    exact (h.exempt hset).setState _
  have hstate : (t.station st).state = .ejecting := congrArg StationCore.state hstation
  have hmode : t.mode = .run := (congrArg Core.mode hcore).trans hrun
  obtain ⟨e, he, hec⟩ := ctx_eq_some_iff.mp (congrArg StationCore.ctx hstation)
  split
  · unfold State.takeCause
    rw [hstate]
    refine ht.holdFrom ⟨?_, fun k hk => ?_⟩ hmode .ejectorSilent
    · rw [hstation]
      exact ⟨nofun, nofun⟩
    · rw [hstation] at hk ⊢
      cases hk
      exact ⟨hmould, rfl⟩
  · refine ht.attemptFrom hstate he ?_ hmode fun hfits => ?_
    · exact (congrArg CtxCore.mould hec).trans hmould
    · rw [hec] at hfits
      have hzero := hfits.waitOpen hsub
      rw [← hec] at hzero
      change e.eject.attempts.length = 0 at hzero
      omega

theorem Inv.watchOpening (h : Inv b none none (core s)) (hst : (s.station st).state = .opening) (ram : Nat) :
    Inv b none none (core (s.watchOpening st ram)) := by
  unfold State.watchOpening
  split
  · exact h
  · next c hc =>
    split
    · next hopen => exact h.pressOpen hc hopen.1 hst
    · exact h

theorem Inv.testPress (h : Inv b none none (core s)) (st : Fin 6) (m : PressSample) : Inv b none none (core (s.testPress st m)) := by
  unfold State.testPress
  split
  case h_1 => exact h.lookCalling st
  case h_2 hst =>
    split
    · exact h
    · exact h.callToReady hst
  case h_3 hst =>
    split
    · exact h.closePress hst
    · exact h
  case h_4 => exact h.watchPressure st _
  case h_5 hst => exact h.watchOpening hst _
  all_goals exact h

/-- A PRESS-SAMPLE (R1, R15). -/
theorem Inv.pressWork (h : Inv b none none (core s)) (st : Fin 6) (m : PressSample) : Inv b none none (core (s.pressWork st m)) := by
  have hnoted : Inv b none none (core ((s.modStation st (·.notePress m)).comparePermit st m.echo)) := by
    have hnote := h.modStation st (f := (·.notePress m)) fun _ => rfl
    unfold State.comparePermit
    split
    · exact hnote
    · rwa [core_placePermit]
  unfold State.pressWork
  dsimp only
  split
  · exact (hnoted.takeCause st _).testPress st m
  · exact hnoted.testPress st m

end

end Sys2Proof.Claim
end

section
/-! PROOFS. The rounds of the heat engine (R45 to R93) and the timers of a cycle keep the invariants of the cell and of the store. -/

namespace Sys2Proof.Claim

open Sys2Proof.Machine

section
variable {b : Bool} {s : State} {st : Fin 6}

/-! ### The supervisor's part of a round (R67) -/

/-- What the faults of zones write of a context (R76): the length of its list. -/
def faultedCtx (n : Nat) (c : CtxCore) : CtxCore := { c with faults := n }

theorem keepsFit_faultedCtx {n : Nat} {c : CtxCore} (h : c.faults ≤ 16 → n ≤ 16) : KeepsFit c (faultedCtx n c) := by
  refine ⟨rfl, fun hfits => ?_⟩
  obtain ⟨h1, h2, h3, h4, h5, h6, h7, h8⟩ := hfits
  exact ⟨h1, h2, h h3, h4, h5, h6, h7, h8⟩

/-- A fault adds an entry to a list of fewer than 16 (R76). -/
theorem noteFault_bound (c : Context) (i : Fin 16) (z : Zone) (h : c.faults.length ≤ 16) : (c.noteFault i z).faults.length ≤ 16 := by
  unfold Context.noteFault
  dsimp only
  split
  · next hroom =>
    rw [List.length_append, List.length_singleton]
    exact hroom.1
  · exact h

theorem faultsNoted_core (x : Station) (l : List (Fin 16)) (c : Context) :
    ctxCore (faultsNoted x l c) = faultedCtx (faultsNoted x l c).faults.length (ctxCore c) ∧
      (c.faults.length ≤ 16 → (faultsNoted x l c).faults.length ≤ 16) := by
  induction l generalizing c with
  | nil => exact ⟨rfl, id⟩
  | cons i l ih =>
    obtain ⟨hcore, hbound⟩ := ih (c.noteFault i ((x.zones[i]).judgeFault))
    exact ⟨hcore, fun h => hbound (noteFault_bound c i _ h)⟩

theorem ctxCore_addExcursions (c : Context) (n : Nat) : ctxCore (c.addExcursions n) = ctxCore c := rfl

/-- The context of a judged round. -/
theorem judgedCtx_core (x : Station) (start : StationState) (ramping : Vector Bool 4) (c : Context) :
    ∃ n, ctxCore (judgedCtx x start ramping c) = faultedCtx n (ctxCore c) ∧ (c.faults.length ≤ 16 → n ≤ 16) := by
  unfold judgedCtx
  split
  · obtain ⟨hcore, hbound⟩ := faultsNoted_core x x.faultsTaken c
    exact ⟨_, (ctxCore_addExcursions _ _).trans hcore, hbound⟩
  · exact ⟨c.faults.length, rfl, id⟩

theorem core_zoneFaultsTold (s : State) (x : Station) (start : StationState) (l : List (Fin 16)) : core (zoneFaultsTold s st x start l) = core s := by
  unfold zoneFaultsTold
  induction l generalizing s with
  | nil => rfl
  | cons i l ih => rw [List.foldl_cons, ih, core_raise]

theorem core_judged (s : State) (st : Fin 6) (ramping : Vector Bool 4) : core (judged s st ramping) =
    (core s).put st ⟨(s.station st).state,
      (s.station st).ctx.map fun c => ctxCore (judgedCtx (s.station st) (s.station st).state ramping c)⟩ := by
  unfold judged
  dsimp only
  rw [core_withStation, core_zoneFaultsTold]
  unfold stationCore judgedStation
  dsimp only
  rw [Option.map_map]
  rfl

theorem Inv.judged (h : Inv b none none (core s)) (ramping : Vector Bool 4) : Inv b none none (core (judged s st ramping)) := by
  rw [core_judged]
  by_cases hst : (s.station st).state = .curing
  · obtain ⟨k, hk, hmould, hsub⟩ := h.inMould (.inr hst)
    obtain ⟨c, hc, rfl⟩ := ctx_eq_some_iff.mp hk
    obtain ⟨n, hcore, hbound⟩ := judgedCtx_core (s.station st) (s.station st).state ramping c
    have hmap : (s.station st).ctx.map (fun c => ctxCore (judgedCtx (s.station st) (s.station st).state ramping c)) =
        ((core s).station st).ctx.map (faultedCtx n) := by
      rw [hc, hk]
      exact congrArg some hcore
    rw [hmap, hst]
    refine h.move ?_ ⟨nofun, nofun⟩ (fun _ d hd => ?_) ?_ (.inl ?_)
    · rw [show ((core s).station st).state = .curing from hst]
      exact ⟨nofun, nofun⟩
    · cases hk.symm.trans hd
      exact keepsFit_faultedCtx hbound
    · rw [hk]
      exact ⟨_, rfl, hmould, hsub⟩
    · rw [show ((core s).station st).state = .curing from hst]
      nofun
  · have hmap : (s.station st).ctx.map (fun c => ctxCore (judgedCtx (s.station st) (s.station st).state ramping c)) =
        ((core s).station st).ctx := by
      refine congrArg (Option.map · (s.station st).ctx) (funext fun c => ?_)
      rw [judgedCtx_of_not_curing _ _ _ hst]
    rw [hmap]
    exact ((core s).put_self st).symm ▸ h

theorem Inv.supervise (h : Inv b none none (core s)) (ramping : Vector Bool 4) :
    Inv b none none (core (s.supervise st (s.station st).state ramping)) := by
  rw [supervise_eq_judged]
  split
  · exact (h.judged ramping).takePlatenLost st
  · exact h.judged ramping

/-! ### The cure (R85 to R93) -/

/-- Cure ends (R93). -/
theorem Inv.endCure (h : Inv b none none (core s)) (hst : (s.station st).state = .curing) (t : Time) :
    Inv b none none (core (s.endCure st t)) := by
  have hcore : core (s.modCtx st fun c => { c with cure := c.cure.stopAt t }) = core s := core_modCtx_beside s st fun _ => rfl
  have hstate : ((s.modCtx st fun c => { c with cure := c.cure.stopAt t }).station st).state = .curing :=
    (state_of_core hcore st).trans hst
  unfold State.endCure
  refine Inv.startOpening (by rwa [hcore]) ?_ ?_ (by rw [hcore]; exact h.occupied (.inr hst))
  · rw [hstate]
    exact ⟨nofun, nofun⟩
  · rw [hstate]
    nofun

/-- The steps that advance resolve groups alone. -/
theorem core_foldl_resolveOne (l : List (Fin 4)) (p : Fin 4 → Prop) [DecidablePred p] (s : State) :
    core (l.foldl (fun (t : State) (g : Fin 4) => if p g then t.resolveOne st g else t) s) = core s := by
  induction l generalizing s with
  | nil => rfl
  | cons g l ih =>
    rw [List.foldl_cons, ih]
    split
    · exact core_resolveOne s st g
    · rfl

theorem Inv.cureRound (h : Inv b none none (core s)) (hst : (s.station st).state = .curing) : Inv b none none (core (s.cureRound st)) := by
  unfold State.cureRound
  split
  · exact h
  · dsimp only
    generalize hu : List.foldl _ _ (List.finRange 4) = u
    have hcore : core u = core s := by
      rw [← hu, core_foldl_resolveOne]
      exact core_modCtx_beside s st fun _ => rfl
    have hui : Inv b none none (core u) := hcore ▸ h
    have hstate : (u.station st).state = .curing := (state_of_core hcore st).trans hst
    split
    · exact hui.endCure hstate _
    · exact hui

/-- The wall minimum expires (R91). -/
theorem Inv.wallMinExpired (h : Inv b none none (core s)) (hst : (s.station st).state = .curing) (c : Context) (t : Time) :
    Inv b none none (core (s.wallMinExpired st c t)) := by
  unfold State.wallMinExpired
  split
  · exact h.endCure hst t
  · exact h.modCtx st fun _ => rfl

/-- The wall maximum expires (R92). -/
theorem Inv.wallMaxExpired (h : Inv b none none (core s)) (hst : (s.station st).state = .curing) (t : Time) :
    Inv b none none (core (s.wallMaxExpired st t)) := by
  have hmod : core (s.modCtx st fun c => { c with cure := { c.cure with undercured := c.cure.undercured || !c.cure.reached } }) = core s :=
    core_modCtx_beside s st fun _ => rfl
  unfold State.wallMaxExpired
  refine Inv.endCure (by rwa [hmod]) ?_ t
  exact (state_of_core hmod st).trans hst

/-! ### The rounds (R45) -/

theorem Inv.readyTest (h : Inv b none none (core s)) (hst : (s.station st).state = .warming) (ramping : Vector Bool 4) :
    Inv b none none (core (s.readyTest st ramping)) := by
  have hcounted := h.modStation st (f := fun x => { x with readyCount := (s.station st).nextReady ramping }) fun _ => rfl
  have hstation : (core (s.modStation st fun x => { x with readyCount := (s.station st).nextReady ramping })).station st = (core s).station st :=
    congrArg (Core.station · st) (core_modStation_beside s st fun _ => rfl)
  have hnone : ((core s).station st).ctx = none := by
    have hok := h.ok st
    rwa [core_station, show (stationCore (s.station st)).state = .warming from hst] at hok
  unfold State.readyTest
  dsimp only
  split
  · refine (hcounted.vacant (st := st) ?_ ?_ ?_).enterReady
    · rw [hstation, show ((core s).station st).state = .warming from hst]
      exact ⟨nofun, nofun⟩
    · rw [hstation, hnone]
    · rw [hstation, show ((core s).station st).state = .warming from hst]
      nofun
  · exact hcounted

theorem core_zeroDuty (s : State) (st : Fin 6) (n : Half) : core (s.zeroDuty st n) = core s := by
  unfold State.zeroDuty
  split
  · rw [core_placeDuty]
    exact core_modStation_beside s st fun _ => rfl
  · rfl

theorem core_offlineRound (s : State) (st : Fin 6) (m : HeatSample) : core (s.offlineRound st m) = core s := by
  have hround : core (s.modStation st fun x => { x with round := x.round.offlineRound m.nodeRound s.now }) = core s :=
    core_modStation_beside s st fun _ => rfl
  unfold State.offlineRound
  dsimp only
  split
  · rw [core_zeroDuty, core_modStation_beside (f := Station.zeroDuties) _ st fun _ => rfl, hround]
  · exact hround

theorem stationCore_fullRound (x : Station) (m : HeatSample) (now : Time) : stationCore (x.fullRound m now) = stationCore x := by
  have hstate : (x.fullRound m now).state = x.state := by rw [x.fullRound_eq m now]
  unfold stationCore
  rw [hstate, ctx_fullRound m x now]

theorem Inv.fullRound (h : Inv b none none (core s)) (st : Fin 6) (m : HeatSample) : Inv b none none (core (s.fullRound st m)) := by
  unfold State.fullRound
  dsimp only
  generalize (Vector.ofFn fun g : Fin 4 => ((s.station st).groups[g]).ramping) = ramping
  have hround : core (s.modStation st fun x => x.fullRound m s.now) = core s := core_modStation_beside s st fun x => stationCore_fullRound x m s.now
  generalize (s.modStation st fun x => x.fullRound m s.now) = u at hround
  have hlimited : core (if (s.station st).state = .curing ∧ (u.station st).round.budgetLimited = true then
      u.modCtx st fun c => { c with budgetLimited := satAdd 65535 c.budgetLimited 1 } else u) = core s := by
    split
    · rw [← hround]
      exact core_modCtx_beside u st fun _ => rfl
    · exact hround
  generalize (if (s.station st).state = .curing ∧ (u.station st).round.budgetLimited = true then
      u.modCtx st fun c => { c with budgetLimited := satAdd 65535 c.budgetLimited 1 } else u) = w at hlimited
  have hduty : core (w.placeDuty st m.nodeRound (w.station st).duties) = core s := by rw [core_placeDuty, hlimited]
  generalize w.placeDuty st m.nodeRound (w.station st).duties = y at hduty
  have hstate : (s.station st).state = (y.station st).state := (state_of_core hduty st).symm
  have hsupervised : Inv b none none (core (y.supervise st (s.station st).state ramping)) := by
    rw [hstate]
    exact Inv.supervise (hduty ▸ h) ramping
  generalize y.supervise st (s.station st).state ramping = z at hsupervised
  have hcured : Inv b none none (core (if (z.station st).state = .curing then z.cureRound st else z)) := by
    split
    · next hcuring => exact hsupervised.cureRound hcuring
    · exact hsupervised
  generalize (if (z.station st).state = .curing then z.cureRound st else z) = a at hcured
  split
  · next hwarming => exact hcured.readyTest hwarming ramping
  · exact hcured

/-- A HEAT-SAMPLE (R45). -/
theorem Inv.heatWork (h : Inv b none none (core s)) (st : Fin 6) (m : HeatSample) : Inv b none none (core (s.heatWork st m)) := by
  unfold State.heatWork
  dsimp only
  split
  · exact h
  · split
    · rwa [core_offlineRound]
    · exact h.fullRound st m

end

end Sys2Proof.Claim
end

section
/-! PROOFS. The station commands (R8, R19 to R24), the timers of a cycle and a node that falls silent (R174) keep the invariants of the cell
and of the store. -/

namespace Sys2Proof.Claim

open Sys2Proof.Machine

section
variable {b : Bool} {s : State} {st : Fin 6}

theorem core_runDisabled (s : State) (st : Fin 6) : core (s.modStation st fun x => { x with runEnable := false }) = core s :=
  core_modStation_beside s st fun _ => rfl

/-! ### The commands -/

theorem Inv.startStation {t : State} (h : Inv b none none (core s)) (ht : s.startStation st = .ok t) : Inv b none none (core t) := by
  unfold State.startStation at ht
  split at ht
  · cases ht
  · cases ht
  · cases ht
    exact (h.modStation st (f := fun x => { x with runEnable := true }) fun _ => rfl).lookCalling st

theorem Inv.stopStation (h : Inv b none none (core s)) (st : Fin 6) : Inv b none none (core (s.stopStation st)) := by
  have hcore := core_runDisabled s st
  unfold State.stopStation
  dsimp only
  split
  · next hst => exact Inv.callToReady (hcore ▸ h) ((state_of_core hcore st).trans hst)
  · rwa [hcore]

/-- The stop of what runs in LOADING and CURING leaves the ejection (R22). -/
theorem core_stopWork_inMould (hst : (s.station st).state = .loading ∨ (s.station st).state = .curing) : core (s.stopWork st) = core s := by
  unfold State.stopWork
  obtain hst | hst := hst
  · rw [hst]
    exact core_modCtx_beside s st fun _ => rfl
  · rw [hst]
    exact core_modCtx_beside s st fun _ => rfl

/-- ABORT in LOADING and CURING (R22). -/
theorem Inv.abortCycle (h : Inv b none none (core s)) (hst : (s.station st).state = .loading ∨ (s.station st).state = .curing) :
    Inv b none none (core (s.abortCycle st)) := by
  have hmark : core (s.modCtx st fun c => { c with aborted := true }) = core s := core_modCtx_beside s st fun _ => rfl
  unfold State.abortCycle
  generalize (s.modCtx st fun c => { c with aborted := true }) = t at hmark
  have ht : (t.station st).state = .loading ∨ (t.station st).state = .curing := by rwa [state_of_core hmark]
  have hcore : core (t.stopWork st) = core s := (core_stopWork_inMould ht).trans hmark
  have hstate := state_of_core hcore st
  refine Inv.startOpening (hcore ▸ h) ?_ ?_ (hcore ▸ h.occupied hst)
  · rw [hstate]
    obtain e | e := hst <;> rw [e] <;> exact ⟨nofun, nofun⟩
  · rw [hstate]
    obtain e | e := hst <;> rw [e] <;> nofun

theorem Inv.abortStation {t : State} (h : Inv b none none (core s)) (ht : s.abortStation st = .ok t) : Inv b none none (core t) := by
  have hcore := core_runDisabled s st
  have hu : Inv b none none (core (s.modStation st fun x => { x with runEnable := false })) := hcore ▸ h
  have hstate := state_of_core hcore st
  unfold State.abortStation at ht
  dsimp only at ht
  generalize (s.modStation st fun x => { x with runEnable := false }) = u at hu hstate ht
  split at ht
  case h_1 | h_2 => cases ht
  case h_3 hst =>
    cases ht
    exact hu.callToReady (hstate.trans hst)
  case h_4 hst =>
    cases ht
    exact (hu.abortWeigh (hstate.trans hst)).enterReady
  case h_5 hst =>
    cases ht
    exact hu.abortCycle (.inl (hstate.trans hst))
  case h_6 hst =>
    cases ht
    exact hu.abortCycle (.inr (hstate.trans hst))
  all_goals
    cases ht
    exact hu

/-- A station in READY, WARMING or PARKED has no context. -/
theorem Inv.noCtx (h : Inv b none none (core s)) (hst : (s.station st).state = .ready ∨ (s.station st).state = .warming ∨
    (s.station st).state = .parked) : ((core s).station st).ctx = none ∧ Settled (s.station st).state ∧ (s.station st).state ≠ .offline := by
  have hok : CtxOk (s.station st).state ((core s).station st).ctx := h.ok st
  obtain hst | hst | hst := hst
  all_goals
    rw [hst] at hok ⊢
    exact ⟨hok, ⟨nofun, nofun⟩, nofun⟩

theorem Inv.parkStation {t : State} (h : Inv b none none (core s)) (ht : s.parkStation st = .ok t) : Inv b none none (core t) := by
  have hpark (hst : (s.station st).state = .ready ∨ (s.station st).state = .warming ∨ (s.station st).state = .parked) :
      Inv b none none (core (s.setState st .parked)) := by
    obtain ⟨hnone, hset, hlive⟩ := h.noCtx hst
    exact h.setState_of_none hset hlive hnone ⟨nofun, nofun⟩ rfl
  unfold State.parkStation at ht
  split at ht
  · next hst =>
    cases ht
    exact hpark (.inl hst)
  · next hst =>
    cases ht
    exact hpark (.inr (.inl hst))
  · next hst =>
    cases ht
    exact h.leaveQueueFor (k := .parked) hst ⟨nofun, nofun⟩ rfl (core_setState s st _)
  · cases ht

theorem Inv.unparkStation {t : State} (h : Inv b none none (core s)) (ht : s.unparkStation st = .ok t) : Inv b none none (core t) := by
  unfold State.unparkStation at ht
  split at ht
  · next hst =>
    cases ht
    obtain ⟨hnone, hset, hlive⟩ := h.noCtx (.inr (.inr hst))
    exact h.enterWarming hset hlive hnone
  · cases ht

/-- ONLINE (R8): only a part in RUN puts a station on line. -/
theorem Inv.onlineStation {t : State} (h : Inv b none none (core s)) (hm : s.mode ≠ .isolated) (ht : s.onlineStation st = .ok t) :
    Inv b none none (core t) := by
  unfold State.onlineStation at ht
  split at ht
  · cases ht
  · next hon =>
    obtain ⟨hoff, hconfig⟩ := not_or.mp hon
    have hstate : (s.station st).state = .offline := not_not.mp hoff
    have hrun : s.mode = .run := by
      cases hmode : s.mode with
      | isolated => exact absurd hmode hm
      | config => exact absurd hmode hconfig
      | run => rfl
    split at ht
    · cases ht
      have hcore : core (s.modStation st Station.startAnew) = core s := core_modStation_beside s st fun _ => rfl
      have hok : CtxOk (s.station st).state ((core s).station st).ctx := h.ok st
      rw [hstate] at hok
      rw [core_setState, hcore]
      have hvacant : Vacant b st none (core s) := ⟨h.exempt (by
        rw [core_station, show (stationCore (s.station st)).state = .offline from hstate]
        exact ⟨nofun, nofun⟩), hok, hrun⟩
      exact hvacant.restore ⟨nofun, nofun⟩ rfl
    · cases ht

/-- Entry to OFFLINE from a state without context (R23). -/
theorem Inv.enterOffline (h : Inv b none none (core s)) (hctx : ((core s).station st).ctx = none) (hcharging : (s.station st).state ≠ .charging)
    (hlive : (s.station st).state ≠ .offline) : Inv b none none (core (s.enterOffline st)) := by
  have hcleared : core (s.modStation st fun x => { x with holdTimer := .stopped, runEnable := false, cause := .none, readyCount := 0 }) =
      core s := core_modStation_beside s st fun _ => rfl
  unfold State.enterOffline
  dsimp only
  generalize (s.modStation st fun x => { x with holdTimer := .stopped, runEnable := false, cause := .none, readyCount := 0 }) = u at hcleared
  have hset : core (u.setState st .offline) = (core s).setState st .offline := by rw [core_setState, hcleared]
  generalize u.setState st .offline = w at hset
  have hzero : core (if (w.nodeOf .heater st.val).isSome then (w.modStation st Station.zeroDuties).zeroDuty st
      ((s.station st).round.lastNode.getD 0) else w) = (core s).setState st .offline := by
    split
    · rw [core_zeroDuty, core_modStation_beside (f := Station.zeroDuties) w st fun _ => rfl, hset]
    · exact hset
  generalize (if (w.nodeOf .heater st.val).isSome then (w.modStation st Station.zeroDuties).zeroDuty st
      ((s.station st).round.lastNode.getD 0) else w) = y at hzero
  split
  · next hst => exact h.leaveQueueFor (k := .offline) hst ⟨nofun, nofun⟩ rfl (by rw [core_raiseStationState, hzero])
  · next hst =>
    rw [core_raiseStationState, hzero]
    exact (h.vacant (st := st) ⟨hst, hcharging⟩ hctx hlive).restore ⟨nofun, nofun⟩ rfl

theorem Inv.offlineStation {t : State} (h : Inv b none none (core s)) (ht : s.offlineStation st = .ok t) : Inv b none none (core t) := by
  have hok : CtxOk (s.station st).state ((core s).station st).ctx := h.ok st
  have hheld (hst : Standing (s.station st).state) (ht : (if (s.station st).ctx.isSome then .error .state else .ok (s.enterOffline st)) =
      (Except.ok t : Except Result State)) : Inv b none none (core t) := by
    split at ht
    · cases ht
    · next hno =>
      cases ht
      have hnone : (s.station st).ctx = none := Option.not_isSome_iff_eq_none.mp hno
      refine h.enterOffline (congrArg (Option.map ctxCore) hnone) hst.settled.2 ?_
      obtain e | e := hst <;> exact e.trans_ne nofun
  unfold State.offlineStation at ht
  split at ht
  case h_5 hst => exact hheld (.inl hst) ht
  case h_6 hst => exact hheld (.inr hst) ht
  case h_7 => cases ht
  all_goals
    next hst =>
      cases ht
      rw [hst] at hok
      exact h.enterOffline hok (hst.trans_ne nofun) (hst.trans_ne nofun)

theorem Inv.bindStation {t : State} (h : Inv b none none (core s)) (n : Fin 16) (ht : s.bindStation st n = .ok t) : Inv b none none (core t) := by
  have hbound := h.modStation st (f := fun x => { x with boundRecipe := n }) fun _ => rfl
  unfold State.bindStation at ht
  dsimp only at ht
  split at ht
  · cases ht
  · split at ht
    · cases ht
      exact Inv.lookCalling (by rwa [core_resolveAfresh]) st
    · split at ht
      · cases ht
        rwa [core_resolveAfresh]
      · cases ht
        exact hbound

theorem Inv.clearStation {t : State} (h : Inv b none none (core s)) (ht : s.clearStation st = .ok t) : Inv b none none (core t) := by
  unfold State.clearStation at ht
  split at ht
  · cases ht
  · next hclear =>
    cases ht
    exact h.recover (.inr (not_not.mp (not_or.mp hclear).1))

/-! ### Timers and silence -/

/-- A timer of a context runs in its state alone. -/
theorem state_of_due {x : StationState} {timer : Context → Timer} (h : (s.cycleTimer st x timer).due s.now = true) :
    (s.station st).state = x := by
  unfold State.cycleTimer at h
  split at h
  · assumption
  · cases h

theorem Inv.onDue (h : Inv b none none (core s)) {t : Timer} {act : State → Time → State}
    (hact : t.due s.now = true → ∀ a, Inv b none none (core (act s a))) : Inv b none none (core (s.onDue t act)) := by
  unfold State.onDue
  split
  · next hdue => exact hact hdue _
  · exact h

theorem Inv.withCtx (h : Inv b none none (core s)) {act : Context → State}
    (hact : ∀ c, (s.station st).ctx = some c → Inv b none none (core (act c))) : Inv b none none (core (s.withCtx st act)) := by
  unfold State.withCtx
  cases hc : s.ctx? st with
  | none => exact h
  | some c => exact hact c hc

/-- The silence of an entry, reported to the block of its role (R174). -/
theorem Inv.reportSilence (h : Inv b none none (core s)) (e : RouteEntry) (t : Time) : Inv b none none (core (s.reportSilence e t)) := by
  unfold State.reportSilence
  split
  · exact h.takeWeigherCause _ _
  · split
    · exact h
    · next st _ =>
      split
      · exact Inv.takeCause (by rwa [core_zeroDuty]) st _
      · split
        · exact (h.modStation st (f := fun x => { x with pressAuto := false }) fun _ => rfl).takeCause st _
        · split
          · exact h.takeCause st _
          · exact h

theorem Inv.becomeSilent (h : Inv b none none (core s)) (i : Fin 32) (t : Time) : Inv b none none (core (s.becomeSilent i t)) := by
  unfold State.becomeSilent
  refine Inv.reportSilence ?_ _ _
  rw [core_raise, core_modPort]
  exact h

end

end Sys2Proof.Claim
end

section
/-! PROOFS. The store's requests and sends (R157 to R165) keep the invariants of the cell and of the store. -/

namespace Sys2Proof.Claim

open Sys2Proof.Machine

/-! ### The store alone -/

namespace StoreOk

variable {z : StoreCore} (h : StoreOk z)
include h

/-- A position within the store has its place behind the oldest record. -/
theorem dist_next : (z.next - z.oldest).toNat = z.ring.length := by
  have := h.length_le
  rw [h.next]
  bv_omega

/-- The sender changes. -/
theorem setSender {y : Option Sending} (hy : SendFits { z with sender := y }) : StoreOk { z with sender := y } := by
  obtain ⟨hheld, hfits, hres, hsizes, hnext, hcursor, hauto, -⟩ := h
  exact ⟨hheld, hfits, hres, hsizes, hnext, hcursor, hauto, hy⟩

/-- Both positions of an idle sender move within the store (R158). -/
theorem moveCursor {p : Time} (hsender : z.sender = none) (hp : (p - z.oldest).toNat ≤ z.ring.length) :
    StoreOk { z with cursor := p, autoPos := p } := by
  obtain ⟨hheld, hfits, hres, hsizes, hnext, -, -, -⟩ := h
  exact ⟨hheld, hfits, hres, hsizes, hnext, hp, Nat.le_refl _, fun y hy => absurd (hsender.symm.trans hy) nofun⟩

/-- A record read is passed (R159). -/
theorem finishRead {y : Sending} (hy : z.sender = some y) (hcut : y.cut = false) (horigin : y.origin = .read) :
    StoreOk { z with cursor := z.cursor + 1, autoPos := z.autoPos + 1, sender := none } := by
  have hlen := h.length_le
  have hdist := h.dist_next
  obtain ⟨hheld, hfits, hres, hsizes, hnext, hcursor, hauto, hsend⟩ := h
  obtain ⟨-, hread, -⟩ := hsend y hy hcut
  obtain ⟨hsame, hne⟩ := hread horigin
  have hlt : (z.cursor - z.oldest).toNat < z.ring.length := by
    refine lt_of_le_of_ne hcursor fun e => hne ?_
    rw [← hdist] at e
    have := BitVec.eq_of_toNat_eq e
    bv_omega
  have hsucc : (z.cursor + 1 - z.oldest).toNat = (z.cursor - z.oldest).toNat + 1 := by bv_omega
  refine ⟨hheld, hfits, hres, hsizes, hnext, ?_, ?_, nofun⟩
  · show (z.cursor + 1 - z.oldest).toNat ≤ z.ring.length
    omega
  · show (z.autoPos + 1 - z.oldest).toNat ≤ (z.cursor + 1 - z.oldest).toNat
    rw [hsame]

/-- A record sent on its own account is passed (R162). -/
theorem finishAuto {y : Sending} (hy : z.sender = some y) (hcut : y.cut = false) (horigin : y.origin = .auto) :
    StoreOk { z with autoPos := z.autoPos + 1, sender := none } := by
  have hlen := h.length_le
  obtain ⟨hheld, hfits, hres, hsizes, hnext, hcursor, hauto, hsend⟩ := h
  obtain ⟨-, -, hsent⟩ := hsend y hy hcut
  have hne := hsent horigin
  have hlt : (z.autoPos - z.oldest).toNat < (z.cursor - z.oldest).toNat := by
    refine lt_of_le_of_ne hauto fun e => hne ?_
    have := BitVec.eq_of_toNat_eq e
    bv_omega
  have hsucc : (z.autoPos + 1 - z.oldest).toNat = (z.autoPos - z.oldest).toNat + 1 := by bv_omega
  refine ⟨hheld, hfits, hres, hsizes, hnext, hcursor, ?_, nofun⟩
  show (z.autoPos + 1 - z.oldest).toNat ≤ (z.cursor - z.oldest).toNat
  omega

/-- The records below the cursor are released (R164). -/
theorem release (hsender : z.sender = none) (hauto : z.autoPos = z.cursor) : StoreOk { z with
    ring := z.ring.drop (z.cursor - z.oldest).toNat, oldest := z.cursor,
    held := z.held - ((z.ring.take (z.cursor - z.oldest).toNat).map List.length).sum } := by
  have hlen := h.length_le
  obtain ⟨hheld, hfits, hres, hsizes, hnext, hcursor, -, -⟩ := h
  have hsum : ((z.ring.take (z.cursor - z.oldest).toNat).map List.length).sum + ((z.ring.drop (z.cursor - z.oldest).toNat).map List.length).sum =
      (z.ring.map List.length).sum := by
    rw [← List.sum_append, ← List.map_append, List.take_append_drop]
  refine ⟨?_, ?_, hres, fun r hr => hsizes r (List.mem_of_mem_drop hr), ?_, ?_, ?_, fun y hy => absurd (hsender.symm.trans hy) nofun⟩
  · show z.held - _ = ((z.ring.drop _).map List.length).sum
    omega
  · show z.held - _ + 168 * z.reservations ≤ 16384
    omega
  · show z.next = z.cursor + BitVec.ofNat 32 (z.ring.drop (z.cursor - z.oldest).toNat).length
    rw [hnext, List.length_drop]
    bv_omega
  · show (z.cursor - z.cursor).toNat ≤ _
    rw [BitVec.sub_self]
    exact Nat.zero_le _
  · show (z.autoPos - z.cursor).toNat ≤ _
    rw [hauto]

end StoreOk

/-! ### Spacing (R163) -/

/-- Spacing stops within the store, forward. -/
theorem dist_spaceForward {x : Store} (h : StoreOk (storeCore x)) (n : Nat) {p : Time} (hp : (p - x.oldest).toNat ≤ x.ring.length) :
    ((x.spaceForward n p).1 - x.oldest).toNat ≤ x.ring.length := by
  have hdist : (x.next - x.oldest).toNat = x.ring.length := h.dist_next
  have hlen : x.ring.length ≤ 1024 := h.length_le
  induction n generalizing p with
  | zero => exact hp
  | succ n ih =>
    have hsucc (hne : p ≠ x.next) : (p + 1 - x.oldest).toNat ≤ x.ring.length := by
      have hlt : (p - x.oldest).toNat < x.ring.length := by
        refine lt_of_le_of_ne hp fun e => hne ?_
        rw [← hdist] at e
        have := BitVec.eq_of_toNat_eq e
        bv_omega
      bv_omega
    unfold Store.spaceForward
    split
    · exact hp
    · next hne =>
      split
      · exact hsucc hne
      · exact ih (hsucc hne)

/-- Spacing stops within the store, in reverse. -/
theorem dist_spaceReverse {x : Store} (n : Nat) {p : Time} (hp : (p - x.oldest).toNat ≤ x.ring.length) :
    ((x.spaceReverse n p).1 - x.oldest).toNat ≤ x.ring.length := by
  induction n generalizing p with
  | zero => exact hp
  | succ n ih =>
    have hpred (hne : p ≠ x.oldest) : (p - 1 - x.oldest).toNat ≤ x.ring.length := by
      have hzero : (p - x.oldest).toNat ≠ 0 := fun e => hne (by
        have : p - x.oldest = 0#32 := BitVec.eq_of_toNat_eq e
        bv_omega)
      have : (p - 1 - x.oldest).toNat = (p - x.oldest).toNat - 1 := by bv_omega
      omega
    unfold Store.spaceReverse
    split
    · exact hp
    · next hne =>
      split
      · exact hpred hne
      · exact ih (hpred hne)

end Sys2Proof.Claim
end

section
/-! PROOFS. The store's part in the port's steps and in the requests (R157 to R165, R178) keeps the invariants of the cell and of the store. -/

namespace Sys2Proof.Claim

open Sys2Proof.Machine

section
variable {b : Bool} {s : State}

/-- A write of the store beside its policy and its reservations. -/
theorem Inv.modStore (h : Inv b none none (core s)) {f : Store → Store} (hpolicy : (f s.store).settings.policy = s.store.settings.policy)
    (hres : (f s.store).reservations = s.store.reservations) (hf : StoreOk (storeCore s.store) → StoreOk (storeCore (f s.store))) :
    Inv b none none (core (s.modStore f)) :=
  h.setStore (z := storeCore (f s.store)) fun hb => ⟨hf (h.store hb).store, hpolicy, hres⟩

/-! ### The port's steps (R159 to R162, R178, R192) -/

theorem sendFits_answered {z : StoreCore} (h : SendFits z) :
    SendFits { z with sender := z.sender.map fun y => { y with answered := true } } := by
  intro y hy hcut
  obtain ⟨x, hx, rfl⟩ := Option.map_eq_some_iff.mp hy
  exact h x hx hcut

/-- An answer part is placed (R192). -/
theorem Inv.placeAnswer (h : Inv b none none (core s)) : Inv b none none (core s.placeAnswer) := by
  unfold State.placeAnswer
  split
  · dsimp only
    split
    · refine Inv.modStore (s := State.modPort _ _) ?_ ?_ ?_ ?_
      · exact h
      · rfl
      · rfl
      · exact fun hok => hok.setSender (sendFits_answered hok.sender)
    · exact h
  · exact h

theorem Inv.placeNotice (h : Inv b none none (core s)) : Inv b none none (core s.placeNotice) := by
  unfold State.placeNotice
  split
  · exact h
  · split <;> exact h

theorem storeCore_finishSend (x : Store) (y : Sending) : storeCore (x.finishSend y) = match y.origin with
    | .read => { storeCore x with cursor := x.cursor + 1, autoPos := x.autoPos + 1, sender := none }
    | .auto => { storeCore x with autoPos := x.autoPos + 1, sender := none } := by
  unfold Store.finishSend
  cases y.origin <;> rfl

theorem finishSend_keeps (x : Store) (y : Sending) :
    (x.finishSend y).settings = x.settings ∧ (x.finishSend y).reservations = x.reservations := by
  unfold Store.finishSend
  cases y.origin <;> exact ⟨rfl, rfl⟩

theorem storeOk_finishSend {x : Store} {y : Sending} (h : StoreOk (storeCore x)) (hy : x.sender = some y) (hcut : y.cut = false) :
    StoreOk (storeCore (x.finishSend y)) := by
  rw [storeCore_finishSend]
  cases ho : y.origin with
  | read => exact h.finishRead hy hcut ho
  | auto => exact h.finishAuto hy hcut ho

/-- A segment is placed (R160, R161). -/
theorem Inv.placeSegment (h : Inv b none none (core s)) : Inv b none none (core s.placeSegment) := by
  unfold State.placeSegment
  split
  · exact h
  · next y hy =>
    have hplaced (f : OutFrame) : Inv b none none (core (s.placeReport .sender f)) := h
    split
    · exact (hplaced _).modStore rfl rfl fun hok => hok.setSender nofun
    · next hcut =>
      have hwhole : y.cut = false := by simpa using hcut
      dsimp only
      split
      · obtain ⟨hsettings, hres⟩ := finishSend_keeps s.store y
        rw [core_testBacklog]
        exact (hplaced _).modStore (congrArg HistorySettings.policy hsettings) hres fun hok => storeOk_finishSend hok hy hwhole
      · refine (hplaced _).modStore rfl rfl fun hok => hok.setSender fun x hx hxcut => ?_
        cases hx
        exact hok.sender y hy hwhole

/-- A send of its own account starts (R162). -/
theorem Inv.startAutoSend (h : Inv b none none (core s)) (hready : s.store.autoReady = true) : Inv b none none (core s.startAutoSend) := by
  obtain ⟨-, hne⟩ := Bool.and_eq_true_iff.mp hready
  refine h.modStore rfl rfl fun hok => hok.setSender fun x hx _ => ?_
  cases hx
  exact ⟨rfl, nofun, fun _ => bne_iff_ne.mp hne⟩

/-! ### The history requests (R158, R159, R163 to R165) -/

/-- An idle sender and the cursor at the auto-send position. -/
theorem idle_of_not_busy {x : Store} (h : ¬x.busy = true) : x.sender = none ∧ x.autoPos = x.cursor := by
  rw [busy_iff, not_or, not_not, not_not] at h
  exact h

theorem core_historyReply (s : State) (code : Result) (fields : List Byte) : core (s.historyReply code fields).state = core s := rfl

theorem Inv.serveHistoryRead (h : Inv b none none (core s)) (src : Byte) : Inv b none none (core (s.serveHistoryRead src).state) := by
  unfold State.serveHistoryRead
  split
  · rwa [core_historyReply]
  · next hbusy =>
    obtain ⟨-, hauto⟩ := idle_of_not_busy hbusy
    split
    · rwa [core_historyReply]
    · next hmore =>
      dsimp only
      rw [core_historyReply]
      refine h.modStore rfl rfl fun hok => hok.setSender fun x hx _ => ?_
      cases hx
      exact ⟨hauto.symm, fun _ => ⟨hauto, hmore⟩, nofun⟩

theorem Inv.moveCursor (h : Inv b none none (core s)) (hbusy : ¬s.store.busy = true) {p : Time}
    (hp : StoreOk (storeCore s.store) → (p - s.store.oldest).toNat ≤ s.store.ring.length) : Inv b none none (core (s.moveCursor p)) := by
  unfold State.moveCursor
  rw [core_testBacklog]
  exact h.modStore rfl rfl fun hok => hok.moveCursor (idle_of_not_busy hbusy).1 (hp hok)

theorem Inv.serveHistorySpace (h : Inv b none none (core s)) (d n : Nat) : Inv b none none (core (s.serveHistorySpace d n).state) := by
  unfold State.serveHistorySpace
  split
  · rwa [core_historyReply]
  · next hbusy =>
    split
    · rwa [core_historyReply]
    · unfold State.spaceTo
      split
      · rw [core_historyReply]
        exact h.moveCursor hbusy fun hok => dist_spaceForward hok n hok.cursor
      · rw [core_historyReply]
        exact h.moveCursor hbusy fun hok => dist_spaceReverse n hok.cursor
      · rwa [core_historyReply]

theorem Inv.serveHistoryRewind (h : Inv b none none (core s)) : Inv b none none (core s.serveHistoryRewind.state) := by
  unfold State.serveHistoryRewind
  split
  · rwa [core_historyReply]
  · next hbusy =>
    rw [core_historyReply]
    refine h.moveCursor hbusy fun _ => ?_
    rw [BitVec.sub_self]
    exact Nat.zero_le _

theorem Inv.serveHistoryRelease (h : Inv b none none (core s)) : Inv b none none (core s.serveHistoryRelease.state) := by
  unfold State.serveHistoryRelease
  split
  · rwa [core_historyReply]
  · next hbusy =>
    obtain ⟨hsender, hauto⟩ := idle_of_not_busy hbusy
    have hreleased : Inv b none none (core (s.modStore Store.release).testLow) := by
      rw [core_testLow]
      exact h.modStore rfl rfl fun hok => hok.release hsender hauto
    rw [core_historyReply]
    unfold State.releaseRecords
    dsimp only
    split
    · exact hreleased.consider fun _ _ => nofun
    · exact hreleased

/-- A LOT_MARK is of 16 bytes (R153). -/
theorem length_lotMarkRecord (src : Byte) (x : Store) (lot : Nat) (t : Time) : (lotMarkRecord src x lot t).length = 16 :=
  (lotMarkRecord_fields src x lot t).1

theorem Inv.appendLotMark (h : Inv b none none (core s)) (hroom : s.store.settings.policy = .hold → 16 ≤ s.store.room) (src : Byte) (lot : Nat) :
    Inv b none none (core (s.appendLotMark src lot)) := by
  have hlength := length_lotMarkRecord src (s.makeRoom 16).store lot s.now
  unfold State.appendLotMark State.pushAndReport
  dsimp only
  generalize lotMarkRecord src (s.makeRoom 16).store lot s.now = bytes at hlength
  obtain ⟨z, hz, hpolicy, hres, hok⟩ := core_append (s := s) (bytes := bytes) true
  rw [hlength] at hz hok
  have hpushed : Inv b none none (core ((s.makeRoom 16).pushRecord bytes true)) := by
    rw [hz]
    refine h.setStore fun hb => ⟨hok (h.store hb).store ⟨le_refl _, by omega⟩ fun hp => ?_, hpolicy, hres⟩
    have := hroom hp
    rw [store_room] at this
    omega
  split
  · exact hpushed.consider fun _ _ => nofun
  · exact hpushed

theorem Inv.serveLotMark (h : Inv b none none (core s)) (src : Byte) (lot : Nat) : Inv b none none (core (s.serveLotMark src lot).state) := by
  unfold State.serveLotMark
  split
  · rwa [core_historyReply]
  · next hroom =>
    rw [core_historyReply]
    exact h.appendLotMark (fun hp => not_lt.mp fun hlt => hroom ⟨hp, hlt⟩) src lot

theorem Inv.serveAuto (h : Inv b none none (core s)) (on : Nat) : Inv b none none (core (s.serveAuto on).state) := by
  unfold State.serveAuto
  split
  · rw [core_historyReply]
    exact h.modStore rfl rfl id
  · rwa [core_historyReply]

/-! ### The history settings (R157) -/

/-- Outside RUN no station has a context (R187). -/
theorem Inv.noContexts (h : Inv b none none (core s)) (hm : s.mode ≠ .run) (st : Fin 6) : ((core s).station st).ctx = none := by
  have hok := h.ok st
  rwa [h.cell.online st nofun hm] at hok

theorem contexts_eq_nil {v : Core} (h : ∀ st, (v.station st).ctx = none) : contexts none v = [] :=
  List.filter_eq_nil_iff.mpr fun st _ => by simp [h st]

/-- Without contexts nothing is reserved, whatever the policy. -/
theorem StoreRest.unreserved {v : Core} (h : StoreRest none v) (hctx : ∀ st, (v.station st).ctx = none) : v.store.reservations = 0 := by
  cases hp : v.store.policy with
  | overwrite => exact h.store.unreserved hp
  | hold => rw [h.counted hp, contexts_eq_nil hctx, List.length_nil]

/-- Without contexts the policy may change. -/
theorem Inv.setPolicy {v : Core} (h : Inv b none none v) (hctx : ∀ st, (v.station st).ctx = none) (p : Policy) :
    Inv b none none { v with store := { v.store with policy := p } } := by
  obtain ⟨⟨hc, hqueue, hgranted, honline, hfree, hnodup, hcalled, hweigh⟩, hstore⟩ := h
  refine ⟨⟨hc, hqueue, hgranted, honline, hfree, hnodup, hcalled, hweigh⟩, fun hb => ?_⟩
  have hzero := (hstore hb).unreserved hctx
  obtain ⟨⟨h1, h2, -, h4, h5, h6, h7, h8⟩, -, hrecipes, -⟩ := hstore hb
  refine ⟨⟨h1, h2, fun _ => hzero, h4, h5, h6, h7, h8⟩, fun _ => ?_, hrecipes, fun st c _ hs => absurd ((hctx st).symm.trans hs) nofun⟩
  exact hzero.trans (congrArg List.length (contexts_eq_nil (v := v) hctx)).symm

theorem Inv.writeHistory (h : Inv b none none (core s)) (w : HistoryWrite) : Inv b none none (core (s.writeHistory w).state) := by
  unfold State.writeHistory
  split
  · exact h
  · next x _ =>
    split
    · exact h
    · next hallowed =>
      show Inv b none none (core (State.testLow _))
      rw [core_testLow, core_testBacklog]
      by_cases hp : x.policy = s.store.settings.policy
      · exact h.modStore hp rfl fun hok => by
          obtain ⟨h1, h2, h3, h4, h5, h6, h7, h8⟩ := hok
          exact ⟨h1, h2, fun ho => h3 (hp.symm.trans ho), h4, h5, h6, h7, h8⟩
      · have hconfig : s.mode = .config := by_contra fun hm => hallowed ⟨hm, hp⟩
        exact h.setPolicy (h.noContexts (hconfig.trans_ne nofun)) x.policy

end

end Sys2Proof.Claim
end

section
/-! PROOFS. RESTART and power-on (R184, R188), the modes (R187) and the tables keep the invariants of the cell and of the store. -/

namespace Sys2Proof.Claim

open Sys2Proof.Machine

/-! ### A part with every station OFFLINE -/

/-- Nothing runs: no context, no call, no grant. -/
structure Resting (v : Core) : Prop where
  station : ∀ st, v.station st = ⟨.offline, none⟩
  queue : v.queue = []
  called : v.called = none
  granted : v.granted = none
  weigher : ¬Weighing v.weigher

theorem Resting.inv {v : Core} (h : Resting v) {b : Bool}
    (hstore : b = true → StoreOk v.store ∧ v.store.reservations = 0 ∧ ∀ n : Fin 16, CountsFit v.recipes[n]) : Inv b none none v := by
  obtain ⟨hstation, hqueue, hcalled, hgranted, hweigher⟩ := h
  have hctx (st : Fin 6) : (v.station st).ctx = none := by rw [hstation]
  refine ⟨⟨fun st _ => ?_, fun st _ => ?_, fun st _ => ?_, fun st _ _ => ?_, nofun, ?_, ?_, ?_⟩, fun hb => ?_⟩
  · rw [hstation]
    rfl
  · rw [hstation, hqueue]
    exact iff_of_false List.not_mem_nil nofun
  · rw [hstation, hgranted]
    exact iff_of_false nofun nofun
  · rw [hstation]
  · rw [hqueue]
    exact List.nodup_nil
  · rw [hcalled, hgranted]
  · rw [hgranted]
    exact iff_of_false (not_not_intro rfl) hweigher
  · obtain ⟨hok, hres, hrecipes⟩ := hstore hb
    refine ⟨hok, fun _ => ?_, hrecipes, fun st c _ hc => absurd ((hctx st).symm.trans hc) nofun⟩
    rw [contexts_eq_nil hctx]
    exact hres

section
variable {b : Bool} {s : State}

/-- Power-on (R184). -/
theorem inv_powerOn (b : Bool) (k : BitVec 6) (l : List Instr) : Inv b none none (core { State.powerOn k with pending := l }) := by
  have hreset := (storeInvariant_iff State.reset).mp storeInvariant_reset
  refine Resting.inv ⟨fun st => ?_, rfl, rfl, rfl, not_weighing_idle⟩ fun _ => ⟨hreset.store, rfl, hreset.recipes⟩
  show stationCore ((State.powerOn k).station st) = _
  rw [station_powerOn]
  rfl

/-! ### RESTART (R166, R188) -/

/-- The send is abandoned and the reservations are released (R166). -/
theorem storeOk_abandon {x : Store} (h : StoreOk (storeCore x)) : StoreOk (storeCore x.abandon) := by
  obtain ⟨h1, h2, -, h4, h5, h6, h7, -⟩ := h
  have hfits : x.held + 168 * x.reservations ≤ 16384 := h2
  refine ⟨h1, ?_, fun _ => rfl, h4, h5, h7.trans h6, Nat.le_refl _, nofun⟩
  show x.held + 168 * 0 ≤ 16384
  omega

/-- The RESTART_MARK has an entry for each context, of which there are six at most. -/
theorem length_restartMark (s : State) (n : Nat) (h : s.markEntries ≠ []) :
    16 ≤ (restartMarkRecord s n s.markEntries).length ∧ (restartMarkRecord s n s.markEntries).length ≤ 168 := by
  have hlength : (restartMarkRecord s n s.markEntries).length = 12 + 6 * s.markEntries.length := (restartMarkRecord_fields s n _).1
  have hpos := List.length_pos_iff.mpr h
  have hle : s.markEntries.length ≤ 6 := (List.length_filterMap_le _ _).trans (List.length_finRange (n := 6)).le
  omega

/-- The store a RESTART leaves (R166). -/
theorem storeOk_appendRestartMark (h : StoreRest none (core s)) : StoreOk (storeCore s.appendRestartMark.store) := by
  have habandon := storeOk_abandon h.store
  by_cases hnone : ∀ st, (s.station st).ctx = none
  · rw [appendRestartMark_of_none hnone]
    exact habandon
  · obtain ⟨st, hst⟩ := not_forall.mp hnone
    have hentries : s.markEntries ≠ [] := fun e => hnone ((markEntries_eq_nil_iff s).mp e)
    have hsize := length_restartMark s s.store.reservations hentries
    have happend : s.appendRestartMark = ((s.modStore Store.abandon).makeRoom
        (restartMarkRecord s s.store.reservations s.markEntries).length).pushRecord
          (restartMarkRecord s s.store.reservations s.markEntries) false := if_neg fun e => hentries (List.isEmpty_iff.mp e)
    obtain ⟨z, hz, -, -, hok⟩ := core_append (s := s.modStore Store.abandon)
      (bytes := restartMarkRecord s s.store.reservations s.markEntries) false
    have hcore : storeCore s.appendRestartMark.store = z := by
      rw [happend]
      exact congrArg Core.store hz
    rw [hcore]
    refine hok habandon hsize fun hp => ?_
    have hsome : ((core s).station st).ctx.isSome = true := by
      obtain ⟨c, hc⟩ := Option.ne_none_iff_exists'.mp hst
      rw [core_ctx hc]
      rfl
    have hone : 1 ≤ s.store.reservations := one_le_reservations h hsome hp
    have hfits : s.store.held + 168 * s.store.reservations ≤ 16384 := h.store.fits
    show s.store.held + _ + 168 * 0 ≤ 16384
    omega

/-- RESTART (R188). -/
theorem Inv.restart (h : Inv b none none (core s)) : Inv b none none (core s.restart) := by
  obtain ⟨a, n, hrestart, -⟩ := restart_eq s
  have hcore : core s.restart = core (restartBase s s.appendRestartMark.store) := by
    rw [hrestart]
    rfl
  rw [hcore]
  refine Resting.inv ⟨fun st => ?_, rfl, rfl, rfl, not_weighing_idle⟩ fun hb => ⟨?_, ?_, (h.store hb).recipes⟩
  · rw [core_station, station_restartBase]
    rfl
  · exact storeOk_appendRestartMark (h.store hb)
  · exact (restartStore_kept s).2.2

theorem Inv.endTransmission (h : Inv b none none (core s)) : Inv b none none (core s.endTransmission) := by
  unfold State.endTransmission
  split
  · exact h.restart
  · exact h

/-! ### The modes (R187) -/

/-- The mode changes to RUN, or to another with every station OFFLINE. -/
theorem Inv.setMode {v : Core} (h : Inv b none none v) {m : Mode} (hm : m = .run ∨ ∀ st, (v.station st).state = .offline) :
    Inv b none none { v with mode := m } := by
  obtain ⟨⟨hc, hqueue, hgranted, -, hfree, hnodup, hcalled, hweigh⟩, hstore⟩ := h
  refine ⟨⟨hc, hqueue, hgranted, fun st _ hne => hm.resolve_left hne st, hfree, hnodup, hcalled, hweigh⟩, fun hb => ?_⟩
  exact (hstore hb).of_eq rfl rfl rfl fun _ hg => ⟨hg, rfl⟩

theorem allOffline_iff (s : State) : s.allOffline = true ↔ ∀ st, (s.station st).state = .offline := by
  simp [State.allOffline]

theorem Inv.serveModeSet (h : Inv b none none (core s)) (m : Nat) : Inv b none none (core (s.serveModeSet m).state) := by
  unfold State.serveModeSet
  split
  · split
    · exact h
    · next hallowed =>
      refine h.setMode (m := .config) (.inr fun st => ?_)
      by_cases hrun : s.mode = .run
      · have hoff : s.allOffline = true := by_contra fun hno => hallowed ⟨hrun, by simpa using hno⟩
        exact (allOffline_iff s).mp hoff st
      · exact h.cell.online st nofun hrun
  · show Inv b none none (core s.enterRun)
    unfold State.enterRun
    split
    · exact h
    · have hmode : Inv b none none (core { s with mode := .run }) := h.setMode (m := .run) (.inl rfl)
      exact hmode.consider fun _ _ => nofun
  · exact h

/-! ### The tables -/

/-- A recipe write checks the counts (R98, R121). -/
theorem countsFit_of_recipeOf? {w : RecipeWrite} {rev : Half} {r : Recipe} (h : recipeOf? w rev = some r) : CountsFit r := by
  unfold recipeOf? at h
  split at h
  · next hin =>
    split at h
    · cases h
      obtain ⟨-, -, -, -, -, -, -, h1, -, -, h2, h3, h4⟩ := (recipeInRange_iff _).mp hin.2
      have hretry : w.retryLimit ≤ 3 := by omega
      exact ⟨h1, h3, h2, hretry⟩
    · cases h
  · cases h

theorem countsFit_set {l : Vector Recipe 16} (h : ∀ n : Fin 16, CountsFit l[n]) (i : Fin 16) {r : Recipe} (hr : CountsFit r) (n : Fin 16) :
    CountsFit (l.set i r)[n] := by
  by_cases hin : i.val = n.val
  · obtain rfl := Fin.ext hin
    rwa [Fin.getElem_fin, Vector.getElem_set_self]
  · rw [Fin.getElem_fin, Vector.getElem_set_ne _ _ hin]
    exact h n

theorem Inv.setRecipes {v : Core} (h : Inv b none none v) {l : Vector Recipe 16} (hl : b = true → ∀ n : Fin 16, CountsFit l[n]) :
    Inv b none none { v with recipes := l } := by
  obtain ⟨⟨hc, hqueue, hgranted, honline, hfree, hnodup, hcalled, hweigh⟩, hstore⟩ := h
  refine ⟨⟨hc, hqueue, hgranted, honline, hfree, hnodup, hcalled, hweigh⟩, fun hb => ?_⟩
  obtain ⟨h1, h2, -, h4⟩ := hstore hb
  refine ⟨h1, h2, hl hb, fun st c hy hs => ?_⟩
  obtain ⟨hfits, hres, hpieces⟩ := h4 st c hy hs
  exact ⟨hfits, hres, hpieces⟩

theorem core_withRecipes (s : State) (l : Vector Recipe 16) : core { s with recipes := l } = { core s with recipes := l } := rfl

theorem Inv.foldl_lookCalling (p : Station → Prop) [DecidablePred p] (l : List (Fin 6)) {s : State} (h : Inv b none none (core s)) :
    Inv b none none (core (l.foldl (fun (t : State) (st : Fin 6) => if p (t.station st) then t.lookCalling st else t) s)) := by
  induction l generalizing s with
  | nil => exact h
  | cons st l ih =>
    refine ih ?_
    dsimp only
    split
    · exact h.lookCalling st
    · exact h

theorem Inv.replaceRecipe (h : Inv b none none (core s)) (i : Fin 16) {r : Recipe} (hr : CountsFit r) :
    Inv b none none (core (s.replaceRecipe i r)) := by
  have hset : Inv b none none (core { s with recipes := s.recipes.set i r }) := by
    rw [core_withRecipes]
    exact h.setRecipes fun hb => countsFit_set (h.store hb).recipes i hr
  unfold State.replaceRecipe
  exact hset.foldl_lookCalling (fun x => x.boundRecipe = i) (List.finRange 6)

theorem Inv.writeRecipe (h : Inv b none none (core s)) (n : Nat) (w : RecipeWrite) : Inv b none none (core (s.writeRecipe n w).state) := by
  unfold State.writeRecipe
  split
  · exact h
  · next i _ =>
    split
    · next r hr =>
      dsimp only [taken]
      exact h.replaceRecipe i (countsFit_of_recipeOf? hr)
    · exact h

theorem core_applyProfiles (s : State) : core s.applyProfiles = core s := by
  have hfold (l : List (Fin 6)) (t : State) : core (l.foldl (fun (t : State) (st : Fin 6) => t.rereadGroups st) t) = core t := by
    induction l generalizing t with
    | nil => rfl
    | cons st l ih => rw [List.foldl_cons, ih, core_rereadGroups]
  exact hfold _ _

/-- The writes of the tables beside recipes and history settings. -/
theorem core_writeRoute (s : State) (n : Nat) (w : RouteWrite) : core (s.writeRoute n w).state = core s := by
  unfold State.writeRoute
  split
  · rfl
  · split
    · rfl
    · split <;> rfl

theorem stationCore_rewriteZone (x : Station) (i : Fin 16) (e : ZoneEntry) : stationCore (x.rewriteZone i e) = stationCore x := by
  unfold Station.rewriteZone
  dsimp only
  split <;> rfl

theorem stationCore_clearZone (x : Station) (i : Fin 16) : stationCore (x.clearZone i) = stationCore x := by
  unfold Station.clearZone
  dsimp only
  split <;> rfl

theorem core_writeStation (s : State) (n : Nat) (w : StationSettings) : core (s.writeStation n w).state = core s := by
  unfold State.writeStation
  split
  · rfl
  · split
    · rfl
    · split
      · exact core_modStation_beside s _ fun _ => rfl
      · rfl

theorem core_writeZone (s : State) (n k : Nat) (w : ZoneWrite) : core (s.writeZone n k w).state = core s := by
  unfold State.writeZone
  split
  · split
    · rfl
    · split
      · exact core_modStation_beside s _ fun x => stationCore_rewriteZone x _ _
      · rfl
  · rfl

theorem core_serveZoneClear (s : State) (n k : Nat) : core (s.serveZoneClear n k).state = core s := by
  unfold State.serveZoneClear
  split
  · split
    · rfl
    · exact core_modStation_beside s _ fun x => stationCore_clearZone x _
  · rfl

theorem core_writeProfile (s : State) (n : Nat) (w : Profile) : core (s.writeProfile n w).state = core s := by
  unfold State.writeProfile
  split
  · rfl
  · split <;> rfl

theorem core_writeRate (s : State) (t e n : Nat) : core (s.writeRate t e n).state = core s := by
  unfold State.writeRate
  split
  · split <;> rfl
  · rfl

theorem core_writeWeigher (s : State) (w : WeigherSettings) : core (s.writeWeigher w).state = core s := by
  unfold State.writeWeigher
  split
  · split <;> rfl
  · rfl

end

end Sys2Proof.Claim
end

section
/-! PROOFS. O7 and O8: every step keeps the invariants of the cell and of the store. -/

namespace Sys2Proof.Claim

open Sys2Proof.Machine

section
variable {b : Bool} {s : State}

/-! ### Requests -/

/-- A station command keeps what each of its outcomes keeps. -/
theorem Inv.onStation (h : Inv b none none (core s)) (n : Nat) {f : Fin 6 → Except Result State}
    (hf : ∀ st t, f st = .ok t → Inv b none none (core t)) : Inv b none none (core (s.onStation n f).state) := by
  obtain e | ⟨st, e⟩ := s.onStation_cases n f
  · rwa [e]
  · exact hf st _ e

theorem Inv.serveBind (h : Inv b none none (core s)) (n r : Nat) : Inv b none none (core (s.serveBind n r).state) := by
  refine h.onStation n fun st t ht => ?_
  split at ht
  · cases ht
  · exact h.bindStation _ ht

theorem Inv.serveTare (h : Inv b none none (core s)) (hd : ReqHeader) : Inv b none none (core (s.serve hd .tare)) := by
  unfold State.serve
  dsimp only
  split
  · next hidle => exact h.startTaring (by rw [hidle]; exact not_weighing_idle) _ _
  · exact h

theorem Inv.serveReset (h : Inv b none none (core s)) : Inv b none none (core s.serveReset.state) := by
  unfold State.serveReset
  split
  · exact h
  · next hallowed =>
    have hfault : s.weigher.state = .fault := not_not.mp (not_or.mp hallowed).1
    exact h.resetWeigher (by rw [hfault]; simp [Weighing])

theorem core_serveStatusStation (s : State) (n : Nat) : core (s.serveStatusStation n).state = core s := by
  unfold State.serveStatusStation
  split <;> rfl

theorem core_serveNoticeMask (s : State) (m : Vector Nat 11) : core (s.serveNoticeMask m).state = core s := by
  unfold State.serveNoticeMask
  split
  · dsimp only [taken]
    exact core_modPort s _
  · rfl

/-- A request is served, in another mode than ISOLATED. -/
theorem Inv.serve (h : Inv b none none (core s)) (hd : ReqHeader) (r : Request) (hm : s.mode ≠ .isolated) :
    Inv b none none (core (s.serve hd r)) := by
  cases r with
  | tare => exact h.serveTare hd
  | modeSet m => exact h.serveModeSet m
  | entryWriteRoute n w =>
    show Inv b none none (core (s.writeRoute n w).state)
    rwa [core_writeRoute]
  | entryReadRoute n =>
    show Inv b none none (core (s.readRouteEntry n).state)
    rwa [State.state_readRouteEntry]
  | entryWriteStation n w _ =>
    show Inv b none none (core (s.writeStation n w).state)
    rwa [core_writeStation]
  | entryReadStation n =>
    show Inv b none none (core (s.readStation n).state)
    rwa [State.state_readStation]
  | entryWriteZone n z w =>
    show Inv b none none (core (s.writeZone n z w).state)
    rwa [core_writeZone]
  | entryReadZone n z =>
    show Inv b none none (core (s.readZoneEntry n z).state)
    rwa [State.state_readZoneEntry]
  | entryWriteProfile n w =>
    show Inv b none none (core (s.writeProfile n w).state)
    rwa [core_writeProfile]
  | entryReadProfile n c =>
    show Inv b none none (core (s.readProfileCopy n c).state)
    rwa [State.state_readProfileCopy]
  | entryWriteRecipe n w => exact h.writeRecipe n w
  | entryReadRecipe n =>
    show Inv b none none (core (s.readRecipeEntry n).state)
    rwa [State.state_readRecipeEntry]
  | entryWriteRate t e f =>
    show Inv b none none (core (s.writeRate t e f).state)
    rwa [core_writeRate]
  | entryReadRate t e =>
    show Inv b none none (core (s.readRate t e).state)
    rwa [State.state_readRate]
  | entryWriteWeigher w =>
    show Inv b none none (core (s.writeWeigher w).state)
    rwa [core_writeWeigher]
  | entryWriteHistory w => exact h.writeHistory w
  | profilesApply =>
    show Inv b none none (core s.applyProfiles)
    rwa [core_applyProfiles]
  | start n => exact h.onStation n fun st t ht => h.startStation ht
  | stop n => exact h.onStation n fun st t ht => by cases ht; exact h.stopStation st
  | abort n => exact h.onStation n fun st t ht => h.abortStation ht
  | park n => exact h.onStation n fun st t ht => h.parkStation ht
  | unpark n => exact h.onStation n fun st t ht => h.unparkStation ht
  | online n => exact h.onStation n fun st t ht => h.onlineStation hm ht
  | offline n => exact h.onStation n fun st t ht => h.offlineStation ht
  | bind n r => exact h.serveBind n r
  | clear n => exact h.onStation n fun st t ht => h.clearStation ht
  | stationCommandUnknown _ n => exact h.onStation n fun st t ht => nomatch ht
  | zoneClear n z =>
    show Inv b none none (core (s.serveZoneClear n z).state)
    rwa [core_serveZoneClear]
  | reset => exact h.serveReset
  | statusStation n =>
    show Inv b none none (core (s.serveStatusStation n).state)
    rwa [core_serveStatusStation]
  | historyRead => exact h.serveHistoryRead _
  | historySpace d n => exact h.serveHistorySpace d n
  | historyRewind => exact h.serveHistoryRewind
  | historyRelease => exact h.serveHistoryRelease
  | lotMark l => exact h.serveLotMark _ l
  | auto o => exact h.serveAuto o
  | noticeMask m =>
    show Inv b none none (core (s.serveNoticeMask m).state)
    rwa [core_serveNoticeMask]
  | ping =>
    show Inv b none none (core s.servePing.state)
    exact h
  | entryReadWeigher =>
    show Inv b none none (core s.readWeigher.state)
    exact h
  | entryReadHistory =>
    show Inv b none none (core s.readHistorySettings.state)
    exact h
  | statusDevice =>
    show Inv b none none (core s.serveStatusDevice.state)
    exact h
  | statusWeigher =>
    show Inv b none none (core s.serveStatusWeigher.state)
    exact h
  | statusStore =>
    show Inv b none none (core s.serveStatusStore.state)
    exact h
  | weigherCommandUnknown =>
    show Inv b none none (core (refuse s .unknown).state)
    exact h
  | unknown =>
    show Inv b none none (core (refuse s .unknown).state)
    exact h
  | malformed =>
    show Inv b none none (core (refuse s .badContent).state)
    exact h
  | restart =>
    show Inv b none none (core (s.answer _ _ _ _ _ _))
    rwa [core_answer]

theorem Inv.takeRequest (h : Inv b none none (core s)) (hd : ReqHeader) (r : Request) (hm : s.mode ≠ .isolated) :
    Inv b none none (core (s.takeRequest hd r)) := by
  obtain e | e | ⟨-, e⟩ := s.takeRequest_cases hd r
  · rwa [e]
  · rw [e]
    exact h
  · rw [e]
    exact h.serve hd r hm

/-! ### Frames on ring-in (R170) -/

theorem core_forward (s : State) (f : Frame) : core (s.forward f) = core s := by
  unfold State.forward
  split <;> rfl

/-- The work of a block on a sample. -/
theorem Inv.sampleWork (h : Inv b none none (core s)) {t : State} (ht : SampleWork s t) : Inv b none none (core t) := by
  cases ht with
  | none => exact h
  | heat st m => exact h.heatWork st m
  | press st m => exact h.pressWork st m
  | eject st m => exact h.ejectWork st m
  | weigh m => exact h.weighWork m

/-- An ISOLATED part counts and forwards (R186). -/
theorem Inv.ringIn_isolated (h : Inv b none none (core s)) (f : Frame) (hm : s.mode = .isolated) : Inv b none none (core (s.ringIn f)) := by
  unfold State.ringIn State.ownAddress?
  rw [if_pos hm]
  dsimp only
  split
  · exact h
  · split
    · exact h
    · rwa [core_forward]

theorem Inv.ringIn (h : Inv b none none (core s)) (f : Frame) : Inv b none none (core (s.ringIn f)) := by
  by_cases hm : s.mode = .isolated
  · exact h.ringIn_isolated f hm
  · refine State.ringIn_induction (P := fun t => Inv b none none (core t)) h h (fun t ht => ?_) (fun key => ?_) (fun i t ht => ?_)
      fun _ hd r => h.takeRequest hd r hm
    · rwa [core_forward]
    · rwa [core_raise]
    · exact Inv.sampleWork (s := s.hearNode i) h ht

theorem Inv.ringRequest (h : Inv b none none (core s)) (hd : ReqHeader) (r : Request) : Inv b none none (core (s.ringRequest hd r)) := by
  by_cases hm : s.mode = .isolated
  · unfold State.ringRequest State.ownAddress?
    rw [if_pos hm]
    dsimp only
    split
    · exact h
    · rwa [core_forward]
  · obtain e | e | e := s.ringRequest_cases hd r
    · rwa [e]
    · rw [e, core_forward]
      exact h
    · rw [e]
      exact h.takeRequest hd r hm

/-! ### Every command -/

/-- The work of every command keeps the invariants. -/
theorem Inv.work (h : Inv b none none (core s)) (i : Instr) : Inv b none none (core (s.work i)) := by
  cases i with
  | powerOnReset k => exact inv_powerOn b k s.pending
  | ringInFrame f => exact h.ringIn f
  | heatSample f | pressSample f | ejectSample f | weighSample f => exact h.ringIn _
  | silenceExpiry e =>
    show Inv b none none (core ((s.silenceDue? e).elim s (s.becomeSilent e)))
    cases s.silenceDue? e with
    | none => exact h
    | some t => exact h.becomeSilent e t
  | holdExpiry st =>
    simp only [State.work]
    split
    · next hdue => exact h.holdExpired (by simpa using (Bool.and_eq_true_iff.mp hdue).1)
    · exact h
  | loadTimeout st => exact h.onDue fun _ t => h.takeCause st _
  | wallMinimumExpiry st => exact h.onDue fun hdue t => h.withCtx fun c _ => h.wallMinExpired (state_of_due hdue) c t
  | wallMaximumExpiry st => exact h.onDue fun hdue t => h.wallMaxExpired (state_of_due hdue) t
  | openTimeout st => exact h.onDue fun hdue t => h.endCycle (.inl (state_of_due hdue)) _ t
  | attemptTimerExpiry st => exact h.onDue fun _ t => h.withCtx fun c hc => h.attemptExpired hc t
  | pieceWaitExpiry => exact h.onDue fun _ t => h.pieceWaitExpired t
  | settleTimerExpiry => exact h.onDue fun _ t => h.settleExpired t
  | clearTimerExpiry => exact h.onDue fun _ t => h.clearExpired t
  | transmissionEnd => exact h.endTransmission
  | restartTakeEffect =>
    simp only [State.work]
    split
    · exact h.restart
    · exact h
  | noticeEmit =>
    simp only [State.work]
    split
    · exact h.placeNotice
    · exact h
  | segmentPlace =>
    simp only [State.work]
    split
    · exact h.placeSegment
    · exact h
  | autoSendStart =>
    simp only [State.work]
    split
    · next hready => exact h.startAutoSend hready
    · exact h
  | answerPartPlace =>
    simp only [State.work]
    split
    · exact h.placeAnswer
    · exact h
  | _ => exact h.ringRequest _ _

/-- Every step keeps the invariants. -/
theorem Inv.step (h : Inv b none none (core s)) {t : State} (ht : step s = .next t) : Inv b none none (core t) := by
  unfold Machine.step at ht
  split at ht
  · cases ht
    unfold State.idle
    split <;> exact h
  · next i rest _ =>
    rw [exec_eq_work] at ht
    cases ht
    rw [core_beginSend]
    exact Inv.work (s := { s with pending := rest }) h i

end

/-- Settles O7. -/
theorem cellInvariantKept : Obligations.CellInvariantKept := fun s t hs hstep =>
  (inv_false_iff t).mpr (((inv_false_iff s).mp hs).step hstep)

/-- Settles O8. -/
theorem storeInvariantKept : Obligations.StoreInvariantKept := fun s t hcell hstore hstep =>
  ((inv_true_iff t).mpr (((inv_true_iff s).mp ⟨hcell, hstore⟩).step hstep)).2

end Sys2Proof.Claim
end
